-- ==== Sys2Proof/Word.lean ====
section
/-! DEFINITION. The bit widths of the LT316: bytes and two-byte fields of frames (spec/09 R166), ring times (spec/01 R1), line positions (spec/01 R4) and sets of lanes (spec/09 R166, Span). -/

namespace Sys2Proof

/-- One byte of a ring frame or a table field. -/
abbrev Byte := BitVec 8

/-- A two-byte field: piece number, batch number, check. -/
abbrev Half := BitVec 16

/-- A ring time, counted modulo 2^24 (R1). -/
abbrev Stamp := BitVec 24

/-- A line position, counted modulo 2^32 (R4). -/
abbrev Pos := BitVec 32

/-- A 32-bit wrapping count (R56, R76, R179). -/
abbrev Count := BitVec 32

/-- A set of lanes: bit 0 is lane 1, bit 3 is lane 4 (R166, READY span). -/
abbrev Span := BitVec 4

end Sys2Proof
end

