-- ==== Sys2Proof/Syntax.lean ====
section
/-! DEFINITION. The commands of the LT316: one constructor of `Instr` for each row of spec/opcode_table.json. A reception command carries a whole frame: its envelope (destination, source, marks, check) and the fields of its body in the layout of spec/09 R166. -/

namespace Sys2Proof

/-- What a received frame carries beside its kind and body (R166): destination, source, the mark byte
and the check as they arrived. -/
structure Envelope where
  dest : Byte
  src : Byte
  marks : Byte
  check : Half
  deriving DecidableEq, Repr

/-- What a RESTART FULL is taken with: its frame's envelope, and the strap levels at that moment (R178). -/
structure StrappedEnvelope where
  frame : Envelope
  straps : BitVec 5
  deriving DecidableEq, Repr

/-- The fields of a TICKET body, in the order of R166. -/
structure TicketFields where
  channel : Byte
  slot : Byte
  piece : Half
  article : Byte
  program : Byte
  span : Byte
  length : Half
  batch : Half
  doubt : Byte
  reason : Byte
  deriving DecidableEq, Repr

/-- The commands: the rows of spec/opcode_table.json. -/
inductive Instr where
  /-- POWER_ON (R162): power is applied while the address straps show `straps`. -/
  | powerOn (straps : BitVec 5)
  /-- RESET_ASSERT (R162): the RESET pin goes low. -/
  | resetAssert
  /-- RESET_RELEASE (R162): the RESET pin goes high while the straps show `straps`. -/
  | resetRelease (straps : BitVec 5)
  /-- RING_TICK (R1): 100 µs pass, and the FHOLD pin is read as `fhold` (true: asserted). -/
  | ringTick (fhold : Bool)
  /-- SYNC_PERIOD_END (R2): the earliest period end not yet taken is taken. -/
  | syncPeriodEnd
  /-- HISTORY_AGE_OUT (R14): samples past the age limit leave the travel history. -/
  | historyAgeOut
  /-- TRAVEL_LOSS (R16): the expiry of the travel-loss timer is taken. -/
  | travelLoss
  /-- IDLE_TIMEOUT (R126): the expiry of the idle timer is taken. -/
  | idleTimeout
  /-- HOLDOFF_END (R161): the end of the alert hold-off is taken. -/
  | holdoffEnd
  /-- RING_BREAK (R177): the oldest own-frame list entry of age 500 is timed out. -/
  | ringBreak
  /-- FHOLD_ASSERT (R109): a read that differs from the held level, as an assertion, is taken. -/
  | fholdAssert
  /-- FHOLD_RELEASE (R109): a read that differs from the held level, as a release, is taken. -/
  | fholdRelease
  /-- FRAME_RECEIVE (R168): a reception ends with these bytes after its start delimiter. -/
  | frameReceive (bytes : List Byte)
  /-- TRAVEL (R8): a TRAVEL frame completes on Ring In. -/
  | travel (e : Envelope) (delta : Half) (stamp : Stamp) (run : Byte)
  /-- EDGE (R24): an EDGE frame completes on Ring In. -/
  | edge (e : Envelope) (channel edge : Byte) (stamp : Stamp) (tag : Half)
  /-- READY (R97): a READY frame completes on Ring In. -/
  | ready (e : Envelope) (lane span article : Byte) (batch : Half)
  /-- WITHDRAW (R98): a WITHDRAW frame completes on Ring In. -/
  | withdraw (e : Envelope) (lane : Byte)
  /-- SLOT_FREE (R144): a SLOT_FREE frame completes on Ring In. -/
  | slotFree (e : Envelope) (channel slot : Byte) (piece : Half) (outcome : Byte)
  /-- GRANT_RETURN (R111): a GRANT frame completes on Ring In. -/
  | grantReturn (e : Envelope) (lane span : Byte) (piece : Half)
  /-- TICKET_RETURN (R142): a TICKET frame completes on Ring In. -/
  | ticketReturn (e : Envelope) (t : TicketFields)
  /-- OWN_FRAME_RETURN (R169): a frame of another kind the part sends completes on Ring In. -/
  | ownFrameReturn (e : Envelope) (kind : Byte) (body : List Byte)
  /-- TRANSIT_FORWARD (R172): an idle Ring Out begins to send the oldest transit frame. -/
  | transitForward
  /-- FRAME_INSERT (R173): an idle Ring Out begins to send the part's own oldest frame. -/
  | frameInsert
  /-- RING_OUT_COMPLETE (R172): Ring Out has sent its frame and idled two byte times. -/
  | ringOutComplete
  /-- LINE_STATE_QUEUE (R149): an owed LINE_STATE report is queued. -/
  | lineStateQueue
  /-- ALERT_QUEUE (R160): an OWED ALERT is queued. -/
  | alertQueue
  /-- TALLY_QUEUE (R131): TALLY frames of the front SENDING entry are queued. -/
  | tallyQueue
  /-- SEEK (R181): a SEEK request with its table and index. -/
  | seek (e : Envelope) (table index : Byte)
  /-- GET (R182): a GET request with its part number. -/
  | get (e : Envelope) (part : Byte)
  /-- PUT (R183): a PUT request with the entry's fields. -/
  | put (e : Envelope) (fields : List Byte)
  /-- COMMAND MODE RUN (R150). -/
  | modeRun (e : Envelope)
  /-- COMMAND MODE STOP (R152). -/
  | modeStop (e : Envelope)
  /-- COMMAND RESTART FULL (R162), while the address straps show `e.straps` (R178). -/
  | restartFull (e : StrappedEnvelope)
  /-- COMMAND RESTART TRACKING (R163). -/
  | restartTracking (e : Envelope)
  /-- COMMAND RECOVER (R156). -/
  | recover (e : Envelope)
  /-- COMMAND PURGE of the piece with this number (R59). -/
  | purge (e : Envelope) (piece : Half)
  /-- COMMAND PURGE ALL (R60). -/
  | purgeAll (e : Envelope)
  /-- COMMAND CLOSE_BATCH (R127). -/
  | closeBatch (e : Envelope)
  /-- COMMAND CLEAR_FAULTS (R158). -/
  | clearFaults (e : Envelope)
  /-- COMMAND CLEAR_EYES (R34). -/
  | clearEyes (e : Envelope)
  /-- BAD_REQUEST (R180): a REQUEST whose body is none of the others. -/
  | badRequest (e : Envelope) (body : List Byte)
  deriving DecidableEq, Repr

end Sys2Proof
end

