-- ==== Sys2Proof/Config.lean ====
section
/-! DEFINITION. What the LT316 fixes as sizes, and the free values of the model: what the manual leaves without a value, as constants with no body. -/

namespace Sys2Proof.Config

/-- Places of the piece table (R38). -/
def pieceCapacity : Nat := 128

/-- Samples of the travel history (R12). -/
def historyCapacity : Nat := 16

/-- Places of the routine queue (R175). -/
def routineCapacity : Nat := 16

/-- Frames of the transit buffer (R172). -/
def transitCapacity : Nat := 2

/-- Entries of the own-frame list (R177). -/
def ownCapacity : Nat := 32

/-- Return age at which an own frame's entry is removed (R177). -/
def ringBreakAge : Nat := 500

/-- Entries of the repeat-fault table (R35). -/
def repeatCapacity : Nat := 8

/-- Records of the fault list (R158). -/
def faultCapacity : Nat := 16

/-- SYNC periods of the alert hold-off (R161). -/
def holdoffPeriods : Nat := 10

/-- Ring ticks of one SYNC period (R2). -/
def syncPeriod : Nat := 100

/-- Age at which a travel history sample is removed, in either direction (R14). -/
def historyAgeLimit : Int := 4194304

/-- Track units behind the line position at which a lane tail is no longer live (R103). -/
def tailLife : Int := 65536

/-- The length limit of a record without a snapshot (R79). -/
def unknownLengthLimit : Nat := 8000

/-- Bytes of the largest frame body (R166). -/
def maxBody : Nat := 24

/-- Free value: byte `offset` of the content of the reply drawn at `index`, where the field there is
absent and the layout of section 10.6 states no byte for it (log 16). -/
opaque absentByte : (index offset : Nat) → Byte

/-- Free value: the two bytes that carry a measured length which no 16-bit field can hold as itself
(65535 stands for absent), in the TICKET and in the PIECE entry (R166, section 10.6; log 17). -/
opaque wideLength : Int → Half

end Sys2Proof.Config
end

