-- ==== Sys2Proof/Machine/State.lean ====
section
/-! DEFINITION. The state of the LT316: one structure for each block of spec/00_scope.md (each block owns its state), the pins, and the queue of commands that are waiting; and the state right after power-on. -/

namespace Sys2Proof.Machine

open Sys2Proof

/-! ### Names shared by the blocks -/

/-- The four feeder lanes, numbered across the feeder; a folder channel has the number of its lane. -/
inductive Lane where
  | l1 | l2 | l3 | l4
  deriving DecidableEq, Repr

/-- One thing for each lane or channel 1..4. -/
structure PerLane (α : Type) where
  l1 : α
  l2 : α
  l3 : α
  l4 : α
  deriving DecidableEq, Repr

/-- The three points where a piece is observed (R21). -/
inductive Checkpoint where
  | laneExit | inlet | exit
  deriving DecidableEq, Repr

/-- A change of an eye's beam, and the state it leads to: BLOCK to BLOCKED, CLEAR to CLEAR. -/
inductive Edge where
  | block | clear
  deriving DecidableEq, Repr

/-- The severities, in ascending order NOTED, PIECE, DOUBT, LINE (section 8.4). -/
inductive Severity where
  | noted | piece | doubt | line
  deriving DecidableEq, Repr

/-- The fault codes, in the order of their numbers 1..32 (R157). -/
inductive FaultCode where
  | glitch | edgeSequence | eyeDegraded | frameDamaged | transitOverrun | addressClash | ringBreak
  | staleTime | travelClamp | travelReverse | travelLoss | missingRelease | missingInlet | missingExit
  | orphanLane | orphanInlet | orphanExit | ambiguous | skew | lengthLong | lengthShort | tableFull
  | readyRefusedSpan | withdrawLate | laneAbsent | grantBusy | ticketUndelivered | ticketOverrun
  | slotMismatch | slotNotOwned | folderJam | batchListFull
  deriving DecidableEq, Repr

/-- The "where" of a fault (R157). -/
inductive Site where
  | absent
  | eye (node channel : Byte)
  | lane (l : Lane)
  | channel (c : Lane)
  | node (a : Byte)
  | ring
  deriving DecidableEq, Repr

/-! ### Frames -/

/-- A frame as it stands on the ring or in the transit buffer, after its start delimiter (R166): the
body length is the length of the body, and `check` the two check bytes. -/
structure Frame where
  dest : Byte
  src : Byte
  kind : Byte
  marks : Byte
  body : List Byte
  check : Half
  deriving DecidableEq, Repr

/-- The reasons of a feed hold, in the order of their precedence (R110). -/
inductive HoldReason where
  | line | fhold | occupancy | batch
  deriving DecidableEq, Repr

/-- The feed-permitted condition (R110). -/
inductive FeedCondition where
  | go
  | hold (r : HoldReason)
  deriving DecidableEq, Repr

/-- The two slots of a folder channel (R136). -/
inductive SlotName where
  | x | y
  deriving DecidableEq, Repr

/-- The reject reasons, in the order of their numbers 0..7 (R53, R166). -/
inductive RejectReason where
  | none | long | short | unknownArticle | anonymous | doubt | undelivered | overrun
  deriving DecidableEq, Repr

/-- The line states (R148). -/
inductive LineState where
  | config | run | draining | suspect
  deriving DecidableEq, Repr

/-- The closure causes of a lot (R119). -/
inductive ClosureCause where
  | command | idle | restart
  deriving DecidableEq, Repr

/-- What a TICKET carries (R141). -/
structure Ticket where
  channel : Lane
  slot : SlotName
  piece : Half
  article : Byte
  program : Byte
  span : Span
  length : Option Int
  batch : Half
  doubt : Bool
  reason : RejectReason
  deriving DecidableEq, Repr

/-- The four counts of a tally slot, 0..65535 each, saturating (R119). -/
structure Tally where
  good : Nat
  flagged : Nat
  reject : Nat
  lost : Nat
  deriving DecidableEq, Repr

/-- What a TALLY carries (R131). -/
structure TallyReport where
  batch : Half
  cause : ClosureCause
  slot : Nat
  last : Bool
  article : Byte
  counts : Tally
  deriving DecidableEq, Repr

/-- The merge accumulator's content: what an ALERT carries (R160). -/
structure Merged where
  count : Nat
  highest : Severity
  code : FaultCode
  piece : Option Half
  position : Pos
  deriving DecidableEq, Repr

/-- The messages that the blocks queue with the Ring Port (R173). -/
inductive Message where
  | sync (time : Stamp)
  | grant (lane : Lane) (span : Span) (piece : Half)
  | feedState (c : FeedCondition)
  | ticket (t : Ticket)
  | lineState (l : LineState) (cause : Option FaultCode)
  | alert (m : Merged)
  | tally (t : TallyReport)
  | reply (code result : Byte) (data : List Byte)
  deriving DecidableEq, Repr

/-- A frame waiting in a queue: its destination, what it carries, and the suspect mark of a TICKET (R173, R148). -/
structure Queued where
  dest : Byte
  msg : Message
  suspect : Bool
  deriving DecidableEq, Repr

/-- An entry of the own-frame list: destination, kind and body as inserted, and the return age (R173, R177). -/
structure OwnEntry where
  dest : Byte
  kind : Byte
  body : List Byte
  age : Nat
  deriving DecidableEq, Repr

/-- Ring Out is IDLE or SENDING one frame (R172). -/
inductive RingOut where
  | idle
  | sending (f : Frame)
  deriving DecidableEq, Repr

/-- The Ring Port's state (spec/09, state table). -/
structure RingPort where
  own : Byte
  receiving : List Byte
  transit : List Frame
  out : RingOut
  urgent : List Queued
  routine : List Queued
  reserved : Bool
  ownList : List OwnEntry
  damaged : Count
  overruns : Count
  monitorStripped : Count
  unhandled : Count
  deriving DecidableEq, Repr

/-! ### Travel Unit -/

/-- A sample of the travel history (R12). -/
structure Sample where
  stamp : Stamp
  pos : Pos
  deriving DecidableEq, Repr

/-- The travel-loss timer (R15); `due` is the model's mark that it has expired at a tick and R16 is yet to be taken (log 3). -/
inductive LossTimer where
  | stopped
  | running (elapsed : Nat) (due : Bool)
  deriving DecidableEq, Repr

/-- What an applied sample carries: the position before the frame, the position after it, and the clamp
indication (R6, R9). -/
structure AppliedSample where
  before : Pos
  after : Pos
  clamped : Bool
  deriving DecidableEq, Repr

/-- The Travel Unit's state (spec/01, state table); `periodEnds` is the model's list of the period ends not
yet taken (log 4), and `sample` holds the latest applied sample as it was announced (log 11). -/
structure TravelUnit where
  ringTime : Stamp
  syncCount : Nat
  periodEnds : List Stamp
  position : Pos
  remainder : Nat
  running : Bool
  history : List Sample
  loss : LossTimer
  sample : Option AppliedSample
  deriving DecidableEq, Repr

/-! ### Eye Filter -/

/-- The roles of an eye map entry (R21). -/
inductive Role where
  | unused | track | pass | drop
  deriving DecidableEq, Repr

/-- The configured fields of an eye map entry (R21). -/
structure EyeConfig where
  node : Byte
  channel : Byte
  role : Role
  kind : Option Checkpoint
  lane : Byte
  minLength : Nat
  threshold : Nat
  deriving DecidableEq, Repr

/-- A pending transition (R23). -/
structure PendingTransition where
  kind : Edge
  pos : Pos
  stale : Bool
  deriving DecidableEq, Repr

/-- The dynamic state of an eye (R23); the state BLOCKED is written `Edge.block`, CLEAR `Edge.clear`. -/
structure EyeDynamic where
  raw : Edge
  filtered : Edge
  pending : Option PendingTransition
  glitches : Nat
  sequence : Nat
  degraded : Bool
  attributed : Half
  deriving DecidableEq, Repr

/-- An eye map entry with its dynamic state. -/
structure Eye where
  cfg : EyeConfig
  dyn : EyeDynamic
  deriving DecidableEq, Repr

/-- A key of the repeat-fault table (R35). -/
inductive RepeatKey where
  | glitch (node channel : Byte)
  | edgeSequence (node channel : Byte)
  | frameDamaged
  deriving DecidableEq, Repr

/-- The Eye Filter's state (spec/02, state table). -/
structure EyeFilter where
  map : List Eye
  repeats : List RepeatKey
  deriving DecidableEq, Repr

/-! ### Piece Table and Checkpoint Matcher -/

/-- The states of a record (R42). -/
inductive PieceState where
  | granted | onFeed | inIroner | atFolder
  deriving DecidableEq, Repr

/-- The doubt policies of an article (R184). -/
inductive DoubtPolicy where
  | reject | foldFlagged
  deriving DecidableEq, Repr

/-- The fields of an article entry beside its code; also the article snapshot (R48, R184). -/
structure ArticleData where
  nominal : Nat
  minimum : Nat
  maximum : Nat
  leadGap : Nat
  trailGap : Nat
  program : Byte
  policy : DoubtPolicy
  deriving DecidableEq, Repr

/-- A window: the checkpoint kind and the open, expected and close points (section 4.2). -/
structure Window where
  kind : Checkpoint
  openPt : Pos
  expected : Pos
  closePt : Pos
  deriving DecidableEq, Repr

/-- Absorption state (R74). -/
structure Absorption where
  kind : Checkpoint
  matchPos : Pos
  owed : Span
  endPos : Pos
  deriving DecidableEq, Repr

/-- An inlet measurement (R79). -/
structure Measurement where
  owed : Span
  taken : Option Pos
  limit : Pos
  deriving DecidableEq, Repr

/-- Ticket states (R41). -/
inductive TicketState where
  | none | pending | sent | delivered
  deriving DecidableEq, Repr

/-- A piece record (R39, R40, R41), with the matcher's state held in it (R74, R79) and the deadline of
a PENDING ticket (R139). -/
structure Piece where
  number : Half
  anonymous : Bool
  state : PieceState
  lane : Lane
  span : Span
  article : Byte
  snapshot : Option ArticleData
  batch : Half
  orderKey : Pos
  grantPos : Option Pos
  laneExitLead : Option Pos
  inletLead : Option Pos
  inletTrail : Option Pos
  trailFinal : Bool
  measured : Option Int
  exitLead : Option Pos
  devLaneExit : Option Int
  devInlet : Option Int
  devExit : Option Int
  window : Option Window
  absorption : Option Absorption
  measurement : Option Measurement
  doubt : Bool
  reject : RejectReason
  ticket : TicketState
  ticketSlot : Option (Lane × SlotName)
  deadline : Option Pos
  deriving DecidableEq, Repr

/-- The outcomes of a removal (R55). -/
inductive Removal where
  | folded | rejected | undelivered | overrun | jammed | missing | purged
  | releaseMissed | laneAbsent | grantBusy | cancelled
  deriving DecidableEq, Repr

/-- The Piece Table's state (spec/03, state table); `records` is in table order (R45). -/
structure PieceTable where
  records : List Piece
  counter : Half
  granted : Count
  discharged : Count
  lost : Count
  deriving DecidableEq, Repr

/-- The Checkpoint Matcher's own state (spec/04, state table); the rest is held in the records. -/
structure Matcher where
  slip : PerLane Int
  orphanLane : Count
  orphanInlet : Count
  orphanExit : Count
  deriving DecidableEq, Repr

/-! ### Feed Sequencer -/

/-- The configured fields of a lane table entry (R91); bit w − 1 of `widths` permits width w. -/
structure LaneConfig where
  enabled : Bool
  node : Byte
  level : Nat
  widths : Byte
  release : Nat
  grantDist : Nat
  feedDist : Nat
  arming : Nat
  deriving DecidableEq, Repr

/-- The run states of a lane (R94). -/
inductive LaneRun where
  | offline | idle | ready | granted
  deriving DecidableEq, Repr

/-- A held request (R94). -/
structure LaneRequest where
  span : Span
  article : Byte
  batch : Half
  deriving DecidableEq, Repr

/-- A lane tail (R103). -/
structure Tail where
  pos : Pos
  gap : Nat
  owner : Half
  deriving DecidableEq, Repr

/-- A lane: its table entry and its dynamic state (R118). -/
structure LaneEntry where
  cfg : LaneConfig
  run : LaneRun
  request : Option LaneRequest
  early : Nat
  tail : Option Tail
  deriving DecidableEq, Repr

/-- The Feed Sequencer's state (spec/05, state table); `fholdRead` is the model's record of the level
read at the latest tick, none before the first read (log 5). -/
structure FeedSequencer where
  lanes : PerLane LaneEntry
  order : List Lane
  lastBatch : Option Half
  pointer : Lane
  occupancy : Nat
  hold : Bool
  fhold : Bool
  fholdRead : Option Bool
  condition : FeedCondition
  deriving DecidableEq, Repr

/-! ### Batch Counter -/

/-- The states of a batch entry: OPEN, CLOSING, SENDING (R119). -/
inductive BatchState where
  | opened | closing | sending
  deriving DecidableEq, Repr

/-- A tally slot 1..8 (R119, R120). -/
structure TallySlot where
  code : Option Byte
  counts : Tally
  deriving DecidableEq, Repr

/-- A batch entry (R119); `slots` are slots 1..8, `other` is slot 9. -/
structure BatchEntry where
  number : Half
  state : BatchState
  live : Nat
  cause : Option ClosureCause
  slots : List TallySlot
  other : Tally
  nextSlot : Option Nat
  deriving DecidableEq, Repr

/-- The idle timer (R125); `due` is the model's mark that it has expired at a period end and R126 is yet to be taken (log 3). -/
inductive IdleTimer where
  | stopped
  | running (elapsed : Nat) (due : Bool)
  deriving DecidableEq, Repr

/-- The causes of the batch block (R124). -/
inductive BlockCause where
  | numberHeld | listFull
  deriving DecidableEq, Repr

/-- The Batch Counter's state (spec/06, state table); the current batch is the one OPEN entry, and
`sendOrder` lists the places of the SENDING entries (R119, R130). -/
structure BatchCounter where
  places : List (Option BatchEntry)
  idle : IdleTimer
  block : Option BlockCause
  sendOrder : List Nat
  deriving DecidableEq, Repr

/-! ### Folder Hand-off -/

/-- A channel: the owners of its slots (none: FREE) and its next-slot pointer (R136). -/
structure Channel where
  x : Option Half
  y : Option Half
  next : SlotName
  deriving DecidableEq, Repr

/-- The Folder Hand-off's state (spec/07, state table); the pending sets are the records with ticket
PENDING, and the folder node address stands in path entry 0 (R139, R141). -/
structure FolderHandoff where
  channels : PerLane Channel
  deriving DecidableEq, Repr

/-! ### Fault Monitor and Line Control -/

/-- A fault record (R157). -/
structure FaultRecord where
  code : FaultCode
  severity : Severity
  stamp : Stamp
  position : Pos
  piece : Option Half
  site : Site
  suspect : Bool
  deriving DecidableEq, Repr

/-- The alert hold-off (R160, R161). -/
inductive Holdoff where
  | idle
  | running (elapsed : Nat)
  | owed
  deriving DecidableEq, Repr

/-- The Fault Monitor's state (spec/08, state table). -/
structure FaultMonitor where
  list : List FaultRecord
  overflow : Nat
  holdoff : Holdoff
  acc : Option Merged
  deriving DecidableEq, Repr

/-- Line Control's state (spec/08, state table). -/
structure LineControl where
  state : LineState
  cause : Option FaultCode
  tfault : Bool
  owed : Bool
  deriving DecidableEq, Repr

/-! ### Management Unit -/

/-- The tables reached through the cursor (R181). -/
inductive Table where
  | eye | lane | article | path | piece | batch | fault | status
  deriving DecidableEq, Repr

/-- A non-empty article entry (R184). -/
structure Article where
  code : Byte
  data : ArticleData
  deriving DecidableEq, Repr

/-- Path entry 0, the line entry (R7, R141). -/
structure PathLine where
  scale : Nat
  maxStep : Nat
  lossTimeout : Nat
  extrapolation : Nat
  folder : Byte
  deriving DecidableEq, Repr

/-- Path entry 1, the windows entry (R63). -/
structure PathWindows where
  tolI : Nat
  tolE : Nat
  ironer : Nat
  skew : Nat
  slipLimit : Nat
  deriving DecidableEq, Repr

/-- Path entry 2, the flow entry (R93, R125, R160). -/
structure PathFlow where
  mask : Nat
  halt : Nat
  resume : Nat
  batchGap : Nat
  leadGap : Nat
  trailGap : Nat
  length : Nat
  idleTimeout : Nat
  alertMin : Severity
  deriving DecidableEq, Repr

/-- The Management Unit's state (spec/10, state table); an empty article entry is `none`. -/
structure Management where
  table : Table
  index : Nat
  articles : List (Option Article)
  line : PathLine
  windows : PathWindows
  flow : PathFlow
  deriving DecidableEq, Repr

/-! ### The whole state -/

/-- The input pins that are levels: the straps, as the latest POWER_ON, RESET_RELEASE or RESTART_FULL showed
them (log 6), and the RESET pin (held low or not). -/
structure Pins where
  straps : BitVec 5
  resetHeld : Bool
  deriving DecidableEq, Repr

/-- The state of the LT316, block by block, the free-value counter of the model (log 16) and the queue
of waiting commands, first in, first out (log 1). -/
structure State where
  pins : Pins
  port : RingPort
  travel : TravelUnit
  eyes : EyeFilter
  pieces : PieceTable
  matcher : Matcher
  feed : FeedSequencer
  batch : BatchCounter
  folder : FolderHandoff
  faults : FaultMonitor
  line : LineControl
  mgmt : Management
  freeIndex : Nat
  pending : List Instr
  deriving DecidableEq, Repr

/-- No command stops the machine: the spec gives every command its effect or says that it is set
aside (log 18). Nothing raises a fault; safe. -/
inductive Fault where
  deriving DecidableEq, Repr

/-- The refusals. -/
inductive Refusal where
  /-- Raised by an arm of `exec` whose command has no meaning yet; safe. No arm raises it. -/
  | notModelled (mnemonic : String)
  deriving DecidableEq, Repr

/-! ### The power-on state of each block -/

/-- The own address that the straps give: 0 and 31 are taken as 1 (R178). -/
def ownAddress (straps : BitVec 5) : Byte :=
  if straps = 0#5 ∨ straps = 31#5 then 1#8 else straps.setWidth 8

/-- Four counts of 0 (R119). -/
def Tally.zero : Tally := { good := 0, flagged := 0, reject := 0, lost := 0 }

/-- The same thing for each lane. -/
def PerLane.all {α : Type} (a : α) : PerLane α := { l1 := a, l2 := a, l3 := a, l4 := a }

/-- The Ring Port after power-on: everything empty, counters 0 (R164, R172, R175, R177, R179). -/
def RingPort.powerOn (own : Byte) : RingPort :=
  { own := own, receiving := [], transit := [], out := .idle, urgent := [], routine := [],
    reserved := false, ownList := [], damaged := 0, overruns := 0, monitorStripped := 0, unhandled := 0 }

/-- The Travel Unit after power-on (R1, R2, R4, R11, R12, R15). -/
def TravelUnit.powerOn : TravelUnit :=
  { ringTime := 0, syncCount := 0, periodEnds := [], position := 0, remainder := 0, running := false,
    history := [], loss := .stopped, sample := none }

/-- The starting values of an eye's dynamic state (R22, R23). -/
def EyeDynamic.start : EyeDynamic :=
  { raw := .clear, filtered := .clear, pending := none, glitches := 0, sequence := 0,
    degraded := false, attributed := 0 }

/-- The configured fields of an UNUSED entry (R21, R22). -/
def EyeConfig.unused : EyeConfig :=
  { node := 0, channel := 0, role := .unused, kind := none, lane := 0, minLength := 0, threshold := 0 }

/-- The Eye Filter after power-on (R21, R23, R36). -/
def EyeFilter.powerOn : EyeFilter :=
  { map := List.replicate 32 { cfg := EyeConfig.unused, dyn := EyeDynamic.start }, repeats := [] }

/-- The Piece Table after power-on (R58). -/
def PieceTable.powerOn : PieceTable :=
  { records := [], counter := 1, granted := 0, discharged := 0, lost := 0 }

/-- The Checkpoint Matcher after power-on (R76, R89). -/
def Matcher.powerOn : Matcher :=
  { slip := PerLane.all 0, orphanLane := 0, orphanInlet := 0, orphanExit := 0 }

/-- A lane table entry never written (R91). -/
def LaneConfig.powerOn : LaneConfig :=
  { enabled := false, node := 0, level := 0, widths := 0, release := 0, grantDist := 600,
    feedDist := 200, arming := 100 }

/-- A lane after power-on (R91, R94, R103). -/
def LaneEntry.powerOn : LaneEntry :=
  { cfg := LaneConfig.powerOn, run := .offline, request := none, early := 0, tail := none }

/-- The Feed Sequencer after power-on (R94, R95, R101, R103, R105, R108, R109, R110). -/
def FeedSequencer.powerOn : FeedSequencer :=
  { lanes := PerLane.all LaneEntry.powerOn, order := [], lastBatch := none, pointer := .l1,
    occupancy := 0, hold := false, fhold := true, fholdRead := none, condition := .hold .line }

/-- The Batch Counter after power-on (R134). -/
def BatchCounter.powerOn : BatchCounter :=
  { places := List.replicate 8 none, idle := .stopped, block := none, sendOrder := [] }

/-- The Folder Hand-off after power-on (R136, R139). -/
def FolderHandoff.powerOn : FolderHandoff :=
  { channels := PerLane.all { x := none, y := none, next := .x } }

/-- The Fault Monitor after power-on (R158, R161). -/
def FaultMonitor.powerOn : FaultMonitor :=
  { list := [], overflow := 0, holdoff := .idle, acc := none }

/-- Line Control after power-on, before the report of R164 becomes owed (R162). -/
def LineControl.powerOn : LineControl :=
  { state := .config, cause := none, tfault := false, owed := false }

/-- The Management Unit after power-on (R7, R63, R93, R125, R141, R160, R181, R184). -/
def Management.powerOn : Management :=
  { table := .eye, index := 0, articles := List.replicate 64 none,
    line := { scale := 0, maxStep := 200, lossTimeout := 1000, extrapolation := 400, folder := 30 },
    windows := { tolI := 150, tolE := 300, ironer := 24000, skew := 100, slipLimit := 400 },
    flow := { mask := 4, halt := 80, resume := 64, batchGap := 2000, leadGap := 150, trailGap := 150,
              length := 2000, idleTimeout := 3000, alertMin := .piece } }

/-- The power-on state of every block, with no report made yet (R162): what holds while RESET is held. -/
def State.blank (pins : Pins) (own : Byte) (freeIndex : Nat) (pending : List Instr) : State :=
  { pins := pins, port := RingPort.powerOn own, travel := TravelUnit.powerOn,
    eyes := EyeFilter.powerOn, pieces := PieceTable.powerOn, matcher := Matcher.powerOn,
    feed := FeedSequencer.powerOn, batch := BatchCounter.powerOn, folder := FolderHandoff.powerOn,
    faults := FaultMonitor.powerOn, line := LineControl.powerOn, mgmt := Management.powerOn,
    freeIndex := freeIndex, pending := pending }

/-- The machine right after power-on (R162, R164): every block in its power-on state, FEED_STATE HOLD
LINE in the urgent queue and the LINE_STATE report in the routine queue (log 10). The strap levels 0
are a DESIGN CHOICE (log 6). -/
def State.reset : State :=
  { State.blank { straps := 0, resetHeld := false } (ownAddress 0) 0 [] with
    port := { RingPort.powerOn (ownAddress 0) with
      urgent := [{ dest := 31, msg := .feedState (.hold .line), suspect := false }]
      routine := [{ dest := 31, msg := .lineState .config none, suspect := false }] } }

end Sys2Proof.Machine
end

