-- ==== Sys2Proof/Machine/Ops.lean ====
section
/-! DEFINITION. The named operations over the blocks' state: one update function per block, the modular comparisons of spec/01 R3 and R5, lanes and spans, the two insertion queues of spec/09 R173 to R176, and the records of the piece table. -/

namespace Sys2Proof.Machine

open Sys2Proof

/-! ### Updating one block -/

/-- Change the pins. -/
def State.onPins (s : State) (f : Pins → Pins) : State := { s with pins := f s.pins }
/-- Change the Ring Port's state. -/
def State.onPort (s : State) (f : RingPort → RingPort) : State := { s with port := f s.port }
/-- Change the Travel Unit's state. -/
def State.onTravel (s : State) (f : TravelUnit → TravelUnit) : State := { s with travel := f s.travel }
/-- Change the Eye Filter's state. -/
def State.onEyes (s : State) (f : EyeFilter → EyeFilter) : State := { s with eyes := f s.eyes }
/-- Change the Piece Table's state. -/
def State.onPieces (s : State) (f : PieceTable → PieceTable) : State := { s with pieces := f s.pieces }
/-- Change the Checkpoint Matcher's state. -/
def State.onMatcher (s : State) (f : Matcher → Matcher) : State := { s with matcher := f s.matcher }
/-- Change the Feed Sequencer's state. -/
def State.onFeed (s : State) (f : FeedSequencer → FeedSequencer) : State := { s with feed := f s.feed }
/-- Change the Batch Counter's state. -/
def State.onBatch (s : State) (f : BatchCounter → BatchCounter) : State := { s with batch := f s.batch }
/-- Change the Folder Hand-off's state. -/
def State.onFolder (s : State) (f : FolderHandoff → FolderHandoff) : State := { s with folder := f s.folder }
/-- Change the Fault Monitor's state. -/
def State.onFaults (s : State) (f : FaultMonitor → FaultMonitor) : State := { s with faults := f s.faults }
/-- Change Line Control's state. -/
def State.onLine (s : State) (f : LineControl → LineControl) : State := { s with line := f s.line }
/-- Change the Management Unit's state. -/
def State.onMgmt (s : State) (f : Management → Management) : State := { s with mgmt := f s.mgmt }

/-! ### The RESET pin -/

/-- A command's effect takes place while RESET is not held; while it is held the part keeps its power-on
state, Ring In is not received and ring time stands (R1, R162; log 7). -/
def State.live (s : State) (f : State → State) : Host.Outcome State Fault Refusal :=
  .next (if s.pins.resetHeld then s else f s)

/-! ### Modular comparison -/

/-- Δ(a, b) of R3: the signed difference of two ring times. -/
def timeDiff (a b : Stamp) : Int := (a - b).toInt

/-- σ(a, b) of R5: the signed difference of two line positions. -/
def posDiff (a b : Pos) : Int := (a - b).toInt

/-- "a plus d" of R5, for a signed distance d. -/
def posAdd (a : Pos) (d : Int) : Pos := a + BitVec.ofInt 32 d

/-- The position reaches x (R5). -/
def reaches (position x : Pos) : Bool := 0 ≤ posDiff position x

/-- The position passes x (R5). -/
def passes (position x : Pos) : Bool := 0 < posDiff position x

/-- x lies within [a, b], ends included (R5). -/
def within (x a b : Pos) : Bool := 0 ≤ posDiff x a && 0 ≤ posDiff b x

/-- A counter that saturates at `top` adds one. -/
def satSucc (top n : Nat) : Nat := if n < top then n + 1 else top

/-! ### Lanes and spans -/

/-- The number of a lane, 1..4. -/
def Lane.number (l : Lane) : Nat :=
  match l with
  | .l1 => 1
  | .l2 => 2
  | .l3 => 3
  | .l4 => 4

/-- The lane of a number; none outside 1..4. -/
def Lane.ofNumber (n : Nat) : Option Lane :=
  match n with
  | 1 => some .l1
  | 2 => some .l2
  | 3 => some .l3
  | 4 => some .l4
  | _ => none

/-- The lane after a lane, with lane 4 followed by lane 1 (R101). -/
def Lane.next (l : Lane) : Lane :=
  match l with
  | .l1 => .l2
  | .l2 => .l3
  | .l3 => .l4
  | .l4 => .l1

/-- The lanes in ascending order. -/
def allLanes : List Lane := [.l1, .l2, .l3, .l4]

/-- The entry of a lane. -/
def PerLane.get {α : Type} (p : PerLane α) (l : Lane) : α :=
  match l with
  | .l1 => p.l1
  | .l2 => p.l2
  | .l3 => p.l3
  | .l4 => p.l4

/-- The entry of a lane replaced. -/
def PerLane.set {α : Type} (p : PerLane α) (l : Lane) (a : α) : PerLane α :=
  match l with
  | .l1 => { p with l1 := a }
  | .l2 => { p with l2 := a }
  | .l3 => { p with l3 := a }
  | .l4 => { p with l4 := a }

/-- Every entry changed. -/
def PerLane.map {α : Type} (p : PerLane α) (f : α → α) : PerLane α :=
  { l1 := f p.l1, l2 := f p.l2, l3 := f p.l3, l4 := f p.l4 }

/-- A lane belongs to a span. -/
def spanHas (sp : Span) (l : Lane) : Bool := sp.getLsbD (l.number - 1)

/-- The span of one lane. -/
def spanOf (l : Lane) : Span := 1#4 <<< (l.number - 1)

/-- The span L..L + w − 1 (R91). -/
def spanFrom (l : Lane) (w : Nat) : Span := ((1#4 <<< w) - 1#4) <<< (l.number - 1)

/-- A span without one lane. -/
def spanErase (sp : Span) (l : Lane) : Span := sp &&& ~~~ spanOf l

/-- The lanes of a span, ascending. -/
def spanLanes (sp : Span) : List Lane := allLanes.filter (spanHas sp)

/-- A lane of the lane table. -/
def State.lane (s : State) (l : Lane) : LaneEntry := s.feed.lanes.get l

/-- Change one lane of the lane table. -/
def State.onLane (s : State) (l : Lane) (f : LaneEntry → LaneEntry) : State :=
  s.onFeed fun q => { q with lanes := q.lanes.set l (f (q.lanes.get l)) }

/-! ### The insertion queues -/

/-- Unreserved free places of the routine queue (R175). -/
def State.freePlaces (s : State) : Nat :=
  Config.routineCapacity - (s.port.routine.length + if s.port.reserved then 1 else 0)

/-- Queue a routine frame at the back (R173). -/
def State.pushRoutine (s : State) (dest : Byte) (msg : Message) : State :=
  s.onPort fun p => { p with routine := p.routine ++ [{ dest := dest, msg := msg, suspect := false }] }

/-- Queue an urgent frame at the back (R173). -/
def State.pushUrgent (s : State) (q : Queued) : State :=
  s.onPort fun p => { p with urgent := p.urgent ++ [q] }

/-- A queued frame is a SYNC. -/
def Queued.isSync (q : Queued) : Bool :=
  match q.msg with
  | .sync _ => true
  | _ => false

/-- A queued frame is a FEED_STATE. -/
def Queued.isFeedState (q : Queued) : Bool :=
  match q.msg with
  | .feedState _ => true
  | _ => false

/-- The piece that a queued GRANT names. -/
def Queued.grantPiece (q : Queued) : Option Half :=
  match q.msg with
  | .grant _ _ n => some n
  | _ => none

/-- The piece that a queued TICKET names. -/
def Queued.ticketPiece (q : Queued) : Option Half :=
  match q.msg with
  | .ticket t => some t.piece
  | _ => none

/-- The span of a queued GRANT; empty for every other frame. -/
def Queued.grantSpan (q : Queued) : Span :=
  match q.msg with
  | .grant _ sp _ => sp
  | _ => 0

/-- Queue a SYNC for a period end: the waiting one takes the new ring time in its place, and with none
waiting a SYNC joins the back (R174). -/
def State.queueSync (s : State) (t : Stamp) : State :=
  if s.port.urgent.any Queued.isSync then
    s.onPort fun p =>
      { p with urgent := p.urgent.map fun q => if q.isSync then { q with msg := .sync t } else q }
  else s.pushUrgent { dest := 31, msg := .sync t, suspect := false }

/-- Queue a FEED_STATE: the waiting one takes the new condition in its place, and with none waiting a
FEED_STATE joins the back (R110, R174). -/
def State.queueFeedState (s : State) (c : FeedCondition) : State :=
  if s.port.urgent.any Queued.isFeedState then
    s.onPort fun p =>
      { p with urgent := p.urgent.map fun q => if q.isFeedState then { q with msg := .feedState c } else q }
  else s.pushUrgent { dest := 31, msg := .feedState c, suspect := false }

/-- Remove the GRANT of a piece from the urgent queue (R176). -/
def State.withdrawGrant (s : State) (n : Half) : State :=
  s.onPort fun p => { p with urgent := p.urgent.filter fun q => q.grantPiece != some n }

/-- Remove the TICKET of a piece from the urgent queue (R145, R176). -/
def State.withdrawTicket (s : State) (n : Half) : State :=
  s.onPort fun p => { p with urgent := p.urgent.filter fun q => q.ticketPiece != some n }

/-- Remove every GRANT from the urgent queue (R176). -/
def State.withdrawGrants (s : State) : State :=
  s.onPort fun p => { p with urgent := p.urgent.filter fun q => q.grantPiece.isNone }

/-- Remove every GRANT and every TICKET from the urgent queue (R176). -/
def State.withdrawGrantsAndTickets (s : State) : State :=
  s.onPort fun p =>
    { p with urgent := p.urgent.filter fun q => q.grantPiece.isNone && q.ticketPiece.isNone }

/-- Set the suspect mark on every TICKET that waits (R148, R176). -/
def State.markTickets (s : State) : State :=
  s.onPort fun p =>
    { p with urgent := p.urgent.map fun q => if q.ticketPiece.isSome then { q with suspect := true } else q }

/-! ### Piece records -/

/-- The record with a number, if the table holds one (R44). -/
def State.findPiece (s : State) (n : Half) : Option Piece :=
  s.pieces.records.find? fun r => r.number == n

/-- Change the record with a number. -/
def State.onPiece (s : State) (n : Half) (f : Piece → Piece) : State :=
  s.onPieces fun t => { t with records := t.records.map fun r => if r.number == n then f r else r }

/-- The number after a piece number, with 65535 followed by 1 (R43). -/
def nextNumber (n : Half) : Half := if n = 65535#16 then 1#16 else n + 1#16

/-- The first number from `n` on that no record holds, trying at most `fuel` steps (R43). -/
def freeNumber (records : List Piece) : Nat → Half → Half
  | 0, n => n
  | fuel + 1, n =>
    if records.any fun r => r.number == n then freeNumber records fuel (nextNumber n) else n

/-- Place a record in table order: after every record whose key is at or before its key, before every
record whose key is after it (R45). -/
def insertRecord (r : Piece) : List Piece → List Piece
  | [] => [r]
  | q :: rest => if 0 < posDiff q.orderKey r.orderKey then r :: q :: rest else q :: insertRecord r rest

/-- The number that the next creation takes (R43). -/
def State.newNumber (s : State) : Half :=
  freeNumber s.pieces.records (s.pieces.records.length + 1) s.pieces.counter

/-- The table holds 128 records (R38). -/
def State.tableFull (s : State) : Bool := Config.pieceCapacity ≤ s.pieces.records.length

/-- Put a new record into the table and set the counter to the number after its own (R43, R45). -/
def State.addRecord (s : State) (r : Piece) : State :=
  s.onPieces fun t => { t with records := insertRecord r t.records, counter := nextNumber r.number }

/-- A record with every optional field absent and every mark clear, from which creations start (R39 to R41). -/
def Piece.blank (n : Half) (l : Lane) (sp : Span) (key : Pos) : Piece :=
  { number := n, anonymous := false, state := .granted, lane := l, span := sp, article := 0,
    snapshot := none, batch := 0, orderKey := key, grantPos := none, laneExitLead := none,
    inletLead := none, inletTrail := none, trailFinal := false, measured := none, exitLead := none,
    devLaneExit := none, devInlet := none, devExit := none, window := none, absorption := none,
    measurement := none, doubt := false, reject := .none, ticket := .none, ticketSlot := none,
    deadline := none }

/-- The length basis of a record: the snapshot's nominal length, or the default length of path entry 2 (R74). -/
def State.lengthBasis (s : State) (r : Piece) : Nat :=
  match r.snapshot with
  | some a => a.nominal
  | none => s.mgmt.flow.length

/-- The article table's entry with a code (R48). -/
def State.findArticle (s : State) (code : Byte) : Option ArticleData :=
  (s.mgmt.articles.findSome? fun a =>
    match a with
    | some e => if e.code == code then some e.data else none
    | none => none)

/-- A lane is the lowest lane of a span: the lead lane (R39). -/
def spanLead (sp : Span) : Option Lane := (spanLanes sp).head?

end Sys2Proof.Machine
end

