-- ==== Sys2Proof/Machine/Flags.lean ====
section
/-! DEFINITION. The marks of a frame (spec/09 R166) and the numbers that frames and entries carry for the names of the model (spec/08 R157, spec/09 R166, spec/10 section 10.6). -/

namespace Sys2Proof.Machine

open Sys2Proof

/-! ### The mark byte -/

/-- The taken mark, bit 0. -/
def markTaken : Byte := 1#8
/-- The busy mark, bit 1. -/
def markBusy : Byte := 2#8
/-- The monitor mark, bit 2. -/
def markMonitor : Byte := 4#8
/-- The suspect mark, bit 3. -/
def markSuspect : Byte := 8#8
/-- The annotated mark, bit 4. -/
def markAnnotated : Byte := 16#8

/-- A mark byte with more marks set; marks that were set are kept (R170). -/
def setMark (marks m : Byte) : Byte := marks ||| m

/-- The taken mark is set. -/
def isTaken (marks : Byte) : Bool := marks.getLsbD 0
/-- The busy mark is set. -/
def isBusy (marks : Byte) : Bool := marks.getLsbD 1
/-- The monitor mark is set. -/
def isMonitored (marks : Byte) : Bool := marks.getLsbD 2

/-! ### Numbers of names -/

/-- The number of a yes or no field (section 10.6). -/
def boolNumber (b : Bool) : Nat := if b then 1 else 0

/-- The number of a fault code (R157). -/
def FaultCode.number (c : FaultCode) : Nat :=
  match c with
  | .glitch => 1
  | .edgeSequence => 2
  | .eyeDegraded => 3
  | .frameDamaged => 4
  | .transitOverrun => 5
  | .addressClash => 6
  | .ringBreak => 7
  | .staleTime => 8
  | .travelClamp => 9
  | .travelReverse => 10
  | .travelLoss => 11
  | .missingRelease => 12
  | .missingInlet => 13
  | .missingExit => 14
  | .orphanLane => 15
  | .orphanInlet => 16
  | .orphanExit => 17
  | .ambiguous => 18
  | .skew => 19
  | .lengthLong => 20
  | .lengthShort => 21
  | .tableFull => 22
  | .readyRefusedSpan => 23
  | .withdrawLate => 24
  | .laneAbsent => 25
  | .grantBusy => 26
  | .ticketUndelivered => 27
  | .ticketOverrun => 28
  | .slotMismatch => 29
  | .slotNotOwned => 30
  | .folderJam => 31
  | .batchListFull => 32

/-- The number of an optional fault code: 0 for none (R166, LINE_STATE). -/
def causeNumber (c : Option FaultCode) : Nat :=
  match c with
  | none => 0
  | some f => f.number

/-- The number of a severity, in ascending order (R166, ALERT). -/
def Severity.number (v : Severity) : Nat :=
  match v with
  | .noted => 0
  | .piece => 1
  | .doubt => 2
  | .line => 3

/-- The severity of a number (section 10.6, PATH 2). -/
def Severity.ofNumber (n : Nat) : Option Severity :=
  match n with
  | 0 => some .noted
  | 1 => some .piece
  | 2 => some .doubt
  | 3 => some .line
  | _ => none

/-- The number of a line state (R166, LINE_STATE). -/
def LineState.number (l : LineState) : Nat :=
  match l with
  | .config => 0
  | .run => 1
  | .draining => 2
  | .suspect => 3

/-- The number of a slot (R166, TICKET). -/
def SlotName.number (slot : SlotName) : Nat :=
  match slot with
  | .x => 0
  | .y => 1

/-- The number of a reject reason (R166, TICKET). -/
def RejectReason.number (r : RejectReason) : Nat :=
  match r with
  | .none => 0
  | .long => 1
  | .short => 2
  | .unknownArticle => 3
  | .anonymous => 4
  | .doubt => 5
  | .undelivered => 6
  | .overrun => 7

/-- The number of a hold reason (R166, FEED_STATE). -/
def HoldReason.number (r : HoldReason) : Nat :=
  match r with
  | .line => 1
  | .fhold => 2
  | .occupancy => 3
  | .batch => 4

/-- The number of a closure cause (R166, TALLY). -/
def ClosureCause.number (c : ClosureCause) : Nat :=
  match c with
  | .command => 1
  | .idle => 2
  | .restart => 3

/-- The number of a checkpoint kind (section 10.6, EYE). -/
def Checkpoint.number (k : Checkpoint) : Nat :=
  match k with
  | .laneExit => 1
  | .inlet => 2
  | .exit => 3

/-- The number of an eye role (section 10.6, EYE). -/
def Role.number (r : Role) : Nat :=
  match r with
  | .unused => 0
  | .track => 1
  | .pass => 2
  | .drop => 3

/-- The number of an eye's filtered state: 0 CLEAR, 1 BLOCKED (section 10.6, EYE). -/
def Edge.stateNumber (e : Edge) : Nat :=
  match e with
  | .clear => 0
  | .block => 1

/-- The number of a doubt policy (section 10.6, ARTICLE). -/
def DoubtPolicy.number (p : DoubtPolicy) : Nat :=
  match p with
  | .reject => 1
  | .foldFlagged => 2

/-- The number of a lane's run state (section 10.6, LANE). -/
def LaneRun.number (r : LaneRun) : Nat :=
  match r with
  | .offline => 0
  | .idle => 1
  | .ready => 2
  | .granted => 3

/-- The number of a record's state (section 10.6, PIECE). -/
def PieceState.number (p : PieceState) : Nat :=
  match p with
  | .granted => 1
  | .onFeed => 2
  | .inIroner => 3
  | .atFolder => 4

/-- The number of a ticket state (section 10.6, PIECE). -/
def TicketState.number (t : TicketState) : Nat :=
  match t with
  | .none => 0
  | .pending => 1
  | .sent => 2
  | .delivered => 3

/-- The number of a batch entry's state (section 10.6, BATCH). -/
def BatchState.number (b : BatchState) : Nat :=
  match b with
  | .opened => 1
  | .closing => 2
  | .sending => 3

/-- The number of the batch block (section 10.6, STATUS). -/
def blockNumber (b : Option BlockCause) : Nat :=
  match b with
  | none => 0
  | some .numberHeld => 1
  | some .listFull => 2

/-- The number of a table (R181). -/
def Table.number (t : Table) : Nat :=
  match t with
  | .eye => 1
  | .lane => 2
  | .article => 3
  | .path => 4
  | .piece => 5
  | .batch => 6
  | .fault => 7
  | .status => 8

/-- The table of a number (R181). -/
def Table.ofNumber (n : Nat) : Option Table :=
  match n with
  | 1 => some .eye
  | 2 => some .lane
  | 3 => some .article
  | 4 => some .path
  | 5 => some .piece
  | 6 => some .batch
  | 7 => some .fault
  | 8 => some .status
  | _ => none

/-- The entry count of a table (R181). -/
def Table.entries (t : Table) : Nat :=
  match t with
  | .eye => 32
  | .lane => 4
  | .article => 64
  | .path => 3
  | .piece => 128
  | .batch => 8
  | .fault => 16
  | .status => 1

end Sys2Proof.Machine
end

