-- ==== Sys2Proof/WellFormed.lean ====
section
/-! DEFINITION. Which commands are well formed: the operand ranges that the frame layouts of spec/09 R166 and the request layouts of spec/10 give. `exec` is total and does not rest on these checks: a block sets aside what it does not accept (R167). -/

namespace Sys2Proof

/-- The header fields of a frame on the ring: destination 0..31, source 0..30, mark bits 5..7 zero (R166). -/
def Envelope.wellFormed (e : Envelope) : Bool :=
  e.dest.toNat ≤ 31 && e.src.toNat ≤ 30 && e.marks.toNat < 32

/-- The span byte of a frame names lanes 1 to 4 only (R166). -/
def spanByteOk (b : Byte) : Bool := b.toNat < 16

/-- The body length that the layout gives for each kind but REQUEST and REPLY (R166). -/
def fixedBodyLength (kind : Nat) : Option Nat :=
  match kind with
  | 1 => some 3
  | 2 => some 6
  | 3 => some 7
  | 4 => some 5
  | 5 => some 1
  | 6 => some 4
  | 7 => some 2
  | 8 => some 13
  | 9 => some 5
  | 10 => some 2
  | 11 => some 9
  | 12 => some 14
  | _ => none

/-- A frame is of known kind (R167): its kind is 1..14 and its body has the length the layout gives. -/
def knownKind (kind : Byte) (length : Nat) : Bool :=
  match kind.toNat with
  | 13 => 1 ≤ length && length ≤ 24
  | 14 => 2 ≤ length && length ≤ 24
  | k => fixedBodyLength k == some length

/-- The command codes that carry no operand (R186): all but PURGE piece, code 6. -/
def plainCommandCode (c : Byte) : Bool :=
  1 ≤ c.toNat && c.toNat ≤ 10 && c.toNat != 6

/-- A REQUEST body that is a SEEK, a PUT, a GET or a known COMMAND with operands of the right length
(R180); whether a PUT has the length of the entry under the cursor depends on the cursor. -/
def knownRequest (body : List Byte) : Bool :=
  match body with
  | [] => false
  | code :: ops =>
    match code.toNat with
    | 1 => ops.length == 2
    | 2 => true
    | 3 => ops.length == 1
    | 4 =>
      match ops with
      | [] => false
      | c :: rest => (plainCommandCode c && rest.isEmpty) || (c.toNat == 6 && rest.length == 2)
    | _ => false

/-- The kinds that OWN_FRAME_RETURN stands for: SYNC, FEED_STATE, LINE_STATE, ALERT, TALLY, REPLY (R169). -/
def plainReturnKind (kind : Byte) : Bool :=
  kind.toNat == 1 || kind.toNat == 7 || kind.toNat == 10 || kind.toNat == 11 || kind.toNat == 12 ||
    kind.toNat == 14

/-- The well-formed commands. -/
def Instr.wellFormed (i : Instr) : Bool :=
  match i with
  | .powerOn _ => true
  | .resetAssert => true
  | .resetRelease _ => true
  | .ringTick _ => true
  | .syncPeriodEnd => true
  | .historyAgeOut => true
  | .travelLoss => true
  | .idleTimeout => true
  | .holdoffEnd => true
  | .ringBreak => true
  | .fholdAssert => true
  | .fholdRelease => true
  | .frameReceive bytes => bytes.length ≤ 7 + Config.maxBody
  | .travel e _ _ _ => e.wellFormed
  | .edge e _ _ _ _ => e.wellFormed
  | .ready e _ span _ _ => e.wellFormed && spanByteOk span
  | .withdraw e _ => e.wellFormed
  | .slotFree e _ _ _ _ => e.wellFormed
  | .grantReturn e _ span _ => e.wellFormed && spanByteOk span
  | .ticketReturn e t => e.wellFormed && spanByteOk t.span
  | .ownFrameReturn e kind body => e.wellFormed && plainReturnKind kind && knownKind kind body.length
  | .transitForward => true
  | .frameInsert => true
  | .ringOutComplete => true
  | .lineStateQueue => true
  | .alertQueue => true
  | .tallyQueue => true
  | .seek e _ _ => e.wellFormed
  | .get e _ => e.wellFormed
  | .put e fields => e.wellFormed && fields.length ≤ 23
  | .modeRun e => e.wellFormed
  | .modeStop e => e.wellFormed
  | .restartFull e => e.frame.wellFormed
  | .restartTracking e => e.wellFormed
  | .recover e => e.wellFormed
  | .purge e _ => e.wellFormed
  | .purgeAll e => e.wellFormed
  | .closeBatch e => e.wellFormed
  | .clearFaults e => e.wellFormed
  | .clearEyes e => e.wellFormed
  | .badRequest e body => e.wellFormed && 1 ≤ body.length && body.length ≤ 24 && !knownRequest body

end Sys2Proof
end

