-- ==== Sys2Proof/Machine/Operands.lean ====
section
/-! DEFINITION. Frames and their fields: byte order, the check, the layout of each body (spec/09 R166), the frame that each reception command stands for, and the parsing of received bytes. -/

namespace Sys2Proof.Machine

open Sys2Proof

/-! ### Multi-byte fields, most significant byte first (R166) -/

/-- One byte of a number. -/
def byteOf (n : Nat) : Byte := BitVec.ofNat 8 n

/-- The two bytes of a 16-bit field. -/
def bytes16 (v : Half) : List Byte := [v.extractLsb' 8 8, v.extractLsb' 0 8]

/-- The three bytes of a ring time. -/
def bytes24 (v : Stamp) : List Byte := [v.extractLsb' 16 8, v.extractLsb' 8 8, v.extractLsb' 0 8]

/-- The four bytes of a position or a count. -/
def bytes32 (v : BitVec 32) : List Byte :=
  [v.extractLsb' 24 8, v.extractLsb' 16 8, v.extractLsb' 8 8, v.extractLsb' 0 8]

/-- The byte at an offset of a body (0 past its end: no layout of R166 reads there). -/
def byteAt (body : List Byte) (i : Nat) : Byte := body.getD i 0

/-- The 16-bit field at an offset. -/
def halfAt (body : List Byte) (i : Nat) : Half := byteAt body i ++ byteAt body (i + 1)

/-- The ring time at an offset. -/
def stampAt (body : List Byte) (i : Nat) : Stamp :=
  byteAt body i ++ byteAt body (i + 1) ++ byteAt body (i + 2)

/-- A 16-bit field as a number. -/
def wordAt (body : List Byte) (i : Nat) : Nat := (halfAt body i).toNat

/-! ### The check -/

/-- One bit into the register of the CRC-16 x^16 + x^12 + x^5 + 1 (R166; the register's order: log 9). -/
def crcBit (reg : Half) (b : Bool) : Half :=
  if (reg.getLsbD 15 ^^ b) then (reg <<< 1) ^^^ 0x1021#16 else reg <<< 1

/-- One byte, least significant bit first (R166). -/
def crcByte (reg : Half) (x : Byte) : Half :=
  crcBit (crcBit (crcBit (crcBit (crcBit (crcBit (crcBit (crcBit reg (x.getLsbD 0)) (x.getLsbD 1))
    (x.getLsbD 2)) (x.getLsbD 3)) (x.getLsbD 4)) (x.getLsbD 5)) (x.getLsbD 6)) (x.getLsbD 7)

/-- The check over a run of bytes, from all ones and with no final inversion (R166). -/
def crc (bytes : List Byte) : Half := bytes.foldl crcByte 0xFFFF#16

/-- Bytes 1 to the end of the body, which the check covers (R166). -/
def Frame.covered (f : Frame) : List Byte :=
  [f.dest, f.src, f.kind, f.marks, byteOf f.body.length] ++ f.body

/-- The frame with its check computed over its bytes as they stand (R166). -/
def Frame.sealed (f : Frame) : Frame := { f with check := crc f.covered }

/-- The frame passes the check, and its body length lies in 0..24 (R166). -/
def Frame.intact (f : Frame) : Bool := f.body.length ≤ Config.maxBody && f.check == crc f.covered

/-- The bytes of a frame as sent after the start delimiter (R166). -/
def Frame.wire (f : Frame) : List Byte := f.covered ++ bytes16 f.check

/-! ### Message bodies (R166) -/

/-- A span as the byte that carries it. -/
def spanByte (sp : Span) : Byte := sp.setWidth 8

/-- The two bytes of a measured length, 65535 when absent; a length that they cannot carry as itself
is the free value of log 17. -/
def lengthField (l : Option Int) : Half :=
  match l with
  | none => 0xFFFF#16
  | some d => if 0 ≤ d ∧ d < 65535 then BitVec.ofInt 16 d else Config.wideLength d

/-- The four counts of a tally, two bytes each. -/
def tallyBytes (t : Tally) : List Byte :=
  bytes16 (BitVec.ofNat 16 t.good) ++ bytes16 (BitVec.ofNat 16 t.flagged) ++
    bytes16 (BitVec.ofNat 16 t.reject) ++ bytes16 (BitVec.ofNat 16 t.lost)

/-- The kind number of a message. -/
def Message.kind (m : Message) : Byte :=
  match m with
  | .sync _ => 1
  | .grant _ _ _ => 6
  | .feedState _ => 7
  | .ticket _ => 8
  | .lineState _ _ => 10
  | .alert _ => 11
  | .tally _ => 12
  | .reply _ _ _ => 14

/-- The body of a FEED_STATE. -/
def feedBody (c : FeedCondition) : List Byte :=
  match c with
  | .go => [1, 0]
  | .hold r => [0, byteOf r.number]

/-- The body of a TICKET. -/
def ticketBody (t : Ticket) : List Byte :=
  [byteOf t.channel.number, byteOf t.slot.number] ++ bytes16 t.piece ++
    [t.article, t.program, spanByte t.span] ++ bytes16 (lengthField t.length) ++ bytes16 t.batch ++
    [byteOf (boolNumber t.doubt), byteOf t.reason.number]

/-- The body of an ALERT; the latest piece is 0 when absent. -/
def alertBody (m : Merged) : List Byte :=
  [byteOf m.count, byteOf m.highest.number, byteOf m.code.number] ++ bytes16 (m.piece.getD 0) ++
    bytes32 m.position

/-- The body of a TALLY. -/
def tallyBody (t : TallyReport) : List Byte :=
  bytes16 t.batch ++ [byteOf t.cause.number, byteOf t.slot, byteOf (boolNumber t.last), t.article] ++
    tallyBytes t.counts

/-- The body of a message. -/
def Message.body (m : Message) : List Byte :=
  match m with
  | .sync t => bytes24 t
  | .grant l sp n => [byteOf l.number, spanByte sp] ++ bytes16 n
  | .feedState c => feedBody c
  | .ticket t => ticketBody t
  | .lineState l c => [byteOf l.number, byteOf (causeNumber c)]
  | .alert a => alertBody a
  | .tally t => tallyBody t
  | .reply code result data => [code, result] ++ data

/-- The frame built at insertion: own address as source, marks clear but for a TICKET's suspect mark,
and the check over the frame as it then stands (R173). -/
def Queued.frame (q : Queued) (own : Byte) : Frame :=
  Frame.sealed
    { dest := q.dest, src := own, kind := q.msg.kind, marks := if q.suspect then markSuspect else 0,
      body := q.msg.body, check := 0 }

/-- The own-frame list entry of an inserted frame, of age 0 (R173). -/
def Queued.entry (q : Queued) : OwnEntry :=
  { dest := q.dest, kind := q.msg.kind, body := q.msg.body, age := 0 }

/-! ### The frame a reception command stands for -/

/-- A frame of an envelope. -/
def envFrame (e : Envelope) (kind : Byte) (body : List Byte) : Frame :=
  { dest := e.dest, src := e.src, kind := kind, marks := e.marks, body := body, check := e.check }

/-- TRAVEL, kind 2. -/
def travelFrame (e : Envelope) (delta : Half) (stamp : Stamp) (run : Byte) : Frame :=
  envFrame e 2 (bytes16 delta ++ bytes24 stamp ++ [run])

/-- The body of an EDGE, with its tag. -/
def edgeBody (channel edge : Byte) (stamp : Stamp) (tag : Half) : List Byte :=
  [channel, edge] ++ bytes24 stamp ++ bytes16 tag

/-- EDGE, kind 3. -/
def edgeFrame (e : Envelope) (channel edge : Byte) (stamp : Stamp) (tag : Half) : Frame :=
  envFrame e 3 (edgeBody channel edge stamp tag)

/-- READY, kind 4. -/
def readyFrame (e : Envelope) (lane span article : Byte) (batch : Half) : Frame :=
  envFrame e 4 ([lane, span, article] ++ bytes16 batch)

/-- WITHDRAW, kind 5. -/
def withdrawFrame (e : Envelope) (lane : Byte) : Frame := envFrame e 5 [lane]

/-- SLOT_FREE, kind 9. -/
def slotFreeFrame (e : Envelope) (channel slot : Byte) (piece : Half) (outcome : Byte) : Frame :=
  envFrame e 9 ([channel, slot] ++ bytes16 piece ++ [outcome])

/-- GRANT, kind 6. -/
def grantFrame (e : Envelope) (lane span : Byte) (piece : Half) : Frame :=
  envFrame e 6 ([lane, span] ++ bytes16 piece)

/-- TICKET, kind 8. -/
def ticketFrame (e : Envelope) (t : TicketFields) : Frame :=
  envFrame e 8
    ([t.channel, t.slot] ++ bytes16 t.piece ++ [t.article, t.program, t.span] ++ bytes16 t.length ++
      bytes16 t.batch ++ [t.doubt, t.reason])

/-- REQUEST, kind 13: the request code and its operands. -/
def requestFrame (e : Envelope) (body : List Byte) : Frame := envFrame e 13 body

/-- COMMAND, request code 4: the command code and its operand (R186). -/
def commandFrame (e : Envelope) (code : Byte) (operand : List Byte) : Frame :=
  requestFrame e ([4, code] ++ operand)

/-! ### Parsing received bytes (R166) -/

/-- The frame that received bytes make, if the header is complete, the body length lies in 0..24 and
the whole frame has been received; bytes after the frame belong to no reception (log 8). -/
def parseFrame (bytes : List Byte) : Option Frame :=
  match bytes with
  | dest :: src :: kind :: marks :: len :: rest =>
    if len.toNat ≤ Config.maxBody ∧ len.toNat + 2 ≤ rest.length then
      some { dest := dest, src := src, kind := kind, marks := marks, body := rest.take len.toNat,
             check := halfAt rest len.toNat }
    else none
  | _ => none

end Sys2Proof.Machine
end

