-- ==== Sys2Proof/Machine/Monitor.lean ====
section
/-! DEFINITION. The Fault Monitor (spec/08 R157 to R161), the repeat-fault table in front of it (spec/02 R35), and the LINE_STATE report of Line Control (spec/08 R149). -/

namespace Sys2Proof.Machine

open Sys2Proof

/-- What a block raises: code, severity, optional piece number, "where", and a position where the
raising rule gives one (R157). -/
structure Raised where
  code : FaultCode
  severity : Severity
  piece : Option Half
  site : Site
  position : Option Pos
  deriving DecidableEq, Repr

/-- The fault record built for a raised fault (R157). -/
def State.faultRecord (s : State) (f : Raised) : FaultRecord :=
  { code := f.code, severity := f.severity, stamp := s.travel.ringTime,
    position := f.position.getD s.travel.position, piece := f.piece, site := f.site,
    suspect := s.line.state == .suspect }

/-! ### The fault list (R158) -/

/-- The lowest severity number among records. -/
def lowestSeverity (l : List FaultRecord) : Nat :=
  l.foldl (fun m r => min m r.severity.number) 3

/-- Remove the oldest record of a severity. -/
def dropOldest (v : Nat) : List FaultRecord → List FaultRecord
  | [] => []
  | r :: rest => if r.severity.number = v then rest else r :: dropOldest v rest

/-- Put a record into the fault list: appended, in place of the oldest record of a lower severity, or
dropped with the overflow count raised (R158). -/
def FaultMonitor.insert (m : FaultMonitor) (r : FaultRecord) : FaultMonitor :=
  if m.list.length < Config.faultCapacity then { m with list := m.list ++ [r] }
  else if lowestSeverity m.list < r.severity.number then
    { m with list := dropOldest (lowestSeverity m.list) m.list ++ [r] }
  else { m with overflow := satSucc 255 m.overflow }

/-! ### Alerts (R160) -/

/-- The accumulator set to one fault alone (R160). -/
def Merged.single (r : FaultRecord) : Merged :=
  { count := 1, highest := r.severity, code := r.code, piece := r.piece, position := r.position }

/-- A fault merged into the accumulator (R160). -/
def mergeFault (acc : Option Merged) (r : FaultRecord) : Merged :=
  match acc with
  | none => Merged.single r
  | some m =>
    { count := satSucc 255 m.count,
      highest := if m.highest.number < r.severity.number then r.severity else m.highest,
      code := r.code, piece := r.piece, position := r.position }

/-- An ALERT is due: queued with the hold-off RUNNING at 0 and the accumulator emptied, or the hold-off
OWED when the routine queue has no unreserved free place (R160, R175). -/
def State.queueAlert (s : State) : State :=
  match s.faults.acc with
  | none => s
  | some m =>
    if s.freePlaces = 0 then s.onFaults fun q => { q with holdoff := .owed }
    else (s.pushRoutine 0 (.alert m)).onFaults fun q => { q with acc := none, holdoff := .running 0 }

/-- A recorded fault is offered to the hold-off when its severity is at or above the alert minimum (R160). -/
def State.offerAlert (s : State) (r : FaultRecord) : State :=
  if r.severity.number < s.mgmt.flow.alertMin.number then s
  else
    match s.faults.holdoff with
    | .idle => (s.onFaults fun q => { q with acc := some (Merged.single r) }).queueAlert
    | .running _ => s.onFaults fun q => { q with acc := some (mergeFault q.acc r) }
    | .owed => s.onFaults fun q => { q with acc := some (mergeFault q.acc r) }

/-- A fault is recorded: put into the list and offered to the alert mechanism (R157). What a LINE fault
does beside is `State.recordFault`. -/
def State.logFault (s : State) (f : Raised) : State :=
  (s.onFaults fun q => q.insert (s.faultRecord f)).offerAlert (s.faultRecord f)

/-- A fault of a repeating code passes the repeat-fault table: suppressed when the key is held, else
handed on, with the key taking a free entry when there is one (R35). -/
def State.logRepeating (s : State) (key : RepeatKey) (f : Raised) : State :=
  if s.eyes.repeats.contains key then s
  else if s.eyes.repeats.length < Config.repeatCapacity then
    (s.onEyes fun q => { q with repeats := q.repeats ++ [key] }).logFault f
  else s.logFault f

/-! ### The LINE_STATE report (R149) -/

/-- An owed report is queued when the routine queue has an unreserved free place, with the line state
and cause as they stand; otherwise it stays owed (R149, R175). -/
def State.queueLineState (s : State) : State :=
  if s.line.owed = true ∧ s.freePlaces ≠ 0 then
    (s.pushRoutine 31 (.lineState s.line.state s.line.cause)).onLine fun q => { q with owed := false }
  else s

/-- A line event makes a report owed, and it is queued at once where there is space (R149). -/
def State.oweLineState (s : State) : State :=
  (s.onLine fun q => { q with owed := true }).queueLineState

end Sys2Proof.Machine
end

