-- ==== Sys2Proof/Machine/Sequencer.lean ====
section
/-! DEFINITION. The Feed Sequencer's conditions and grants (spec/05 R99 to R110), with the creation of a record at grant (spec/03 R47 to R49). -/

namespace Sys2Proof.Machine

open Sys2Proof

/-! ### The feed-permitted condition (R110) -/

/-- The feed-permitted condition that the state gives (R110). -/
def State.feedCondition (s : State) : FeedCondition :=
  if s.line.state ≠ .run then .hold .line
  else if s.feed.fhold then .hold .fhold
  else if s.feed.hold then .hold .occupancy
  else if s.batch.block.isSome then .hold .batch
  else .go

/-- Re-evaluate the condition; a change of value or reason queues a FEED_STATE (R110). -/
def State.refreshFeed (s : State) : State :=
  if s.feedCondition = s.feed.condition then s
  else (s.onFeed fun q => { q with condition := s.feedCondition }).queueFeedState s.feedCondition

/-! ### Occupancy (R108) -/

/-- The hold flag after a test: set at HALT, cleared at RESUME, kept between (R108). -/
def State.holdAfter (s : State) : Bool :=
  if s.mgmt.flow.halt ≤ s.feed.occupancy then true
  else if s.feed.occupancy ≤ s.mgmt.flow.resume then false
  else s.feed.hold

/-- Test the hold flag (R108) and re-evaluate the condition (R110). -/
def State.testHold (s : State) : State :=
  (s.onFeed fun q => { q with hold := s.holdAfter }).refreshFeed

/-! ### Lane tails and the earliest release -/

/-- A tail is live while the line position is no more than 65536 units beyond it (R103). -/
def tailLive (position : Pos) (t : Tail) : Bool := posDiff position t.pos ≤ Config.tailLife

/-- Every tail that is not live is set to absent (R103). -/
def State.dropTails (s : State) : State :=
  s.onFeed fun q =>
    { q with lanes := q.lanes.map fun e => { e with tail := e.tail.filter (tailLive s.travel.position) } }

/-- The live tail of a lane. -/
def State.liveTail (s : State) (l : Lane) : Option Tail := (s.lane l).tail.filter (tailLive s.travel.position)

/-- The predicted inlet lead of a grant of lane L made now: P + R_L + D_L (R47, R104). -/
def State.predictedLead (s : State) (l : Lane) : Pos :=
  posAdd s.travel.position ((s.lane l).cfg.release + (s.lane l).cfg.feedDist : Nat)

/-- The lead gap of a candidate: its article's, or the default of path entry 2 (R104). -/
def State.leadGap (s : State) (article : Byte) : Nat :=
  match s.findArticle article with
  | some a => a.leadGap
  | none => s.mgmt.flow.leadGap

/-- One span lane's requirement of the gap test (R104). -/
def State.gapOk (s : State) (lead : Pos) (gap : Nat) (k : Lane) : Bool :=
  match s.liveTail k with
  | none => true
  | some t => (t.gap + gap : Nat) ≤ posDiff lead t.pos

/-- The live tail position furthest along the line among all lanes (R105). -/
def State.furthestTail (s : State) : Option Pos :=
  allLanes.foldl
    (fun m l =>
      match s.liveTail l, m with
      | none, m => m
      | some t, none => some t.pos
      | some t, some p => if 0 < posDiff t.pos p then some t.pos else some p)
    none

/-- The lot-change requirement (R105). -/
def State.lotGapOk (s : State) (lead : Pos) (batch : Half) : Bool :=
  match s.feed.lastBatch with
  | none => true
  | some b =>
    if b = batch then true
    else
      match s.furthestTail with
      | none => true
      | some m => (s.mgmt.flow.batchGap : Int) ≤ posDiff lead m

/-- The earliest-release test of lane L's request (R104, R105). -/
def State.releaseOk (s : State) (l : Lane) (r : LaneRequest) : Bool :=
  (spanLanes r.span).all (s.gapOk (s.predictedLead l) (s.leadGap r.article)) &&
    s.lotGapOk (s.predictedLead l) r.batch

/-! ### Qualifying for a grant (R100) -/

/-- The lanes held by a grant: the spans of the records in GRANTED and of the GRANT frames that wait (R100, condition 4). -/
def State.heldLanes (s : State) : Span :=
  s.pieces.records.foldl (fun m r => if r.state = .granted then m ||| r.span else m) 0 |||
    s.port.urgent.foldl (fun m q => m ||| q.grantSpan) 0

/-- The place of the current batch: the OPEN entry (R119). -/
def State.currentPlace (s : State) : Option Nat :=
  s.batch.places.findIdx? fun e =>
    match e with
    | some b => b.state == .opened
    | none => false

/-- The number of the current batch (R119). -/
def State.currentBatch (s : State) : Option Half :=
  s.batch.places.findSome? fun e =>
    match e with
    | some b => if b.state == .opened then some b.number else none
    | none => none

/-- A lane in READY with request `r` qualifies for a grant: conditions 1 to 7 of R100. -/
def State.qualifies (s : State) (l : Lane) (r : LaneRequest) : Bool :=
  s.line.state == .run && !s.feed.fhold && !s.feed.hold && (r.span &&& s.heldLanes == 0) &&
    s.currentBatch == some r.batch && decide ((s.lane l).cfg.level < s.mgmt.flow.mask) && s.releaseOk l r

/-! ### The grant (R102) -/

/-- The record created at a grant, with its LANE_EXIT window (R47, R48, R65). -/
def State.grantRecord (s : State) (l : Lane) (r : LaneRequest) : Piece :=
  { Piece.blank s.newNumber l r.span (s.predictedLead l) with
    article := r.article
    batch := r.batch
    snapshot := s.findArticle r.article
    grantPos := some s.travel.position
    inletLead := some (s.predictedLead l)
    reject := if (s.findArticle r.article).isNone then .unknownArticle else .none
    window := some { kind := .laneExit, openPt := s.travel.position,
                     expected := posAdd s.travel.position ((s.lane l).cfg.release : Nat),
                     closePt := posAdd s.travel.position ((s.lane l).cfg.grantDist : Nat) } }

/-- The trail gap of a record: its snapshot's, or the default of path entry 2 (R106). -/
def State.trailGap (s : State) (r : Piece) : Nat :=
  match r.snapshot with
  | some a => a.trailGap
  | none => s.mgmt.flow.trailGap

/-- Set the tail of every lane of a span (R106). -/
def State.setTails (s : State) (sp : Span) (t : Tail) : State :=
  (spanLanes sp).foldl (fun u k => u.onLane k fun e => { e with tail := some t }) s

/-- The idle timer restarted, with elapsed 0 (R125). -/
def State.restartIdle (s : State) : State := s.onBatch fun q => { q with idle := .running 0 false }

/-- The entry that holds a batch number changed. -/
def State.onBatchNumber (s : State) (n : Half) (f : BatchEntry → BatchEntry) : State :=
  s.onBatch fun q =>
    { q with places := q.places.map fun e => e.map fun b => if b.number == n then f b else b }

/-- The Batch Counter is told of a grant: one more live piece, and the idle timer restarts (R121, R125). -/
def State.batchGranted (s : State) (n : Half) : State :=
  (s.onBatchNumber n fun b => { b with live := b.live + 1 }).restartIdle

/-- A lane leaves the request order (R95). -/
def State.leaveOrder (s : State) (l : Lane) : State :=
  s.onFeed fun q => { q with order := q.order.filter (· != l) }

/-- A lane stands at the back of the request order (R95). -/
def State.joinBack (s : State) (l : Lane) : State :=
  s.onFeed fun q => { q with order := q.order.filter (· != l) ++ [l] }

/-- A lane stands at the front of the request order (R95). -/
def State.joinFront (s : State) (l : Lane) : State :=
  s.onFeed fun q => { q with order := l :: q.order.filter (· != l) }

/-- A lane takes a run state other than READY: it holds no request and stands in no order (R94, R95). -/
def State.restLane (s : State) (l : Lane) (run : LaneRun) : State :=
  (s.onLane l fun e => { e with run := run, request := none }).leaveOrder l

/-- The Feed Sequencer's own steps of a grant of lane L that created record `p`: steps 2 to 5 of R102. -/
def State.grantLane (s : State) (l : Lane) (p : Piece) : State :=
  ((s.restLane l .granted).setTails p.span
    { pos := posAdd p.orderKey (s.lengthBasis p : Nat), gap := s.trailGap p, owner := p.number }).onFeed
    fun q => { q with lastBatch := some p.batch, pointer := l.next }

/-- A grant of lane L for its held request (R102); refused with nothing changed when the table is full (R49). -/
def State.grant (s : State) (l : Lane) (r : LaneRequest) : State :=
  if s.tableFull then s
  else
    let p := s.grantRecord l r
    ((((s.addRecord p).onPieces fun t => { t with granted := t.granted + 1 }).grantLane l p).onFeed fun q =>
        { q with occupancy := q.occupancy + 1 }).testHold.batchGranted p.batch |>.pushUrgent
      { dest := (s.lane l).cfg.node, msg := .grant l p.span p.number, suspect := false }

/-! ### Evaluation (R99, R101) -/

/-- The lanes from the pointer upward, with lane 4 followed by lane 1 (R101). -/
def lanesFrom (l : Lane) : List Lane := [l, l.next, l.next.next, l.next.next.next]

/-- The arbitration order, fixed when the evaluation begins (R101). -/
def State.arbitration (s : State) : List Lane :=
  [0, 1, 2, 3].flatMap fun v => (lanesFrom s.feed.pointer).filter fun l => (s.lane l).cfg.level == v

/-- Test one lane: a READY lane that qualifies is granted (R101). -/
def State.tryLane (s : State) (l : Lane) : State :=
  match (s.lane l).run, (s.lane l).request with
  | .ready, some r => if s.qualifies l r then s.grant l r else s
  | _, _ => s

/-- One evaluation: tails that are not live are dropped, then the lanes are tested in arbitration order (R99, R101, R103). -/
def State.evaluate (s : State) : State := s.dropTails.arbitration.foldl State.tryLane s.dropTails

/-- Test the hold flag; a clearing of it is an evaluation event (R99, R108). -/
def State.retestHold (s : State) : State :=
  if s.feed.hold && !s.testHold.feed.hold then s.testHold.evaluate else s.testHold

/-- A lane returns to IDLE from GRANTED, an evaluation event (R99, R115, R116). -/
def State.laneToIdle (s : State) (l : Lane) : State := (s.restLane l .idle).evaluate

end Sys2Proof.Machine
end

