-- ==== Sys2Proof/Machine/Lots.lean ====
section
/-! DEFINITION. The Batch Counter (spec/06 R119 to R135): tally slots, the choice of a current batch, the block, closures, and the sending of tallies. -/

namespace Sys2Proof.Machine

open Sys2Proof

/-! ### Entries and slots -/

/-- A new entry for a number (R119). -/
def BatchEntry.fresh (n : Half) : BatchEntry :=
  { number := n, state := .opened, live := 0, cause := none,
    slots := List.replicate 8 { code := none, counts := Tally.zero }, other := Tally.zero, nextSlot := none }

/-- The entry at a place. -/
def State.batchAt (s : State) (i : Nat) : Option BatchEntry := (s.batch.places[i]?).getD none

/-- Replace what stands at a place. -/
def State.setPlace (s : State) (i : Nat) (e : Option BatchEntry) : State :=
  s.onBatch fun q => { q with places := q.places.set i e }

/-- The place of the entry that holds a number (R119: no two entries hold the same). -/
def State.placeOf (s : State) (n : Half) : Option Nat :=
  s.batch.places.findIdx? fun e =>
    match e with
    | some b => b.number == n
    | none => false

/-- The lowest-numbered empty place (R119). -/
def State.emptyPlace (s : State) : Option Nat := s.batch.places.findIdx? fun e => e.isNone

/-- Slot 9 is in use when any of its counts is above 0 (R120). -/
def Tally.inUse (t : Tally) : Bool := t.good != 0 || t.flagged != 0 || t.reject != 0 || t.lost != 0

/-- The slots in use, by their numbers 1..9, ascending (R120). -/
def BatchEntry.used (b : BatchEntry) : List Nat :=
  ((List.range 8).filter fun i => ((b.slots[i]?).bind fun x => x.code).isSome).map (· + 1) ++
    if b.other.inUse then [9] else []

/-- Which count a removal raises (R122); none for the four untallied outcomes. -/
inductive CountName where
  | good | flagged | reject | lost
  deriving DecidableEq, Repr

/-- The count of a removal's outcome (R122). -/
def tallyOf (o : Removal) (doubt : Bool) : Option CountName :=
  match o with
  | .folded => some (if doubt then .flagged else .good)
  | .rejected => some .reject
  | .undelivered => some .reject
  | .overrun => some .reject
  | .jammed => some .lost
  | .missing => some .lost
  | .purged => some .lost
  | .releaseMissed => none
  | .laneAbsent => none
  | .grantBusy => none
  | .cancelled => none

/-- One count rises by one, saturating at 65535 (R119, R122). -/
def Tally.bump (t : Tally) (c : CountName) : Tally :=
  match c with
  | .good => { t with good := satSucc 65535 t.good }
  | .flagged => { t with flagged := satSucc 65535 t.flagged }
  | .reject => { t with reject := satSucc 65535 t.reject }
  | .lost => { t with lost := satSucc 65535 t.lost }

/-- The index 0..7 of the slot for an article code among slots 1..8: the slot that holds it, else the
lowest unused one; none when all eight hold other codes (R120). -/
def slotIndex (slots : List TallySlot) (code : Byte) : Option Nat :=
  match slots.findIdx? fun x => x.code == some code with
  | some i => some i
  | none => slots.findIdx? fun x => x.code.isNone

/-- Count a removal in an entry under an article code (R120, R122). -/
def BatchEntry.count (b : BatchEntry) (code : Byte) (c : CountName) : BatchEntry :=
  match slotIndex b.slots code with
  | some i => { b with slots := b.slots.modify i fun x => { code := some code, counts := x.counts.bump c } }
  | none => { b with other := b.other.bump c }

/-! ### The block and the choice of a current batch (R123, R124) -/

/-- The block is cleared, and the condition re-evaluated (R124). -/
def State.clearBlock (s : State) : State :=
  if s.batch.block.isNone then s else (s.onBatch fun q => { q with block := none }).refreshFeed

/-- The block is set with a cause; LIST_FULL set from clear or from NUMBER_HELD records BATCH_LIST_FULL
with the front lane as "where" (R124). -/
def State.setBlock (s : State) (c : BlockCause) (front : Lane) : State :=
  if s.batch.block = some c then s
  else
    match c with
    | .numberHeld => (s.onBatch fun q => { q with block := some c }).refreshFeed
    | .listFull =>
      ((s.onBatch fun q => { q with block := some c }).refreshFeed).logFault
        { code := .batchListFull, severity := .piece, piece := none, site := .lane front, position := none }

/-- A new current batch is opened at a place: the idle timer starts, the block is cleared, and the
opening is an evaluation event (R123, R125). -/
def State.openBatch (s : State) (i : Nat) (n : Half) : State :=
  (((s.setPlace i (some (BatchEntry.fresh n))).onBatch fun q =>
      { q with idle := .running 0 false, block := none }).refreshFeed).evaluate

/-- The choice of a current batch, made in RUN when there is none (R123). -/
def State.choose (s : State) : State :=
  if s.line.state ≠ .run ∨ s.currentPlace.isSome then s
  else
    match s.feed.order with
    | [] => s.clearBlock
    | front :: _ =>
      match (s.lane front).request with
      | none => s
      | some r =>
        if (s.placeOf r.batch).isSome then s.setBlock .numberHeld front
        else
          match s.emptyPlace with
          | some i => s.openBatch i r.batch
          | none => s.setBlock .listFull front

/-- The Feed Sequencer reports a change of the request order: an empty order clears the block, and a
choice is made when there is no current batch (R95, R123, R124). -/
def State.orderChanged (s : State) : State :=
  if s.feed.order.isEmpty then s.clearBlock.choose else s.choose

/-! ### Sending the tallies (R130, R131) -/

/-- The counts of a slot number 1..9; all 0 for slot index 0 (R131). -/
def BatchEntry.countsOf (b : BatchEntry) (i : Nat) : Tally :=
  if i = 0 then Tally.zero
  else if i = 9 then b.other
  else ((b.slots[i - 1]?).map fun x => x.counts).getD Tally.zero

/-- The article code that a TALLY of a slot number carries: the slot's, 255 for slot 9, 0 for slot index 0 (R131). -/
def BatchEntry.codeOf (b : BatchEntry) (i : Nat) : Byte :=
  if i = 0 then 0
  else if i = 9 then 255
  else ((b.slots[i - 1]?).bind fun x => x.code).getD 0

/-- The next slot in use after slot number `i` (R131). -/
def BatchEntry.slotAfter (b : BatchEntry) (i : Nat) : Option Nat := b.used.find? fun j => i < j

/-- The TALLY of an entry's next slot (R131). -/
def BatchEntry.report (b : BatchEntry) : TallyReport :=
  let i := b.nextSlot.getD 0
  { batch := b.number, cause := b.cause.getD .command, slot := i,
    last := i = 0 || (b.slotAfter i).isNone, article := b.codeOf i, counts := b.countsOf i }

/-- An entry is freed: its place empties, it leaves the send order, and a choice is made (R123, R131). -/
def State.freeEntry (s : State) (i : Nat) : State :=
  ((s.setPlace i none).onBatch fun q => { q with sendOrder := q.sendOrder.tail }).choose

/-- Queue the next TALLY of the entry at the front of the send order (R131). -/
def State.sendOne (s : State) : State :=
  match s.batch.sendOrder with
  | [] => s
  | i :: _ =>
    match s.batchAt i with
    | none => s.onBatch fun q => { q with sendOrder := q.sendOrder.tail }
    | some b =>
      let t := s.pushRoutine 0 (.tally b.report)
      if b.report.last then t.freeEntry i
      else t.setPlace i (some { b with nextSlot := b.slotAfter (b.nextSlot.getD 0) })

/-- Queue TALLY frames one after another, and on with the next entry, while an unreserved place is
free (R131). -/
def State.sendLoop : Nat → State → State
  | 0, s => s
  | fuel + 1, s =>
    if s.batch.sendOrder.isEmpty ∨ s.freePlaces = 0 then s else State.sendLoop fuel s.sendOne

/-- The Batch Counter queues what the routine queue has room for (R131). Each round takes a place of the queue or
an entry out of the send order, so one round for each is enough (`State.sendTallies_step`). -/
def State.sendTallies (s : State) : State :=
  State.sendLoop (Config.routineCapacity + s.batch.sendOrder.length) s

/-- A CLOSING entry whose live count is 0 goes to SENDING: it joins the back of the send order with its
next slot the lowest in use (0 for none), and sends at once with no entry ahead of it (R130, R131). -/
def State.enterSending (s : State) (i : Nat) : State :=
  match s.batchAt i with
  | none => s
  | some b =>
    let t := (s.setPlace i (some { b with state := .sending, nextSlot := some (b.used.head?.getD 0) })).onBatch
      fun q => { q with sendOrder := q.sendOrder ++ [i] }
    if s.batch.sendOrder.isEmpty then t.sendTallies else t

/-! ### Removal reports and closures -/

/-- The report of a non-anonymous record's removal: one live piece fewer, the tally of R122, and SENDING
for a CLOSING entry whose count reaches 0 (R121, R122, R130). -/
def State.batchRemoved (s : State) (n : Half) (article : Byte) (doubt : Bool) (o : Removal) : State :=
  match s.placeOf n with
  | none => s
  | some i =>
    match s.batchAt i with
    | none => s
    | some b =>
      let c : BatchEntry :=
        match tallyOf o doubt with
        | some k => { b with live := b.live - 1 }.count article k
        | none => { b with live := b.live - 1 }
      let t := s.setPlace i (some c)
      if c.state = .closing ∧ c.live = 0 then t.enterSending i else t

/-- The current batch's entry becomes CLOSING with its cause and the idle timer stops (R125, R129). That there
is then no current batch is an evaluation event, in every line state (R99). -/
def State.closeEntry (s : State) (i : Nat) (b : BatchEntry) (cause : ClosureCause) : State :=
  ((s.setPlace i (some { b with state := .closing, cause := some cause })).onBatch
    fun q => { q with idle := .stopped }).evaluate

/-- A closure of the current batch with a cause, and the choice of the next (R129). -/
def State.closeCurrent (s : State) (cause : ClosureCause) : State :=
  match s.currentPlace with
  | none => s
  | some i =>
    match s.batchAt i with
    | none => s
    | some b =>
      let t := s.closeEntry i b cause
      (if b.live = 0 then t.enterSending i else t).choose

end Sys2Proof.Machine
end

