-- ==== Sys2Proof/Machine/Line.lean ====
section
/-! DEFINITION. Line Control and what crosses the blocks: entry to each line state (spec/08 R148 to R156, spec/05 R117, spec/06 R128), the removal of a record (spec/03 R54 to R57), and the recording of faults with the entry to SUSPECT (spec/08 R154, R157). -/

namespace Sys2Proof.Machine

open Sys2Proof

/-! ### Line events -/

/-- The line state and cause change, TFAULT with them: asserted exactly in SUSPECT (R149). -/
def State.setLine (s : State) (l : LineState) (cause : Option FaultCode) : State :=
  s.onLine fun q => { q with state := l, cause := cause, tfault := l == .suspect }

/-- A change of the line state: LINE_STATE is owed and the feed-permitted condition re-evaluated (R117, R149). -/
def State.enterLine (s : State) (l : LineState) (cause : Option FaultCode) : State :=
  (s.setLine l cause).oweLineState.refreshFeed

/-- Every lane in READY loses its request and goes to IDLE, and the request order is emptied (R117). -/
def State.dropRequests (s : State) : State :=
  s.onFeed fun q =>
    { q with
      lanes := q.lanes.map fun e => if e.run = .ready then { e with run := .idle, request := none } else e
      order := [] }

/-- Entry to CONFIG from DRAINING or SUSPECT: the lanes lose their requests, the block is cleared, and
the current batch closes with the cause of R128 (R117, R128, R153). -/
def State.enterConfig (s : State) (cause : ClosureCause) : State :=
  ((s.enterLine .config none).dropRequests.orderChanged).closeCurrent cause

/-! ### Removal (R54 to R57) -/

/-- The STATUS totals of a removal (R55, R56). -/
def PieceTable.countRemoval (t : PieceTable) (o : Removal) : PieceTable :=
  match o with
  | .folded => { t with discharged := t.discharged + 1 }
  | .rejected => { t with discharged := t.discharged + 1 }
  | .undelivered => { t with discharged := t.discharged + 1 }
  | .overrun => { t with discharged := t.discharged + 1 }
  | .jammed => { t with lost := t.lost + 1 }
  | .missing => { t with lost := t.lost + 1 }
  | .purged => { t with lost := t.lost + 1 }
  | .releaseMissed => t
  | .laneAbsent => t
  | .grantBusy => t
  | .cancelled => t

/-- The request that a record was made from (R112, R117). -/
def Piece.request (r : Piece) : LaneRequest := { span := r.span, article := r.article, batch := r.batch }

/-- A lane returns to READY with a record's request (R112, R117). -/
def State.laneBack (s : State) (r : Piece) : State :=
  s.onLane r.lane fun e => { e with run := .ready, request := some r.request }

/-- A record removed in GRANTED takes its lane out of GRANTED (R57). A GRANT_BUSY lane joins the front of
the request order (R95); the lanes of CANCELLED records are placed by `State.cancelGrants`. -/
def State.laneAfterRemoval (s : State) (r : Piece) (o : Removal) : State :=
  match o with
  | .releaseMissed => s.laneToIdle r.lane
  | .purged => s.laneToIdle r.lane
  | .laneAbsent => s.restLane r.lane .offline
  | .grantBusy => ((s.laneBack r).joinFront r.lane).orderChanged
  | .cancelled => s.laneBack r
  | .folded => s
  | .rejected => s
  | .undelivered => s
  | .overrun => s
  | .jammed => s
  | .missing => s

/-- The removal of record `r` from the table, with the totals of R56. -/
def State.takeOut (s : State) (r : Piece) (o : Removal) : State :=
  s.onPieces fun t =>
    { t with records := t.records.filter fun q => q.number != r.number }.countRemoval o

/-- The reports of a non-anonymous record's removal: to the Batch Counter, and the occupancy falling by
one with the hold flag tested (R54, R108, R121). -/
def State.reportRemoval (s : State) (r : Piece) (o : Removal) : State :=
  if r.anonymous then s
  else
    ((s.batchRemoved r.batch r.article r.doubt o).onFeed fun q =>
      { q with occupancy := q.occupancy - 1 }).retestHold

/-- A removal that leaves the table empty takes a DRAINING line into CONFIG (R54, R153). -/
def State.tableEmptied (s : State) : State :=
  if s.pieces.records.isEmpty && s.line.state == .draining then s.enterConfig .command else s

/-- The GRANT of a record removed in GRANTED as PURGED or RELEASE_MISSED leaves the urgent queue (R57, R176). -/
def State.withdrawRemoved (s : State) (r : Piece) (o : Removal) : State :=
  if r.state = .granted ∧ (o = .purged ∨ o = .releaseMissed) then s.withdrawGrant r.number else s

/-- Record `n` is removed whole with an outcome (R54). A number that names no record removes nothing (R44). -/
def State.removePiece (s : State) (n : Half) (o : Removal) : State :=
  match s.findPiece n with
  | none => s
  | some r =>
    let t := ((s.withdrawRemoved r o).takeOut r o).reportRemoval r o
    (if r.state = .granted ∧ r.anonymous = false then t.laneAfterRemoval r o else t).tableEmptied

/-! ### Entry to SUSPECT and the recording of faults -/

/-- The pieces of the GRANT frames that wait whose records are in GRANTED, in queue order (R117). -/
def State.cancelList (s : State) : List Piece :=
  s.port.urgent.filterMap fun q =>
    match q.grantPiece with
    | none => none
    | some n => (s.findPiece n).filter fun r => r.state == .granted

/-- The lanes that the cancellations brought back to READY stand at the front of the request order, in the
order in which `lanes` lists them (R95, R117). -/
def State.returnLanes (s : State) (lanes : List Lane) : State :=
  (lanes.filter fun l => (s.lane l).run == .ready).foldr (fun l u => u.joinFront l) s

/-- The GRANT frames that wait are removed; their records in GRANTED are removed as CANCELLED and the
lanes stand at the front of the request order in the frames' order (R117, R148, R176). -/
def State.cancelGrants (s : State) : State :=
  (((s.cancelList.map fun r => r.number).foldl (fun u n => u.removePiece n .cancelled)
    s.withdrawGrants).returnLanes (s.cancelList.map fun r => r.lane)).orderChanged

/-- The doubt mark of every record is set, with no fault (R9, R52, R154). -/
def State.doubtAll (s : State) : State :=
  s.onPieces fun t => { t with records := t.records.map fun r => { r with doubt := true } }

/-- Entry to SUSPECT with a cause (R154). -/
def State.enterSuspect (s : State) (cause : FaultCode) : State :=
  (s.enterLine .suspect (some cause)).doubtAll.cancelGrants.markTickets

/-- A fault handed on to the Fault Monitor is recorded, and one of severity LINE is handed to Line
Control: outside SUSPECT the line enters SUSPECT (R154, R155, R157). -/
def State.recordFault (s : State) (f : Raised) : State :=
  if f.severity = .line ∧ s.line.state ≠ .suspect then (s.logFault f).enterSuspect f.code
  else s.logFault f

/-- A doubt setting with a fault: on a clear mark it sets the mark and records the fault; on a set mark
it does nothing (R52). -/
def State.doubtWith (s : State) (n : Half) (f : Raised) : State :=
  match s.findPiece n with
  | none => s
  | some r => if r.doubt then s else (s.onPiece n fun q => { q with doubt := true }).recordFault f

end Sys2Proof.Machine
end

