-- ==== Sys2Proof/Machine/Folder.lean ====
section
/-! DEFINITION. The Folder Hand-off (spec/07 R136 to R147): slots, tickets, pending records and their deadlines, TICKET returns and SLOT_FREE. -/

namespace Sys2Proof.Machine

open Sys2Proof

/-! ### Slots -/

/-- The other slot of a channel. -/
def SlotName.other (n : SlotName) : SlotName :=
  match n with
  | .x => .y
  | .y => .x

/-- The owner of a slot; none for FREE (R136). -/
def Channel.owner (c : Channel) (n : SlotName) : Option Half :=
  match n with
  | .x => c.x
  | .y => c.y

/-- The owner of a slot replaced. -/
def Channel.setOwner (c : Channel) (n : SlotName) (o : Option Half) : Channel :=
  match n with
  | .x => { c with x := o }
  | .y => { c with y := o }

/-- A folder channel. -/
def State.channel (s : State) (c : Lane) : Channel := s.folder.channels.get c

/-- Change one channel. -/
def State.onChannel (s : State) (c : Lane) (f : Channel → Channel) : State :=
  s.onFolder fun q => { q with channels := q.channels.set c (f (q.channels.get c)) }

/-- A slot becomes FREE; the pointer keeps its value (R139). -/
def State.freeSlot (s : State) (c : Lane) (n : SlotName) : State := s.onChannel c fun q => q.setOwner n none

/-! ### Program choice and assignment -/

/-- The program and reason that a TICKET carries; the reason is also the record's afterwards (R140). -/
def programChoice (r : Piece) : Byte × RejectReason :=
  if r.reject ≠ .none then (0, r.reject)
  else
    match r.snapshot with
    | none => (0, r.reject)
    | some a => if r.doubt = true ∧ a.policy = .reject then (0, .doubt) else (a.program, .none)

/-- The TICKET of a record for a slot (R141). -/
def ticketOf (r : Piece) (c : Lane) (n : SlotName) : Ticket :=
  { channel := c, slot := n, piece := r.number, article := r.article, program := (programChoice r).1,
    span := r.span, length := r.measured, batch := r.batch, doubt := r.doubt,
    reason := (programChoice r).2 }

/-- A slot of channel c is assigned to record `r` (R138); the TICKET carries the suspect mark while the
line is SUSPECT (R141). -/
def State.assignSlot (s : State) (c : Lane) (n : SlotName) (r : Piece) : State :=
  ((s.onChannel c fun q => { q.setOwner n (some r.number) with next := n.other }).onPiece r.number fun q =>
      { q with ticketSlot := some (c, n), reject := (programChoice r).2, ticket := .sent, deadline := none }).pushUrgent
    { dest := s.mgmt.line.folder, msg := .ticket (ticketOf r c n), suspect := s.line.state == .suspect }

/-- The pending set of a channel, oldest first (R139). -/
def State.pendingOf (s : State) (c : Lane) : List Piece :=
  s.pieces.records.filter fun r => r.lane == c && r.ticket == .pending

/-- A freed slot serves the oldest pending record of its channel at once (R139). -/
def State.servePending (s : State) (c : Lane) (n : SlotName) : State :=
  match s.pendingOf c with
  | [] => s
  | r :: _ => s.assignSlot c n r

/-- A record handed over at EXIT takes the slot of the pointer, else the other slot, else becomes
PENDING with its deadline (R137, R139). -/
def State.handOver (s : State) (n : Half) : State :=
  match s.findPiece n with
  | none => s
  | some r =>
    let c := s.channel r.lane
    if (c.owner c.next).isNone then s.assignSlot r.lane c.next r
    else if (c.owner c.next.other).isNone then s.assignSlot r.lane c.next.other r
    else
      s.onPiece n fun q =>
        { q with ticket := .pending
                 deadline := r.exitLead.map fun p => posAdd p ((s.lane r.lane).cfg.arming : Nat) }

/-! ### Deadlines (R143) -/

/-- A pending record whose deadline has passed is overrun (R143). -/
def State.overrun (s : State) (r : Piece) : State :=
  ((s.recordFault { code := .ticketOverrun, severity := .piece, piece := some r.number,
                    site := .channel r.lane, position := some s.travel.position }).onPiece r.number fun q =>
      { q with reject := .overrun, ticket := .none, deadline := none }).removePiece r.number .overrun

/-- The deadline test of one record, which was pending when the sample began (R5, R143). -/
def State.testDeadline (s : State) (r : Piece) : State :=
  match r.deadline with
  | some d => if passes s.travel.position d then s.overrun r else s
  | none => s

/-- The deadline tests of a sample: channels 1 to 4, each set in table order; `before` are the records
at the beginning of the sample, since a wait that began in it is first tested at the next (R5, R143; log 13). -/
def State.testDeadlines (s : State) (before : List Piece) : State :=
  allLanes.foldl
    (fun u c =>
      ((u.pendingOf c).filter fun r =>
        before.any fun b => b.number == r.number && b.ticket == .pending).foldl State.testDeadline u)
    s

/-! ### The TICKET's return (R142) -/

/-- The record that a returning TICKET matches: in the table, SENT to the channel and slot it names (R142). -/
def State.ticketMatch (s : State) (c : Lane) (n : SlotName) (piece : Half) : Option Piece :=
  (s.findPiece piece).filter fun r => r.ticket == .sent && r.ticketSlot == some (c, n)

/-- An undelivered ticket (R142). -/
def State.undelivered (s : State) (c : Lane) (n : SlotName) (r : Piece) : State :=
  (((((s.recordFault { code := .ticketUndelivered, severity := .piece, piece := some r.number,
                       site := .channel c, position := none }).freeSlot c n).onPiece r.number fun q =>
      { q with reject := .undelivered }).removePiece r.number .undelivered).servePending c n)

/-- A TICKET has come home with these marks (R142). -/
def State.ticketReturned (s : State) (marks : Byte) (c : Lane) (n : SlotName) (piece : Half) : State :=
  match s.ticketMatch c n piece with
  | none => s
  | some r =>
    if isTaken marks && !isBusy marks then s.onPiece r.number fun q => { q with ticket := .delivered }
    else s.undelivered c n r

/-! ### SLOT_FREE (R144, R145) -/

/-- The folder's outcome of a number 1..3 (R166). -/
def folderOutcome (b : Byte) : Option Removal :=
  match b.toNat with
  | 1 => some .folded
  | 2 => some .rejected
  | 3 => some .jammed
  | _ => none

/-- The slot of a number (R166). -/
def slotOf (b : Byte) : Option SlotName :=
  match b.toNat with
  | 0 => some .x
  | 1 => some .y
  | _ => none

/-- The mismatch fault of a discharge (R145, step 1). -/
def State.noteMismatch (s : State) (c : Lane) (owner carried : Half) : State :=
  if carried = owner then s
  else s.recordFault { code := .slotMismatch, severity := .noted, piece := some owner, site := .channel c,
                       position := none }

/-- The jam fault of a discharge (R145, step 2). -/
def State.noteJam (s : State) (c : Lane) (owner : Half) (o : Removal) : State :=
  if o = .jammed then
    s.recordFault { code := .folderJam, severity := .piece, piece := some owner, site := .channel c,
                    position := none }
  else s

/-- The owner of an OWNED slot is discharged (R145). -/
def State.discharge (s : State) (c : Lane) (n : SlotName) (owner carried : Half) (o : Removal) : State :=
  (((((s.noteMismatch c owner carried).noteJam c owner o).withdrawTicket owner).freeSlot c n).removePiece
    owner o).servePending c n

/-- A SLOT_FREE whose fields are set aside or name a slot (R144). -/
def State.slotFreed (s : State) (channel slot : Byte) (piece : Half) (outcome : Byte) : State :=
  match Lane.ofNumber channel.toNat, slotOf slot, folderOutcome outcome with
  | some c, some n, some o =>
    match (s.channel c).owner n with
    | none =>
      s.recordFault { code := .slotNotOwned, severity := .noted, piece := some piece, site := .channel c,
                      position := none }
    | some owner => s.discharge c n owner piece o
  | _, _, _ => s

end Sys2Proof.Machine
end

