-- ==== Sys2Proof/Machine/Matching.lean ====
section
/-! DEFINITION. The Checkpoint Matcher (spec/04 R63 to R90): span eyes, windows, matching, absorption, orphans, the inlet measurement, missing pieces, prediction and slip; with the anonymous records of spec/03 R50 and R51 and the tail update of spec/05 R107. -/

namespace Sys2Proof.Machine

open Sys2Proof

/-- A confirmed transition, as the Eye Filter hands it on (R29). -/
structure Transition where
  node : Byte
  channel : Byte
  kind : Checkpoint
  lane : Lane
  edge : Edge
  pos : Pos
  stale : Bool
  deriving DecidableEq, Repr

/-- The eye key as "where". -/
def Transition.site (t : Transition) : Site := .eye t.node t.channel

/-! ### Span eyes (R64) -/

/-- The eye of a checkpoint on a lane: the TRACK entry of that kind and lane (R21, R64). -/
def State.eyeFor (s : State) (k : Checkpoint) (l : Lane) : Option Eye :=
  s.eyes.map.find? fun e =>
    e.cfg.role == .track && e.cfg.kind == some k && Lane.ofNumber e.cfg.lane.toNat == some l

/-- The span eye of a lane is degraded, as one that is missing counts (R64). -/
def State.eyeDegraded (s : State) (k : Checkpoint) (l : Lane) : Bool :=
  match s.eyeFor k l with
  | none => true
  | some e => e.dyn.degraded

/-- The minimum length of a lane's span eye, 0 for one that is missing (R64). -/
def State.eyeLength (s : State) (k : Checkpoint) (l : Lane) : Nat :=
  match s.eyeFor k l with
  | none => 0
  | some e => e.cfg.minLength

/-- The span eye of a lane is not degraded and has the filtered state BLOCKED (R80). -/
def State.eyeBlocked (s : State) (k : Checkpoint) (l : Lane) : Bool :=
  match s.eyeFor k l with
  | none => false
  | some e => !e.dyn.degraded && e.dyn.filtered == .block

/-- Every span eye at K is degraded: the record is blind at K (R64). -/
def State.blind (s : State) (k : Checkpoint) (sp : Span) : Bool := (spanLanes sp).all (s.eyeDegraded k)

/-- The close margin: the largest minimum length among the span eyes at K (R64). -/
def State.closeMargin (s : State) (k : Checkpoint) (sp : Span) : Nat :=
  (spanLanes sp).foldl (fun m l => max m (s.eyeLength k l)) 0

/-! ### Windows (R65 to R67) -/

/-- A window around an expected point with a tolerance on both sides. -/
def windowAround (k : Checkpoint) (expected : Pos) (tol : Nat) : Window :=
  { kind := k, openPt := posAdd expected (-(tol : Int)), expected := expected,
    closePt := posAdd expected (tol : Int) }

/-- The INLET window opened from a lane-exit lead on lead lane L (R66). -/
def State.inletWindow (s : State) (l : Lane) (lead : Pos) : Window :=
  windowAround .inlet (posAdd lead ((s.lane l).cfg.feedDist : Nat)) s.mgmt.windows.tolI

/-- The EXIT window opened from an inlet lead on lead lane L (R67). -/
def State.exitWindow (s : State) (l : Lane) (lead : Pos) : Window :=
  windowAround .exit (posAdd lead ((s.mgmt.windows.ironer : Int) + s.matcher.slip.get l)) s.mgmt.windows.tolE

/-- A record holds a window of kind K that contains p (R70). -/
def Piece.windowHolds (r : Piece) (k : Checkpoint) (p : Pos) : Bool :=
  match r.window with
  | none => false
  | some w => w.kind == k && within p w.openPt w.closePt

/-- The distance of p from a record's expected point (R70). -/
def Piece.deviation (r : Piece) (p : Pos) : Int :=
  match r.window with
  | none => 0
  | some w => posDiff p w.expected

/-! ### Stale transitions and ambiguity (R20, R70) -/

/-- A stale transition used for a record sets its doubt mark, with STALE_TIME if it was clear (R20). -/
def State.settleStale (s : State) (n : Half) (t : Transition) : State :=
  if t.stale then
    s.doubtWith n { code := .staleTime, severity := .doubt, piece := some n, site := t.site,
                    position := some t.pos }
  else s

/-- A match with more than one candidate sets the chosen record's doubt mark, with AMBIGUOUS if it was clear (R70). -/
def State.settleAmbiguity (s : State) (n : Half) (several : Bool) (t : Transition) : State :=
  if several then
    s.doubtWith n { code := .ambiguous, severity := .doubt, piece := some n, site := t.site,
                    position := some t.pos }
  else s

/-! ### Tails from trails (R83, R107) -/

/-- The lane tails after a record's inlet trail became final at `t` (R107). -/
def State.updateTails (s : State) (r : Piece) (t : Pos) : State :=
  if r.anonymous then
    s.onLane r.lane fun e =>
      match e.tail with
      | none => { e with tail := some { pos := t, gap := s.mgmt.flow.trailGap, owner := r.number } }
      | some old =>
        if 0 < posDiff t old.pos then
          { e with tail := some { pos := t, gap := s.mgmt.flow.trailGap, owner := r.number } }
        else e
  else
    (spanLanes r.span).foldl
      (fun u k =>
        u.onLane k fun e =>
          { e with tail := e.tail.map fun q => if q.owner == r.number then { q with pos := t } else q })
      s

/-! ### The length check and the final trail (R80 to R82) -/

/-- The length check's reason, written when the record has none (R53, R82). -/
def Piece.withReason (r : Piece) (x : RejectReason) : Piece :=
  if r.reject = .none then { r with reject := x } else r

/-- The length check of a record with a snapshot on its measured length (R82). -/
def State.lengthCheck (s : State) (r : Piece) (len : Int) (trail : Pos) : State :=
  match r.snapshot with
  | none => s
  | some a =>
    if (a.maximum : Int) < len then
      (s.onPiece r.number fun q => q.withReason .long).recordFault
        { code := .lengthLong, severity := .piece, piece := some r.number, site := .lane r.lane,
          position := some trail }
    else if len < (a.minimum : Int) then
      (s.onPiece r.number fun q => q.withReason .short).recordFault
        { code := .lengthShort, severity := .piece, piece := some r.number, site := .lane r.lane,
          position := some trail }
    else s

/-- The trail of record `r` becomes final at `trail`: measured length, length check, and the report to
the Feed Sequencer (R80, R82, R83). -/
def State.finalTrail (s : State) (r : Piece) (trail : Pos) : State :=
  let len := posDiff trail (r.inletLead.getD trail)
  (((s.onPiece r.number fun q =>
      { q with inletTrail := some trail, trailFinal := true, measured := some len, measurement := none }).lengthCheck
    r len trail).updateTails r trail)

/-- No span eye at INLET that is not degraded is BLOCKED (R80). -/
def State.inletClear (s : State) (sp : Span) : Bool := (spanLanes sp).all fun l => !s.eyeBlocked .inlet l

/-- The trail-final test by clearing (R80). -/
def State.testClearing (s : State) (n : Half) : State :=
  match s.findPiece n with
  | none => s
  | some r =>
    match r.measurement with
    | none => s
    | some m =>
      match m.taken with
      | none => s
      | some t => if s.inletClear r.span then s.finalTrail r t else s

/-- The tests of R81 on a record still in measurement: trail by prediction, measurement limit. -/
def State.testLimit (s : State) (n : Half) : State :=
  match s.findPiece n with
  | none => s
  | some r =>
    match r.measurement, r.inletLead with
    | some m, some lead =>
      let predicted := posAdd lead (s.lengthBasis r : Nat)
      if m.taken.isNone && s.inletClear r.span && reaches s.travel.position predicted then
        (s.onPiece n fun q => { q with doubt := true }).finalTrail r predicted
      else if passes s.travel.position m.limit then s.finalTrail r m.limit
      else s
    | _, _ => s

/-! ### Beginning a measurement and absorption (R74, R79) -/

/-- The length limit of a record (R79). -/
def Piece.lengthLimit (r : Piece) : Nat :=
  match r.snapshot with
  | some a => a.maximum
  | none => Config.unknownLengthLimit

/-- The inlet measurement begun with lead p and these owed lanes (R79). -/
def State.newMeasurement (s : State) (r : Piece) (p : Pos) (owed : Span) : Measurement :=
  { owed := owed, taken := none,
    limit := posAdd p ((r.lengthLimit + s.mgmt.windows.skew + s.closeMargin .inlet r.span : Nat) : Int) }

/-- The absorption state begun by a match at p (R74). -/
def State.newAbsorption (s : State) (r : Piece) (k : Checkpoint) (p : Pos) (owed : Span) : Absorption :=
  { kind := k, matchPos := p, owed := owed, endPos := posAdd p (s.lengthBasis r : Nat) }

/-! ### Slip (R90) -/

/-- A value brought into −limit..limit. -/
def clampSlip (limit : Nat) (d : Int) : Int := max (-(limit : Int)) (min (limit : Int) d)

/-- The slip estimate after an update with raw slip d: one eighth of the difference, truncated toward
zero, and clamped (R90). -/
def slipAfter (limit : Nat) (slip d : Int) : Int := clampSlip limit (slip + Int.tdiv (d - slip) 8)

/-- The slip estimate of a lane updated with raw slip d (R90). -/
def State.setSlip (s : State) (l : Lane) (d : Int) : State :=
  s.onMatcher fun q => { q with slip := q.slip.set l (slipAfter s.mgmt.windows.slipLimit (q.slip.get l) d) }

/-- Slip is learned for a record's lead lane when its doubt mark is clear (R73, R90). -/
def State.learnSlip (s : State) (n : Half) : State :=
  match s.findPiece n with
  | none => s
  | some r =>
    if r.doubt then s
    else
      match r.exitLead, r.inletLead with
      | some x, some i => s.setSlip r.lane (posDiff x (posAdd i (s.mgmt.windows.ironer : Nat)))
      | _, _ => s

/-! ### Matches (R71 to R73) -/

/-- A match at LANE_EXIT (R71). -/
def State.matchLaneExit (s : State) (r : Piece) (several : Bool) (t : Transition) : State :=
  ((((s.onPiece r.number fun q =>
      { q with laneExitLead := some t.pos, devLaneExit := some (r.deviation t.pos) }).settleAmbiguity
    r.number several t).settleStale r.number t).onPiece r.number fun q =>
      { q with state := .onFeed, window := some (s.inletWindow r.lane t.pos),
               absorption := some (s.newAbsorption r .laneExit t.pos (spanErase r.span t.lane)) }).laneToIdle r.lane

/-- A match at INLET (R72). -/
def State.matchInlet (s : State) (r : Piece) (several : Bool) (t : Transition) : State :=
  (((s.onPiece r.number fun q =>
      { q with inletLead := some t.pos, devInlet := some (r.deviation t.pos) }).settleAmbiguity
    r.number several t).settleStale r.number t).onPiece r.number fun q =>
      { q with state := .inIroner, window := some (s.exitWindow r.lane t.pos),
               measurement := some (s.newMeasurement r t.pos (spanErase r.span t.lane)) }

/-- A match at EXIT (R73). -/
def State.matchExit (s : State) (r : Piece) (several : Bool) (t : Transition) : State :=
  (((((s.onPiece r.number fun q =>
      { q with exitLead := some t.pos, devExit := some (r.deviation t.pos) }).settleAmbiguity
    r.number several t).settleStale r.number t).onPiece r.number fun q =>
      { q with state := .atFolder, window := none,
               absorption := some (s.newAbsorption r .exit t.pos (spanErase r.span t.lane)) }).learnSlip
    r.number).handOver r.number

/-- The match of a transition to the chosen record, by checkpoint (R69). -/
def State.matchTo (s : State) (r : Piece) (several : Bool) (t : Transition) : State :=
  match t.kind with
  | .laneExit => s.matchLaneExit r several t
  | .inlet => s.matchInlet r several t
  | .exit => s.matchExit r several t

/-! ### Absorption (R75) -/

/-- A record can absorb a BLOCK edge on lane k at K (R69). -/
def Piece.canAbsorb (r : Piece) (k : Checkpoint) (l : Lane) : Bool :=
  spanHas r.span l &&
    match k with
    | .inlet => r.measurement.isSome
    | .laneExit => (r.absorption.map fun a => a.kind) == some .laneExit
    | .exit => (r.absorption.map fun a => a.kind) == some .exit

/-- The owed lanes of a record at K (R74, R79). -/
def Piece.owedAt (r : Piece) (k : Checkpoint) : Span :=
  match k with
  | .inlet => (r.measurement.map fun m => m.owed).getD 0
  | .laneExit => (r.absorption.map fun a => a.owed).getD 0
  | .exit => (r.absorption.map fun a => a.owed).getD 0

/-- The match position m0 of a record at K (R75). -/
def Piece.matchPosAt (r : Piece) (k : Checkpoint) : Option Pos :=
  match k with
  | .inlet => r.inletLead
  | .laneExit => r.absorption.map fun a => a.matchPos
  | .exit => r.absorption.map fun a => a.matchPos

/-- A lane removed from the owed lanes of a record at K (R75). -/
def Piece.dropOwed (r : Piece) (k : Checkpoint) (l : Lane) : Piece :=
  match k with
  | .inlet => { r with measurement := r.measurement.map fun m => { m with owed := spanErase m.owed l } }
  | .laneExit => { r with absorption := r.absorption.map fun a => { a with owed := spanErase a.owed l } }
  | .exit => { r with absorption := r.absorption.map fun a => { a with owed := spanErase a.owed l } }

/-- The edge lies further from m0 than the skew tolerance (R75). -/
def State.skewed (s : State) (r : Piece) (t : Transition) : Bool :=
  match r.matchPosAt t.kind with
  | none => false
  | some m => (s.mgmt.windows.skew : Int) < |posDiff t.pos m|

/-- An edge is absorbed into a record (R75). -/
def State.absorb (s : State) (r : Piece) (t : Transition) : State :=
  if spanHas (r.owedAt t.kind) t.lane then
    let u := s.onPiece r.number fun q => q.dropOwed t.kind t.lane
    (if s.skewed r t then
        u.doubtWith r.number { code := .skew, severity := .doubt, piece := some r.number, site := t.site,
                               position := some t.pos }
      else u).settleStale r.number t
  else s.settleStale r.number t

/-! ### Orphans (R50, R51, R76, R77) -/

/-- The orphan-edge counter of a checkpoint adds one (R76). -/
def State.countOrphan (s : State) (k : Checkpoint) : State :=
  match k with
  | .laneExit => s.onMatcher fun q => { q with orphanLane := q.orphanLane + 1 }
  | .inlet => s.onMatcher fun q => { q with orphanInlet := q.orphanInlet + 1 }
  | .exit => s.onMatcher fun q => { q with orphanExit := q.orphanExit + 1 }

/-- The anonymous record of an orphan edge at INLET, with its EXIT window and its measurement (R50, R77). -/
def State.inletOrphan (s : State) (t : Transition) : Piece :=
  let r : Piece :=
    { Piece.blank s.newNumber t.lane (spanOf t.lane) t.pos with
      anonymous := true, state := .inIroner, inletLead := some t.pos, doubt := true, reject := .anonymous,
      window := some (s.exitWindow t.lane t.pos) }
  { r with measurement := some (s.newMeasurement r t.pos 0) }

/-- The anonymous record of an orphan edge at EXIT, with its absorption state (R45, R50, R77). -/
def State.exitOrphan (s : State) (t : Transition) : Piece :=
  let r : Piece :=
    { Piece.blank s.newNumber t.lane (spanOf t.lane)
        (posAdd t.pos (-((s.mgmt.windows.ironer : Int) + s.matcher.slip.get t.lane))) with
      anonymous := true, state := .atFolder, exitLead := some t.pos, doubt := true, reject := .anonymous }
  { r with absorption := some (s.newAbsorption r .exit t.pos 0) }

/-- TABLE_FULL in place of an orphan's record (R51). -/
def State.tableFullFault (s : State) (t : Transition) : State :=
  s.recordFault { code := .tableFull, severity := .line, piece := none, site := t.site, position := some t.pos }

/-- An orphan BLOCK transition; the answer is the new record's number, or 0 (R69, R76, R77). -/
def State.orphan (s : State) (t : Transition) : State × Half :=
  let u := s.countOrphan t.kind
  match t.kind with
  | .laneExit =>
    (u.recordFault { code := .orphanLane, severity := .noted, piece := none, site := t.site,
                     position := some t.pos }, 0)
  | .inlet =>
    if u.tableFull then (u.tableFullFault t, 0)
    else
      ((u.addRecord (u.inletOrphan t)).recordFault
        { code := .orphanInlet, severity := .piece, piece := some (u.inletOrphan t).number, site := t.site,
          position := some t.pos }, (u.inletOrphan t).number)
  | .exit =>
    if u.tableFull then (u.tableFullFault t, 0)
    else
      (((u.addRecord (u.exitOrphan t)).recordFault
        { code := .orphanExit, severity := .piece, piece := some (u.exitOrphan t).number, site := t.site,
          position := some t.pos }).handOver (u.exitOrphan t).number, (u.exitOrphan t).number)

/-! ### A BLOCK transition (R69, R70) -/

/-- The candidates of a BLOCK transition, in table order (R70). -/
def State.candidates (s : State) (t : Transition) : List Piece :=
  s.pieces.records.filter fun r => spanHas r.span t.lane && r.windowHolds t.kind t.pos

/-- The candidate nearest p, the older of two equally near (R46, R70). -/
def nearest (p : Pos) : List Piece → Option Piece
  | [] => none
  | r :: rest =>
    match nearest p rest with
    | none => some r
    | some q => if |r.deviation p| ≤ |q.deviation p| then some r else some q

/-- A confirmed BLOCK transition is matched, absorbed or an orphan; the answer is the number of the
record it was used for, or 0 (R69). -/
def State.takeBlock (s : State) (t : Transition) : State × Half :=
  match nearest t.pos (s.candidates t) with
  | some r => (s.matchTo r (decide (1 < (s.candidates t).length)) t, r.number)
  | none =>
    match s.pieces.records.find? fun r => r.canAbsorb t.kind t.lane with
    | some r => (s.absorb r t, r.number)
    | none => s.orphan t

/-! ### A CLEAR transition (R78) -/

/-- The record whose trail a CLEAR transition at INLET gives: the oldest in measurement whose span
contains the lane and whose inlet lead is before p (R78). -/
def State.trailFor (s : State) (t : Transition) : Option Piece :=
  s.pieces.records.find? fun r =>
    r.measurement.isSome && spanHas r.span t.lane &&
      match r.inletLead with
      | none => false
      | some lead => 0 < posDiff t.pos lead

/-- A confirmed CLEAR transition is taken as a trail, or not used (R78). -/
def State.takeClear (s : State) (t : Transition) : State :=
  match t.kind with
  | .laneExit => s
  | .exit => s
  | .inlet =>
    match s.trailFor t with
    | none => s
    | some r =>
      ((s.onPiece r.number fun q =>
          { q with inletTrail := some t.pos,
                   measurement := q.measurement.map fun m => { m with taken := some t.pos } }).settleStale
        r.number t).testClearing r.number

/-! ### Window tests (R68, R84 to R88) -/

/-- A record passes LANE_EXIT or EXIT by prediction at its expected point (R87). -/
def State.predictPass (s : State) (r : Piece) (w : Window) : State :=
  match w.kind with
  | .laneExit =>
    (s.onPiece r.number fun q =>
      { q with laneExitLead := some w.expected, state := .onFeed,
               window := some (s.inletWindow r.lane w.expected) }).laneToIdle r.lane
  | .exit =>
    (s.onPiece r.number fun q =>
      { q with exitLead := some w.expected, state := .atFolder, window := none }).handOver r.number
  | .inlet => s

/-- A record passes INLET by prediction (R88). -/
def State.predictInlet (s : State) (r : Piece) (w : Window) : State :=
  (s.onPiece r.number fun q =>
      { q with inletLead := some w.expected, doubt := true, state := .inIroner,
               window := some (s.exitWindow r.lane w.expected), measurement := none }).finalTrail
    { r with inletLead := some w.expected } (posAdd w.expected (s.lengthBasis r : Nat))

/-- The MISSING fault of a checkpoint (R84, R85). -/
def missingCode (k : Checkpoint) : FaultCode :=
  match k with
  | .laneExit => .missingRelease
  | .inlet => .missingInlet
  | .exit => .missingExit

/-- The outcome of a window closed with no match (R84, R85, R116). -/
def missingOutcome (k : Checkpoint) : Removal :=
  match k with
  | .laneExit => .releaseMissed
  | .inlet => .missing
  | .exit => .missing

/-- A window closes with no match: the fault is recorded and the record removed (R84, R85, R116). -/
def State.closeWindow (s : State) (r : Piece) (w : Window) : State :=
  (s.recordFault { code := missingCode w.kind, severity := .piece, piece := some r.number,
                   site := .lane r.lane, position := some s.travel.position }).removePiece r.number
    (missingOutcome w.kind)

/-- The window test of one record (R68, test 3). -/
def State.testWindow (s : State) (n : Half) : State :=
  match s.findPiece n with
  | none => s
  | some r =>
    match r.window with
    | none => s
    | some w =>
      if s.blind w.kind r.span then
        if reaches s.travel.position w.expected then
          match w.kind with
          | .inlet => s.predictInlet r w
          | .laneExit => s.predictPass r w
          | .exit => s.predictPass r w
        else s
      else if passes s.travel.position (posAdd w.closePt (s.closeMargin w.kind r.span : Nat)) then
        s.closeWindow r w
      else s

/-- The end of absorption state (R68, test 2; R74). -/
def State.testAbsorption (s : State) (n : Half) : State :=
  match s.findPiece n with
  | none => s
  | some r =>
    match r.absorption with
    | none => s
    | some a => if passes s.travel.position a.endPos then s.onPiece n fun q => { q with absorption := none } else s

/-- The tests of one record at a sample, in the order of R68. The test by clearing waits for no point and
is made at every sample (R80); a point that the record began to wait for in this same sample (a window's,
a measurement's, an absorption's) is first tested at the next (R5, R68; log 13): `b` is the record as it
stood when the sample began, and what it waited for then is tested now. -/
def State.testRecord (s : State) (b : Piece) : State :=
  let now := s.findPiece b.number
  let measuring := b.measurement.isSome
  let absorbing := (now.bind fun r => r.absorption.map fun a => a.kind) == b.absorption.map fun a => a.kind
  let waiting := (now.bind fun r => r.window.map fun w => w.kind) == b.window.map fun w => w.kind
  let s0 := s.testClearing b.number
  let s1 := if measuring then s0.testLimit b.number else s0
  let s2 := if absorbing then s1.testAbsorption b.number else s1
  if waiting then s2.testWindow b.number else s2

/-- The tests of every record of the table, in table order, at a sample (R68). -/
def State.testRecords (s : State) (before : List Piece) : State := before.foldl State.testRecord s

end Sys2Proof.Machine
end

