-- ==== Sys2Proof/Machine/Travel.lean ====
section
/-! DEFINITION. The Travel Unit (spec/01 R1 to R19): ring time and the SYNC period, the accumulation of travel, the travel history, the travel-loss timer and the conversion of stamps; with what the other blocks count at a tick and at a period end. -/

namespace Sys2Proof.Machine

open Sys2Proof

/-! ### Conversion of stamps (R17 to R19) -/

/-- The rise of a segment over e ticks, rounded to the nearest unit with a half rounded up (R18, R19). -/
def segmentRise (a b : Sample) (e : Int) : Int :=
  (2 * e * posDiff b.pos a.pos + timeDiff b.stamp a.stamp) / (2 * timeDiff b.stamp a.stamp)

/-- The adjacent samples with t after the first and before the second (R18). -/
def segmentAround (t : Stamp) : List Sample → Option (Sample × Sample)
  | a :: b :: rest =>
    if 0 < timeDiff t a.stamp ∧ timeDiff t b.stamp < 0 then some (a, b) else segmentAround t (b :: rest)
  | _ => none

/-- The sample before the newest, and the newest (R19). -/
def lastSegment : List Sample → Option (Sample × Sample)
  | [] => none
  | [_] => none
  | [a, b] => some (a, b)
  | _ :: b :: c :: rest => lastSegment (b :: c :: rest)

/-- A stamp after the newest sample, with the extrapolation limit X (R17, R19). -/
def extrapolate (a b : Sample) (limit : Nat) (t : Stamp) : Pos × Bool :=
  if timeDiff t b.stamp ≤ limit then (posAdd b.pos (segmentRise a b (timeDiff t b.stamp)), false)
  else (posAdd b.pos (segmentRise a b limit), true)

/-- The line position and the stale indication of a stamp: the first case of R17 that applies, over a
history of two samples or more. -/
def convertIn (history : List Sample) (oldest : Sample) (limit : Nat) (t : Stamp) : Pos × Bool :=
  if timeDiff t oldest.stamp < 0 then (oldest.pos, true)
  else
    match history.find? (fun x => x.stamp == t) with
    | some x => (x.pos, false)
    | none =>
      match segmentAround t history with
      | some (a, b) => (posAdd a.pos (segmentRise a b (timeDiff t a.stamp)), false)
      | none =>
        match lastSegment history with
        | some (a, b) => extrapolate a b limit t
        | none => (oldest.pos, true)

/-- The line position and the stale indication of a stamp (R17). -/
def TravelUnit.convert (u : TravelUnit) (limit : Nat) (t : Stamp) : Pos × Bool :=
  match u.history with
  | [] => (u.position, true)
  | [x] => (x.pos, true)
  | x :: _ :: _ => convertIn u.history x limit t

/-! ### The travel history (R12 to R14) -/

/-- The age of a stamp (R3). -/
def TravelUnit.age (u : TravelUnit) (t : Stamp) : Int := timeDiff u.ringTime t

/-- A stamp's age lies within the limit in either direction (R14). -/
def TravelUnit.ageOk (u : TravelUnit) (t : Stamp) : Bool :=
  decide (|u.age t| < Config.historyAgeLimit)

/-- A frame's stamp makes a new sample: the history is empty or the stamp is after the newest, and its
age lies within the limit (R12). -/
def TravelUnit.takesStamp (u : TravelUnit) (t : Stamp) : Bool :=
  u.ageOk t &&
    match u.history.getLast? with
    | none => true
    | some n => 0 < timeDiff t n.stamp

/-- The history with a sample appended, the oldest removed when 16 are held (R12). -/
def appendSample (h : List Sample) (x : Sample) : List Sample :=
  (if h.length < Config.historyCapacity then h else h.drop 1) ++ [x]

/-- The history with the newest sample's position replaced; an empty history stays empty (R13). -/
def replaceNewest (h : List Sample) (p : Pos) : List Sample :=
  match h.getLast? with
  | none => h
  | some n => h.dropLast ++ [{ n with pos := p }]

/-- A frame of non-negative delta enters the history with the position after its step (R12, R13). -/
def TravelUnit.enterHistory (u : TravelUnit) (t : Stamp) : TravelUnit :=
  if u.takesStamp t then { u with history := appendSample u.history { stamp := t, pos := u.position } }
  else { u with history := replaceNewest u.history u.position }

/-- Every sample whose age reaches the limit in either direction is removed (R14). -/
def TravelUnit.dropAged (u : TravelUnit) : TravelUnit :=
  { u with history := u.history.filter fun x => u.ageOk x.stamp }

/-! ### Steps (R8 to R11, R15) -/

/-- Every TRAVEL frame restarts the travel-loss timer and replaces the run flag (R11, R15). -/
def TravelUnit.heard (u : TravelUnit) (run : Byte) : TravelUnit :=
  { u with loss := .running 0 false, running := run != 0 }

/-- s = c × K + r (R8). -/
def TravelUnit.travelSum (u : TravelUnit) (scale : Nat) (c : Nat) : Nat := c * scale + u.remainder

/-- A step that does not exceed the max step (R8). -/
def TravelUnit.fullStep (u : TravelUnit) (sum : Nat) : TravelUnit :=
  { u with position := u.position + BitVec.ofNat 32 (sum / 1024), remainder := sum % 1024 }

/-- A clamped step (R9). -/
def TravelUnit.clampedStep (u : TravelUnit) (maxStep : Nat) : TravelUnit :=
  { u with position := u.position + BitVec.ofNat 32 maxStep, remainder := 0 }

/-- The severity of a travel fault: NOTED with an empty table, LINE otherwise (R10, R16). -/
def State.travelSeverity (s : State) : Severity := if s.pieces.records.isEmpty then .noted else .line

/-- A negative delta is discarded (R10). -/
def State.reverseTravel (s : State) (src : Byte) : State :=
  s.recordFault { code := .travelReverse, severity := s.travelSeverity, piece := none, site := .node src,
                  position := none }

/-- The whole step of a frame exceeds the max step (R9). -/
def State.clampTravel (s : State) (src : Byte) : State :=
  ((s.onTravel fun u => u.clampedStep s.mgmt.line.maxStep).recordFault
    { code := .travelClamp, severity := .doubt, piece := none, site := .node src, position := none }).doubtAll

/-- The whole step of a frame of count delta c exceeds the max step (R9). -/
def State.exceedsMax (s : State) (c : Nat) : Bool :=
  decide (s.mgmt.line.maxStep < s.travel.travelSum s.mgmt.line.scale c / 1024)

/-- The step of a frame of count delta c ≥ 0 (R8, R9). -/
def State.stepTravel (s : State) (src : Byte) (c : Nat) : State :=
  if s.exceedsMax c then s.clampTravel src
  else s.onTravel fun u => u.fullStep (u.travelSum s.mgmt.line.scale c)

/-! ### The clock rows -/

/-- The travel-loss timer counts a tick; at the timeout it is marked expired (R15; log 3). -/
def LossTimer.tick (t : LossTimer) (timeout : Nat) : LossTimer :=
  match t with
  | .stopped => .stopped
  | .running n due => .running (n + 1) (due || decide (timeout ≤ n + 1))

/-- Ring time and the SYNC period count advance; a step from 99 to 0 ends a period, whose ring time is
listed until SYNC_PERIOD_END takes it (R1, R2; log 4). -/
def TravelUnit.tick (u : TravelUnit) (timeout : Nat) : TravelUnit :=
  { u with
    ringTime := u.ringTime + 1
    syncCount := if u.syncCount + 1 < Config.syncPeriod then u.syncCount + 1 else 0
    periodEnds := if u.syncCount + 1 < Config.syncPeriod then u.periodEnds
                  else u.periodEnds ++ [u.ringTime + 1]
    loss := u.loss.tick timeout }

/-- One ring tick: the Travel Unit's counts, the read of FHOLD, and the ages of the own-frame list
(R1, R2, R15, R109, R177). -/
def State.ringTicked (s : State) (fhold : Bool) : State :=
  ((s.onTravel fun u => u.tick s.mgmt.line.lossTimeout).onFeed fun q => { q with fholdRead := some fhold }).onPort
    fun p => { p with ownList := p.ownList.map fun e => { e with age := e.age + 1 } }

/-- The idle timer counts a period end; at a non-zero timeout it is marked expired (R125; log 3). -/
def IdleTimer.count (t : IdleTimer) (timeout : Nat) : IdleTimer :=
  match t with
  | .stopped => .stopped
  | .running n due =>
    .running (satSucc 65535 n) (due || (decide (timeout ≠ 0) && decide (timeout ≤ satSucc 65535 n)))

/-- The alert hold-off counts a period end, up to the 10 at which it ends (R161; log 3). -/
def Holdoff.count (h : Holdoff) : Holdoff :=
  match h with
  | .idle => .idle
  | .running n => .running (min (n + 1) Config.holdoffPeriods)
  | .owed => .owed

/-- The three effects of a period end at ring time t (R2). -/
def State.periodEnded (s : State) (t : Stamp) : State :=
  ((s.queueSync t).onBatch fun q => { q with idle := q.idle.count s.mgmt.flow.idleTimeout }).onFaults
    fun q => { q with holdoff := q.holdoff.count }

/-- The earliest period end not yet taken is taken (R2; log 4). -/
def State.takePeriodEnd (s : State) : State :=
  match s.travel.periodEnds with
  | [] => s
  | t :: rest => (s.onTravel fun u => { u with periodEnds := rest }).periodEnded t

/-- The expiry of the travel-loss timer is taken (R16). -/
def State.takeLoss (s : State) : State :=
  match s.travel.loss with
  | .running _ true =>
    (s.onTravel fun u =>
        { u with loss := if s.pieces.records.isEmpty then .running 0 false else .stopped }).recordFault
      { code := .travelLoss, severity := s.travelSeverity, piece := none, site := .absent, position := none }
  | .running _ false => s
  | .stopped => s

/-- The expiry of the idle timer is taken (R126). -/
def State.takeIdle (s : State) : State :=
  match s.batch.idle with
  | .running _ true => s.closeCurrent .idle
  | .running _ false => s
  | .stopped => s

/-- The end of the alert hold-off is taken (R161). -/
def State.takeHoldoff (s : State) : State :=
  match s.faults.holdoff with
  | .running n =>
    if n < Config.holdoffPeriods then s
    else
      match s.faults.acc with
      | none => s.onFaults fun q => { q with holdoff := .idle }
      | some _ => s.queueAlert
  | .idle => s
  | .owed => s

/-- A read of FHOLD that differs from the held level, as an assertion, is taken (R109, R110). -/
def State.takeAssert (s : State) : State :=
  if s.feed.fholdRead = some true ∧ s.feed.fhold = false then
    (s.onFeed fun q => { q with fhold := true }).refreshFeed
  else s

/-- A read of FHOLD that differs from the held level, as a release, is taken: an evaluation event
(R99, R109, R110). -/
def State.takeRelease (s : State) : State :=
  if s.feed.fholdRead = some false ∧ s.feed.fhold = true then
    (s.onFeed fun q => { q with fhold := false }).refreshFeed.evaluate
  else s

end Sys2Proof.Machine
end

