-- ==== Sys2Proof/Machine/Eyes.lean ====
section
/-! DEFINITION. The Eye Filter (spec/02 R24 to R34): classification of EDGE frames, debounce by travel distance, glitches and degraded eyes, annotation, and the confirmations of an applied sample; with the applied sample itself (spec/01 R6). -/

namespace Sys2Proof.Machine

open Sys2Proof

/-- The edge of a number: 1 BLOCK, 2 CLEAR (R166). -/
def edgeOf (b : Byte) : Option Edge :=
  match b.toNat with
  | 1 => some .block
  | 2 => some .clear
  | _ => none

/-- An entry of the eye map. -/
def State.eyeAt (s : State) (i : Nat) : Option Eye := s.eyes.map[i]?

/-- Change the dynamic state of an entry of the eye map. -/
def State.onEye (s : State) (i : Nat) (f : EyeDynamic → EyeDynamic) : State :=
  s.onEyes fun q => { q with map := q.map.modify i fun e => { e with dyn := f e.dyn } }

/-- The index of the non-empty entry with an eye key (R21). -/
def State.eyeIndex (s : State) (node channel : Byte) : Option Nat :=
  s.eyes.map.findIdx? fun e => e.cfg.role != .unused && e.cfg.node == node && e.cfg.channel == channel

/-- The position p + m that confirms a pending transition (R27, R28). -/
def EyeConfig.confirmPoint (c : EyeConfig) (p : PendingTransition) : Pos :=
  posAdd p.pos (c.minLength : Int)

/-! ### Confirmation (R29) -/

/-- The confirmed transition of an eye (R29); a TRACK entry has a kind and a lane (R21, R22). -/
def EyeConfig.transition (c : EyeConfig) (p : PendingTransition) : Option Transition :=
  match c.kind, Lane.ofNumber c.lane.toNat with
  | some k, some l =>
    some { node := c.node, channel := c.channel, kind := k, lane := l, edge := p.kind, pos := p.pos,
           stale := p.stale }
  | _, _ => none

/-- A confirmed transition is handed to the Checkpoint Matcher outside CONFIG; its answer to a BLOCK
becomes the eye's attributed piece (R29). -/
def State.handTransition (s : State) (i : Nat) (t : Transition) : State :=
  if s.line.state = .config then s
  else
    match t.edge with
    | .block => (s.takeBlock t).1.onEye i fun d => { d with attributed := (s.takeBlock t).2 }
    | .clear => s.takeClear t

/-- Eye i's transition `p` is confirmed: the filtered state takes its kind, the pending transition is
removed, and the transition is handed on (R29). -/
def State.confirm (s : State) (i : Nat) (c : EyeConfig) (p : PendingTransition) : State :=
  let u := s.onEye i fun d => { d with filtered := p.kind, pending := none }
  match c.transition p with
  | none => u
  | some t => u.handTransition i t

/-- A pending transition is started, and confirmed at once when m is 0 (R26). -/
def State.startPending (s : State) (i : Nat) (c : EyeConfig) (p : PendingTransition) : State :=
  if c.minLength = 0 then s.confirm i c p else s.onEye i fun d => { d with pending := some p }

/-! ### Glitches (R31, R32) -/

/-- The eye becomes degraded when its glitch counter comes to a threshold that is not 0 (R32). -/
def State.degrade (s : State) (i : Nat) (c : EyeConfig) (count : Nat) : State :=
  if c.threshold ≠ 0 ∧ count = c.threshold then
    (s.onEye i fun d => { d with degraded := true }).recordFault
      { code := .eyeDegraded, severity := .doubt, piece := none, site := .eye c.node c.channel,
        position := none }
  else s

/-- A glitch: the pending transition is cancelled, counted and raised (R27, R31, R32). -/
def State.glitch (s : State) (i : Nat) (c : EyeConfig) (count : Nat) : State :=
  ((s.onEye i fun d => { d with pending := none, glitches := count }).logRepeating
    (.glitch c.node c.channel)
    { code := .glitch, severity := .noted, piece := none, site := .eye c.node c.channel,
      position := none }).degrade i c count

/-! ### A tracked eye's edge (R25 to R27) -/

/-- A duplicate: counted and raised, nothing else changed (R25). -/
def State.duplicateEdge (s : State) (i : Nat) (c : EyeConfig) : State :=
  (s.onEye i fun d => { d with sequence := satSucc 255 d.sequence }).logRepeating
    (.edgeSequence c.node c.channel)
    { code := .edgeSequence, severity := .noted, piece := none, site := .eye c.node c.channel,
      position := none }

/-- A taken edge at q cancels the pending transition: q lies before p + m (R27). -/
def Eye.isGlitch (e : Eye) (q : Pos) : Bool :=
  match e.dyn.pending with
  | none => false
  | some p => posDiff q (e.cfg.confirmPoint p) < 0

/-- A taken edge whose stamp converted to the pending transition `new` (R26, R27). -/
def State.takeEdge (s : State) (i : Nat) (e : Eye) (new : PendingTransition) : State :=
  let u := s.onEye i fun d => { d with raw := new.kind }
  match e.dyn.pending with
  | none => u.startPending i e.cfg new
  | some p =>
    if e.isGlitch new.pos then u.glitch i e.cfg (satSucc 255 e.dyn.glitches)
    else (u.confirm i e.cfg p).startPending i e.cfg new

/-- What the Eye Filter answers for a frame: stripped, or forwarded with the tag it wrote, if any (R24, R30). -/
inductive EdgeFate where
  | stripped
  | forwarded (tag : Option Half)
  deriving DecidableEq, Repr

/-- The attributed piece of eye i, 0 for none. -/
def State.attributed (s : State) (i : Nat) : Half := ((s.eyeAt i).map fun e => e.dyn.attributed).getD 0

/-- The tag of a frame whose edge was taken and was no glitch, with minimum length m (R30). -/
def State.tagFor (s : State) (i : Nat) (edge : Edge) (m : Nat) : Option Half :=
  if s.line.state = .config ∨ s.attributed i = 0 then none
  else
    match edge with
    | .block => if m = 0 then some (s.attributed i) else none
    | .clear => some (s.attributed i)

/-- An EDGE frame of a tracked eye (R25 to R32). -/
def State.trackEdge (s : State) (i : Nat) (e : Eye) (edge : Edge) (stamp : Stamp) : State × EdgeFate :=
  if e.dyn.raw = edge then (s.duplicateEdge i e.cfg, .forwarded none)
  else
    let q := s.travel.convert s.mgmt.line.extrapolation stamp
    let u := s.takeEdge i e { kind := edge, pos := q.1, stale := q.2 }
    (u, .forwarded (if e.isGlitch q.1 then none else u.tagFor i edge e.cfg.minLength))

/-- The Eye Filter handles an EDGE frame: the first row of R24 that applies. A frame of a DROP entry's key
whose body is not classified meets the first row and is forwarded: DESIGN CHOICE (log 23). -/
def State.classifyEdge (s : State) (src channel edge : Byte) (stamp : Stamp) : State × EdgeFate :=
  if 7 < channel.toNat then (s, .forwarded none)
  else
    match edgeOf edge, s.eyeIndex src channel with
    | some k, some i =>
      match s.eyeAt i with
      | none => (s, .forwarded none)
      | some e =>
        match e.cfg.role with
        | .unused => (s, .forwarded none)
        | .pass => (s, .forwarded none)
        | .drop => (s, .stripped)
        | .track => if e.dyn.degraded then (s, .forwarded none) else s.trackEdge i e k stamp
    | _, _ => (s, .forwarded none)

/-! ### Confirmations at an applied sample (R28) -/

/-- The pending transition of a tracked eye whose p + m the position reaches (R28). -/
def Eye.due (e : Eye) (position : Pos) : Option PendingTransition :=
  if e.cfg.role = .track ∧ e.dyn.degraded = false then
    e.dyn.pending.filter fun p => reaches position (e.cfg.confirmPoint p)
  else none

/-- Place a confirmation behind those at or before its position (R28). -/
def insertDue (x : Nat × Pos) : List (Nat × Pos) → List (Nat × Pos)
  | [] => [x]
  | y :: rest => if 0 < posDiff y.2 x.2 then x :: y :: rest else y :: insertDue x rest

/-- The eyes whose confirmations are due, in ascending order of position, and of map index at equal
positions (R28). -/
def State.dueEyes (s : State) : List (Nat × Pos) :=
  (s.eyes.map.zipIdx.filterMap fun x =>
    (x.1.due s.travel.position).map fun p => (x.2, p.pos)).foldl (fun l x => insertDue x l) []

/-- The confirmation of one eye that is due (R28, R29). -/
def State.confirmEye (s : State) (i : Nat) : State :=
  match s.eyeAt i with
  | none => s
  | some e =>
    match e.dyn.pending with
    | none => s
    | some p => s.confirm i e.cfg p

/-- The confirmations of an applied sample, handed on one by one (R28). -/
def State.confirmDue (s : State) : State := (s.dueEyes.map fun x => x.1).foldl State.confirmEye s

/-! ### The applied sample (R6) -/

/-- The Checkpoint Matcher's tests of a sample, made outside CONFIG (R68). -/
def State.matcherSample (s : State) (before : List Piece) : State :=
  if s.line.state = .config then s else s.testRecords before

/-- The four blocks act on the new position: the Eye Filter, the Checkpoint Matcher, the Feed Sequencer and
the Folder Hand-off, in this order (R6, R68; log 11). -/
def State.actOnSample (s : State) : State :=
  ((s.confirmDue.matcherSample s.pieces.records).evaluate).testDeadlines s.pieces.records

/-- An applied sample is announced, with the position before the frame, the position after it and the
clamp indication (R6, R9). -/
def State.appliedSample (s : State) (x : AppliedSample) : State :=
  (s.onTravel fun q => { q with sample := some x }).actOnSample

/-- The applied sample that ends the work on a frame of count delta c taken in state s, which left the
position `after` (R6). -/
def State.sampleOf (s : State) (c : Nat) (after : Pos) : AppliedSample :=
  { before := s.travel.position, after := after, clamped := s.exceedsMax c }

/-- A TRAVEL frame of count delta c ≥ 0: the step, the history, and then the applied sample (R6, R8, R9, R12, R13). -/
def State.forwardTravel (s : State) (src : Byte) (c : Nat) (stamp : Stamp) : State :=
  let u := (s.stepTravel src c).onTravel fun q => q.enterHistory stamp
  u.appliedSample (s.sampleOf c u.travel.position)

/-- A TRAVEL frame reaches the Travel Unit (R8 to R13). -/
def State.takeTravel (s : State) (src : Byte) (delta : Half) (stamp : Stamp) (run : Byte) : State :=
  let u := s.onTravel fun q => q.heard run
  if delta.toInt < 0 then u.reverseTravel src else u.forwardTravel src delta.toInt.toNat stamp

/-! ### CLEAR_EYES and the tracking restart (R23, R34) -/

/-- What CLEAR_EYES makes of a non-empty entry's dynamic state (R34). -/
def EyeDynamic.cleared (d : EyeDynamic) : EyeDynamic :=
  if d.degraded then
    { d with glitches := 0, sequence := 0, degraded := false, raw := .clear, filtered := .clear }
  else { d with glitches := 0, sequence := 0 }

/-- CLEAR_EYES over the map (R34). -/
def EyeFilter.clearEyes (q : EyeFilter) : EyeFilter :=
  { q with map := q.map.map fun e => if e.cfg.role = .unused then e else { e with dyn := e.dyn.cleared } }

/-- What RESTART TRACKING makes of an entry's dynamic state (R23). -/
def EyeDynamic.retracked (d : EyeDynamic) : EyeDynamic :=
  { d with raw := .clear, filtered := .clear, pending := none, attributed := 0 }

/-- The Eye Filter after RESTART TRACKING (R21, R23, R36). -/
def EyeFilter.retracked (q : EyeFilter) : EyeFilter :=
  { q with map := q.map.map fun e => { e with dyn := e.dyn.retracked } }

end Sys2Proof.Machine
end

