-- ==== Sys2Proof/Machine/Lanes.lean ====
section
/-! DEFINITION. The Feed Sequencer's requests and grants in flight (spec/05 R96 to R98, R111 to R114): READY, WITHDRAW and the return of a GRANT. -/

namespace Sys2Proof.Machine

open Sys2Proof

/-! ### READY (R96, R97) -/

/-- The span byte is a contiguous set of lanes whose lowest member is L and whose width is one of L's
permitted widths (R91, R97). -/
def LaneConfig.permitsWidth (c : LaneConfig) (l : Lane) (span : Byte) : Bool :=
  [1, 2, 3, 4].any fun w =>
    l.number + w ≤ 5 && c.widths.getLsbD (w - 1) && span == (spanFrom l w).setWidth 8

/-- A requested span is permitted for lane L (R97). -/
def State.spanPermitted (s : State) (l : Lane) (span : Byte) : Bool :=
  (s.lane l).cfg.permitsWidth l span &&
    (spanLanes (span.setWidth 4)).all fun k => (s.lane k).cfg.enabled

/-- The Batch Counter is passed an accepted READY: the idle timer restarts for the current batch (R97, R125). -/
def State.batchReady (s : State) (n : Half) : State :=
  if s.currentBatch = some n then s.restartIdle else s

/-- A READY is accepted: the lane holds the request at the back of the order, the change of the order
is reported, the Batch Counter is passed the number, and an evaluation is made (R95, R97). A READY that replaces a
held request moves its lane with one report of the order, not one for the leaving and one for the joining: DESIGN
CHOICE (log 25). -/
def State.acceptReady (s : State) (l : Lane) (r : LaneRequest) : State :=
  ((((s.onLane l fun e => { e with run := .ready, request := some r }).joinBack l).orderChanged).batchReady
    r.batch).evaluate

/-- READY_REFUSED_SPAN for a lane (R92, R97). -/
def State.refuseSpan (s : State) (l : Lane) : State :=
  s.recordFault { code := .readyRefusedSpan, severity := .piece, piece := none, site := .lane l,
                  position := none }

/-- A lane in READY loses its request, goes to IDLE and leaves the order, which is reported (R95, R97, R98). -/
def State.dropRequest (s : State) (l : Lane) : State := (s.restLane l .idle).orderChanged

/-- A READY with valid fields for lane L, outside CONFIG, by the lane's run state (R97). -/
def State.readyFor (s : State) (l : Lane) (span article : Byte) (batch : Half) : State :=
  match (s.lane l).run with
  | .offline => s
  | .granted => s.onLane l fun e => { e with early := satSucc 255 e.early }
  | .idle =>
    if s.spanPermitted l span then
      s.acceptReady l { span := span.setWidth 4, article := article, batch := batch }
    else s.refuseSpan l
  | .ready =>
    if s.spanPermitted l span then
      s.acceptReady l { span := span.setWidth 4, article := article, batch := batch }
    else (s.dropRequest l).refuseSpan l

/-- A READY reaches the Feed Sequencer (R96). -/
def State.takeReady (s : State) (lane span article : Byte) (batch : Half) : State :=
  match Lane.ofNumber lane.toNat with
  | none => s
  | some l =>
    if article = 0 ∨ article = 255 ∨ batch = 0 then s
    else if s.line.state = .config then s
    else s.readyFor l span article batch

/-! ### WITHDRAW (R98) -/

/-- The number of the record in GRANTED whose lead lane is L (R94). -/
def State.grantedOn (s : State) (l : Lane) : Option Half :=
  (s.pieces.records.find? fun r => r.lane == l && r.state == .granted && !r.anonymous).map fun r => r.number

/-- A WITHDRAW reaches the Feed Sequencer (R98). -/
def State.takeWithdraw (s : State) (lane : Byte) : State :=
  match Lane.ofNumber lane.toNat with
  | none => s
  | some l =>
    match (s.lane l).run with
    | .ready => s.dropRequest l
    | .granted =>
      s.recordFault { code := .withdrawLate, severity := .noted, piece := s.grantedOn l, site := .lane l,
                      position := none }
    | .idle => s
    | .offline => s

/-! ### The return of a GRANT (R111 to R114) -/

/-- GRANT_BUSY for a record (R112, R114). -/
def State.noteBusy (s : State) (r : Piece) : State :=
  s.recordFault { code := .grantBusy, severity := .noted, piece := some r.number, site := .lane r.lane,
                  position := none }

/-- LANE_ABSENT for a record, with its lane's node address (R113, R114; log 21). -/
def State.noteAbsent (s : State) (r : Piece) : State :=
  s.recordFault { code := .laneAbsent, severity := .piece, piece := some r.number,
                  site := .node (s.lane r.lane).cfg.node, position := none }

/-- A GRANT has come home with these marks, naming this piece (R111 to R114). -/
def State.grantReturned (s : State) (marks : Byte) (n : Half) : State :=
  match s.findPiece n with
  | none => s
  | some r =>
    if isBusy marks then
      if r.state = .granted then (s.removePiece n .grantBusy).noteBusy r else s.noteBusy r
    else if isTaken marks then s
    else if r.state = .granted then (s.removePiece n .laneAbsent).noteAbsent r
    else s.noteAbsent r

end Sys2Proof.Machine
end

