-- ==== Sys2Proof/Machine/Tables.lean ====
section
/-! DEFINITION. The tables reached through the cursor: the content of a GET and the writing of a PUT, entry by entry (spec/10 R181 to R187 and section 10.6; spec/02 R22, R37; spec/05 R92, R93, R118; spec/03 R62; spec/06 R133; spec/08 R159). -/

namespace Sys2Proof.Machine

open Sys2Proof

/-! ### Contents of a GET -/

/-- Bytes of a reply's content; `none` where the field is absent and section 10.6 states no byte for it (log 16). -/
abbrev Content := List (Option Byte)

/-- Content bytes that are stated. -/
def stated (l : List Byte) : Content := l.map some

/-- Content bytes of an absent field. -/
def unstated (n : Nat) : Content := List.replicate n none

/-- The bytes sent: each absent byte is the free value drawn at `index` for its offset (log 16). -/
def fillFrom (index : Nat) : Nat → Content → List Byte
  | _, [] => []
  | offset, some b :: rest => b :: fillFrom index (offset + 1) rest
  | offset, none :: rest => Config.absentByte index offset :: fillFrom index (offset + 1) rest

/-- A 16-bit field from a number. -/
def field16 (n : Nat) : List Byte := bytes16 (BitVec.ofNat 16 n)

/-- A yes or no field. -/
def fieldBool (b : Bool) : List Byte := [byteOf (boolNumber b)]

/-- The kind number of an EYE entry, 0 for none. -/
def kindNumber (k : Option Checkpoint) : Nat :=
  match k with
  | none => 0
  | some c => c.number

/-- The fields of an EYE entry (R21). -/
def EyeConfig.fields (c : EyeConfig) : List Byte :=
  [c.node, c.channel, byteOf c.role.number, byteOf (kindNumber c.kind), c.lane, byteOf c.minLength,
   byteOf c.threshold]

/-- An EYE entry (R37). -/
def Eye.content (e : Eye) : Content :=
  stated (e.cfg.fields ++ [byteOf e.dyn.filtered.stateNumber] ++ fieldBool e.dyn.degraded ++
    [byteOf e.dyn.glitches, byteOf e.dyn.sequence])

/-- The fields of a LANE entry (R91). -/
def LaneConfig.fields (c : LaneConfig) : List Byte :=
  fieldBool c.enabled ++ [c.node, byteOf c.level, c.widths] ++ field16 c.release ++ field16 c.grantDist ++
    field16 c.feedDist ++ field16 c.arming

/-- The held request of a LANE entry: span 0 when absent (R118). -/
def requestContent (r : Option LaneRequest) : Content :=
  match r with
  | none => stated [0] ++ unstated 3
  | some q => stated ([spanByte q.span, q.article] ++ bytes16 q.batch)

/-- The tail of a LANE entry: owner 0 when absent (R118). -/
def tailContent (t : Option Tail) : Content :=
  match t with
  | none => unstated 6 ++ stated [0, 0]
  | some q => stated (bytes32 q.pos ++ field16 q.gap ++ bytes16 q.owner)

/-- A LANE entry's part (R118). -/
def State.laneContent (s : State) (l : Lane) (part : Nat) : Content :=
  if part = 0 then
    stated ((s.lane l).cfg.fields ++ [byteOf (s.lane l).run.number]) ++ requestContent (s.lane l).request ++
      stated [byteOf (s.lane l).early, byteOf ((s.feed.order.findIdx? (· == l)).getD 255)]
  else tailContent (s.lane l).tail

/-- The fields of an article after its code (R184). -/
def ArticleData.fields (a : ArticleData) : List Byte :=
  field16 a.nominal ++ field16 a.minimum ++ field16 a.maximum ++ field16 a.leadGap ++ field16 a.trailGap ++
    [a.program, byteOf a.policy.number]

/-- An ARTICLE entry; an empty one is all zeros (R184). -/
def articleContent (a : Option Article) : Content :=
  match a with
  | none => stated (List.replicate 13 0)
  | some e => stated (e.code :: e.data.fields)

/-- PATH entry 0 (R185). -/
def PathLine.fields (p : PathLine) : List Byte :=
  field16 p.scale ++ field16 p.maxStep ++ field16 p.lossTimeout ++ field16 p.extrapolation ++ [p.folder]

/-- PATH entry 1 (R185). -/
def PathWindows.fields (p : PathWindows) : List Byte :=
  field16 p.tolI ++ field16 p.tolE ++ field16 p.ironer ++ field16 p.skew ++ field16 p.slipLimit

/-- PATH entry 2 (R185). -/
def PathFlow.fields (p : PathFlow) : List Byte :=
  [byteOf p.mask, byteOf p.halt, byteOf p.resume] ++ field16 p.batchGap ++ field16 p.leadGap ++
    field16 p.trailGap ++ field16 p.length ++ field16 p.idleTimeout ++ [byteOf p.alertMin.number]

/-- The four slip estimates, signed (R89). -/
def slipBytes (p : PerLane Int) : List Byte :=
  bytes16 (BitVec.ofInt 16 p.l1) ++ bytes16 (BitVec.ofInt 16 p.l2) ++ bytes16 (BitVec.ofInt 16 p.l3) ++
    bytes16 (BitVec.ofInt 16 p.l4)

/-- A PATH entry (R185, R89). -/
def State.pathContent (s : State) (i : Nat) : Content :=
  match i with
  | 0 => stated s.mgmt.line.fields
  | 1 => stated (s.mgmt.windows.fields ++ slipBytes s.matcher.slip)
  | _ => stated s.mgmt.flow.fields

/-- An optional position. -/
def posContent (p : Option Pos) : Content :=
  match p with
  | none => unstated 4
  | some q => stated (bytes32 q)

/-- A deviation, −32768 when absent. -/
def devBytes (d : Option Int) : List Byte :=
  match d with
  | none => bytes16 0x8000#16
  | some x => bytes16 (BitVec.ofInt 16 x)

/-- Presence bits 0, 1 and 2. -/
def presence (a b c : Bool) : Byte :=
  byteOf (boolNumber a + 2 * boolNumber b + 4 * boolNumber c)

/-- The ticket channel and slot: channel 0 when absent. -/
def ticketContent (t : Option (Lane × SlotName)) : Content :=
  match t with
  | none => stated [0] ++ unstated 1
  | some (c, n) => stated [byteOf c.number, byteOf n.number]

/-- The window: kind 0 when absent. -/
def windowContent (w : Option Window) : Content :=
  match w with
  | none => stated [0] ++ unstated 12
  | some x => stated ([byteOf x.kind.number] ++ bytes32 x.openPt ++ bytes32 x.expected ++ bytes32 x.closePt)

/-- The snapshot: nominal 0 when absent. -/
def snapshotContent (a : Option ArticleData) : Content :=
  match a with
  | none => stated [0, 0] ++ unstated 10
  | some d => stated d.fields

/-- A PIECE entry's part after the piece number (R62). -/
def Piece.part (r : Piece) (part : Nat) : Content :=
  match part with
  | 0 =>
    stated (fieldBool r.anonymous ++ [byteOf r.state.number, byteOf r.lane.number, spanByte r.span, r.article] ++
      bytes16 r.batch ++ fieldBool r.doubt ++ [byteOf r.reject.number, byteOf r.ticket.number]) ++
      ticketContent r.ticketSlot ++ stated (fieldBool r.trailFinal ++ bytes32 r.orderKey)
  | 1 =>
    stated [presence r.grantPos.isSome r.laneExitLead.isSome r.inletLead.isSome] ++ posContent r.grantPos ++
      posContent r.laneExitLead ++ posContent r.inletLead ++ stated (bytes16 (lengthField r.measured))
  | 2 =>
    stated [presence r.inletTrail.isSome r.exitLead.isSome false] ++ posContent r.inletTrail ++
      posContent r.exitLead ++ stated (devBytes r.devLaneExit ++ devBytes r.devInlet ++ devBytes r.devExit)
  | 3 => windowContent r.window
  | _ => snapshotContent r.snapshot

/-- The bytes after the piece number in an empty PIECE entry's part: every field is absent, with the byte
that section 10.6 gives for an absent ticket channel, position, measured length, deviation, window and
snapshot (R62, R182; log 16). -/
def emptyPiecePart (part : Nat) : Content :=
  match part with
  | 0 => unstated 10 ++ ticketContent none ++ unstated 5
  | 1 =>
    stated [presence false false false] ++ posContent none ++ posContent none ++ posContent none ++
      stated (bytes16 (lengthField none))
  | 2 =>
    stated [presence false false false] ++ posContent none ++ posContent none ++
      stated (devBytes none ++ devBytes none ++ devBytes none)
  | 3 => windowContent none
  | _ => snapshotContent none

/-- A PIECE entry's part; piece number 0 where the table holds no record of that place (R62). -/
def State.pieceContent (s : State) (i part : Nat) : Content :=
  match s.pieces.records[i]? with
  | none => stated [0, 0] ++ emptyPiecePart part
  | some r => stated (bytes16 r.number) ++ r.part part

/-- The current mark and the idle timer's elapsed count, given for the OPEN entry (R133). -/
def State.idleContent (s : State) (b : BatchEntry) : Content :=
  stated (fieldBool (b.state == .opened)) ++
    match b.state, s.batch.idle with
    | .opened, .running n _ => stated (field16 n)
    | _, _ => unstated 2

/-- The closure cause's number, 0 when absent (R133). -/
def closureNumber (c : Option ClosureCause) : Nat :=
  match c with
  | none => 0
  | some x => x.number

/-- A BATCH entry's slot part (R133). -/
def BatchEntry.slotContent (b : BatchEntry) (i : Nat) : Content :=
  stated ([b.codeOf i] ++ tallyBytes (b.countsOf i))

/-- The bytes after the batch number in an empty place's part: every field is absent, with the byte that
section 10.6 gives for an absent cause, next slot and article code, and the current mark clear (R133; the
code of slot 9: log 16). -/
def emptyBatchPart (part : Nat) : Content :=
  if part = 0 then unstated 2 ++ stated ([0, 255] ++ fieldBool false) ++ unstated 2
  else if part = 9 then unstated 9
  else stated [0] ++ unstated 8

/-- A BATCH entry's part; batch number 0 for an empty place (R133). -/
def State.batchContent (s : State) (i part : Nat) : Content :=
  match s.batchAt i with
  | none => stated [0, 0] ++ emptyBatchPart part
  | some b =>
    stated (bytes16 b.number) ++
      if part = 0 then
        stated [byteOf b.state.number, byteOf b.live, byteOf (closureNumber b.cause), byteOf (b.nextSlot.getD 255)] ++
          s.idleContent b
      else b.slotContent part

/-- The "where" of a fault record: its kind and its two value bytes (R159; log 21). -/
def Site.content (x : Site) : Content :=
  match x with
  | .absent => stated [0] ++ unstated 2
  | .eye a ch => stated [1, a, ch]
  | .lane l => stated [2, 0, byteOf l.number]
  | .channel c => stated [3, 0, byteOf c.number]
  | .node a => stated [4, 0, a]
  | .ring => stated [5] ++ unstated 2

/-- A FAULT entry; fault number 0 for an empty place, whose piece number and "where" are absent (R159). -/
def State.faultContent (s : State) (i : Nat) : Content :=
  match s.faults.list[i]? with
  | none => stated [0] ++ unstated 8 ++ stated [0, 0] ++ Site.absent.content ++ unstated 1
  | some r =>
    stated ([byteOf r.code.number, byteOf r.severity.number] ++ bytes24 r.stamp ++ bytes32 r.position ++
      bytes16 (r.piece.getD 0)) ++ r.site.content ++ stated (fieldBool r.suspect)

/-- STATUS, part 0 (R187). -/
def State.statusBytes (s : State) : List Byte :=
  [byteOf s.line.state.number, byteOf (causeNumber s.line.cause), byteOf s.feed.occupancy] ++
    fieldBool s.feed.hold ++ fieldBool s.feed.fhold ++ fieldBool s.travel.running ++
    bytes16 (s.currentBatch.getD 0) ++
    [byteOf (blockNumber s.batch.block), byteOf s.faults.overflow, s.port.own] ++
    bytes32 s.travel.position ++ bytes24 s.travel.ringTime

/-- A STATUS part (R187). -/
def State.statusContent (s : State) (part : Nat) : Content :=
  match part with
  | 0 => stated s.statusBytes
  | 1 =>
    stated (bytes32 s.port.damaged ++ bytes32 s.port.overruns ++ bytes32 s.port.monitorStripped ++
      bytes32 s.port.unhandled)
  | 2 =>
    stated (bytes32 s.matcher.orphanLane ++ bytes32 s.matcher.orphanInlet ++ bytes32 s.matcher.orphanExit)
  | _ => stated (bytes32 s.pieces.granted ++ bytes32 s.pieces.discharged ++ bytes32 s.pieces.lost)

/-- The parts of an entry of each table (section 10.6). -/
def Table.parts (t : Table) : Nat :=
  match t with
  | .eye => 1
  | .lane => 2
  | .article => 1
  | .path => 1
  | .piece => 5
  | .batch => 10
  | .fault => 1
  | .status => 4

/-- The content of a part of an entry (R182, section 10.6). -/
def State.content (s : State) (t : Table) (i part : Nat) : Content :=
  match t with
  | .eye => ((s.eyeAt i).map Eye.content).getD []
  | .lane => ((Lane.ofNumber (i + 1)).map fun l => s.laneContent l part).getD []
  | .article => articleContent ((s.mgmt.articles[i]?).getD none)
  | .path => s.pathContent i
  | .piece => s.pieceContent i part
  | .batch => s.batchContent i part
  | .fault => s.faultContent i
  | .status => s.statusContent part

/-! ### Writing entries -/

/-- What a PUT comes to: refused with a result number, or written, with the state after its effects and
whether a field was clamped (R183). -/
inductive PutAnswer where
  | refused (result : Byte)
  | written (s : State) (clamped : Bool)
  deriving DecidableEq, Repr

/-- DONE (R180). -/
def resDone : Byte := 0
/-- DONE_CLAMPED (R180). -/
def resClamped : Byte := 1
/-- BAD_REQUEST (R180). -/
def resBadRequest : Byte := 2
/-- BAD_INDEX (R180). -/
def resBadIndex : Byte := 3
/-- BAD_VALUE (R180). -/
def resBadValue : Byte := 4
/-- READ_ONLY (R180). -/
def resReadOnly : Byte := 5
/-- REFUSED_MODE (R180). -/
def resRefusedMode : Byte := 6
/-- BUSY (R180). -/
def resBusy : Byte := 7
/-- BAD_TABLES (R180). -/
def resBadTables : Byte := 8
/-- NOT_EMPTY (R180). -/
def resNotEmpty : Byte := 9
/-- NO_BATCH (R180). -/
def resNoBatch : Byte := 10

/-- A value brought to the nearer end of its range (R183). -/
def clampTo (lo hi v : Nat) : Nat := if v < lo then lo else if hi < v then hi else v

/-- A node address 1..30. -/
def nodeOk (b : Byte) : Bool := 1 ≤ b.toNat && b.toNat ≤ 30

/-- A yes or no byte (section 10.6). -/
def yesNo (b : Byte) : Option Bool :=
  match b.toNat with
  | 0 => some false
  | 1 => some true
  | _ => none

/-- The role of a number. -/
def Role.ofNumber (n : Nat) : Option Role :=
  match n with
  | 0 => some .unused
  | 1 => some .track
  | 2 => some .pass
  | 3 => some .drop
  | _ => none

/-- The checkpoint kind of a number: none for 0, and no kind above 3. -/
def kindOf (n : Nat) : Option (Option Checkpoint) :=
  match n with
  | 0 => some none
  | 1 => some (some .laneExit)
  | 2 => some (some .inlet)
  | 3 => some (some .exit)
  | _ => none

/-- The doubt policy of a number. -/
def DoubtPolicy.ofNumber (n : Nat) : Option DoubtPolicy :=
  match n with
  | 1 => some .reject
  | 2 => some .foldFlagged
  | _ => none

/-! #### EYE (R22) -/

/-- The fields of an EYE PUT, none where an enumerated field, the role or the checkpoint kind, holds an
undefined number; role UNUSED stores every other field as 0 (R22, R183; log 19). -/
def parseEye (f : List Byte) : Option EyeConfig :=
  match Role.ofNumber (byteAt f 2).toNat, kindOf (byteAt f 3).toNat with
  | some role, some kind =>
    if role = .unused then some EyeConfig.unused
    else
      some { node := byteAt f 0, channel := byteAt f 1, role := role, kind := kind, lane := byteAt f 4,
             minLength := (byteAt f 5).toNat, threshold := (byteAt f 6).toNat }
  | _, _ => none

/-- A non-empty entry of the map other than i holds the same eye key (R22). -/
def EyeConfig.sameKey (c d : EyeConfig) : Bool :=
  d.role != .unused && d.node == c.node && d.channel == c.channel

/-- A TRACK entry names the same checkpoint kind and lane (R22). -/
def EyeConfig.samePlace (c d : EyeConfig) : Bool :=
  d.role == .track && d.kind == c.kind && d.lane == c.lane

/-- Some entry of the map at an index other than i meets a test. -/
def State.otherEye (s : State) (i : Nat) (f : EyeConfig → Bool) : Bool :=
  s.eyes.map.zipIdx.any fun x => x.2 != i && f x.1.cfg

/-- The checks of an EYE entry for index i (R22, R183). -/
def State.eyeAccepted (s : State) (i : Nat) (c : EyeConfig) : Bool :=
  c.role == .unused ||
    (nodeOk c.node && decide (c.channel.toNat ≤ 7) && !s.otherEye i c.sameKey &&
      (c.role != .track ||
        (c.kind.isSome && (Lane.ofNumber c.lane.toNat).isSome && !s.otherEye i c.samePlace)))

/-- A repeat-fault key belongs to an entry's eye key (R22, R35). -/
def EyeConfig.ownsKey (c : EyeConfig) (k : RepeatKey) : Bool :=
  c.role != .unused &&
    match k with
    | .glitch node channel => node == c.node && channel == c.channel
    | .edgeSequence node channel => node == c.node && channel == c.channel
    | .frameDamaged => false

/-- An accepted EYE entry is written (R22). -/
def State.writeEye (s : State) (i : Nat) (c : EyeConfig) : State :=
  s.onEyes fun q =>
    { q with
      map := q.map.set i { cfg := c, dyn := EyeDynamic.start }
      repeats := q.repeats.filter fun k =>
        !c.ownsKey k && !(((s.eyeAt i).map fun e => e.cfg.ownsKey k).getD false) }

/-- A PUT to EYE entry i (R22, R183). -/
def State.putEye (s : State) (i : Nat) (f : List Byte) : PutAnswer :=
  if s.line.state ≠ .config then .refused resRefusedMode
  else
    match parseEye f with
    | none => .refused resBadValue
    | some c => if s.eyeAccepted i c then .written (s.writeEye i c) false else .refused resBadValue

/-! #### LANE (R92) -/

/-- The fields of a LANE PUT as clamped, none where a check fails (R92, R183). -/
def parseLane (l : Lane) (f : List Byte) : Option LaneConfig :=
  match yesNo (byteAt f 0) with
  | none => none
  | some enabled =>
    if (enabled && !nodeOk (byteAt f 1)) || decide (3 < (byteAt f 2).toNat) ||
        decide (2 ^ (5 - l.number) ≤ (byteAt f 3).toNat) then none
    else
      some { enabled := enabled, node := byteAt f 1, level := (byteAt f 2).toNat, widths := byteAt f 3,
             release := clampTo 0 2000 (wordAt f 4), grantDist := clampTo 20 4000 (wordAt f 6),
             feedDist := clampTo 200 20000 (wordAt f 8), arming := clampTo 100 8000 (wordAt f 10) }

/-- A distance field of a LANE PUT was clamped. -/
def LaneConfig.clamped (c : LaneConfig) (f : List Byte) : Bool :=
  c.release != wordAt f 4 || c.grantDist != wordAt f 6 || c.feedDist != wordAt f 8 || c.arming != wordAt f 10

/-- The lanes in READY other than l whose held request spans l (R92). -/
def State.spanningLanes (s : State) (l : Lane) : List Lane :=
  allLanes.filter fun k =>
    k != l && (s.lane k).run == .ready &&
      match (s.lane k).request with
      | none => false
      | some r => spanHas r.span l

/-- Lanes lose their requests together, go to IDLE and leave the order, each with READY_REFUSED_SPAN (R92;
log 12). That the faults follow the drop and are recorded in ascending lane order is a DESIGN CHOICE (log 24). -/
def State.dropSpanning (s : State) (lanes : List Lane) : State :=
  if lanes.isEmpty then s
  else lanes.foldl State.refuseSpan (lanes.foldl (fun u k => u.restLane k .idle) s).orderChanged

/-- Each lane that becomes IDLE by the PUT is an evaluation event, in every line state (R99; log 14). -/
def State.evaluateIdle (s : State) (lanes : List Lane) : State := lanes.foldl (fun u _ => u.evaluate) s

/-- An accepted LANE entry is written (R92). -/
def State.writeLane (s : State) (l : Lane) (c : LaneConfig) : State :=
  let lost := if c.enabled then [] else s.spanningLanes l
  ((((s.onLane l fun e => { e with cfg := c, early := 0 }).restLane l
    (if c.enabled then .idle else .offline)).dropSpanning lost).evaluateIdle (if c.enabled then [l] else lost))

/-- Whether the line state and the lane's run state allow the write (R92): the result that refuses it. -/
def State.laneWriteRefusal (s : State) (l : Lane) : Option Byte :=
  match s.line.state with
  | .config => none
  | .draining => some resRefusedMode
  | .suspect => some resRefusedMode
  | .run =>
    match (s.lane l).run with
    | .idle => none
    | .offline => none
    | .ready => some resBusy
    | .granted => some resBusy

/-- A PUT to the LANE entry of lane l (R92, R183). -/
def State.putLane (s : State) (l : Lane) (f : List Byte) : PutAnswer :=
  match s.laneWriteRefusal l with
  | some r => .refused r
  | none =>
    match parseLane l f with
    | none => .refused resBadValue
    | some c => .written (s.writeLane l c) (c.clamped f)

/-! #### ARTICLE (R184) -/

/-- The fields of an ARTICLE PUT after the code, as clamped, none where a check fails (R184). -/
def parseArticle (f : List Byte) : Option ArticleData :=
  let nominal := clampTo 20 8000 (wordAt f 1)
  let minimum := clampTo 20 8000 (wordAt f 3)
  let maximum := clampTo 20 8000 (wordAt f 5)
  match DoubtPolicy.ofNumber (byteAt f 12).toNat with
  | none => none
  | some policy =>
    if maximum < minimum ∨ nominal < minimum ∨ maximum < nominal ∨ 63 < (byteAt f 11).toNat then none
    else
      some { nominal := nominal, minimum := minimum, maximum := maximum,
             leadGap := clampTo 0 4095 (wordAt f 7), trailGap := clampTo 0 4095 (wordAt f 9),
             program := byteAt f 11, policy := policy }

/-- A field of an ARTICLE PUT was clamped. -/
def ArticleData.clamped (a : ArticleData) (f : List Byte) : Bool :=
  a.nominal != wordAt f 1 || a.minimum != wordAt f 3 || a.maximum != wordAt f 5 || a.leadGap != wordAt f 7 ||
    a.trailGap != wordAt f 9

/-- Another non-empty entry holds the code (R184). -/
def State.otherArticle (s : State) (i : Nat) (code : Byte) : Bool :=
  s.mgmt.articles.zipIdx.any fun x => x.2 != i && (x.1.map fun a => a.code) == some code

/-- Write ARTICLE entry i. -/
def State.writeArticle (s : State) (i : Nat) (a : Option Article) : State :=
  s.onMgmt fun q => { q with articles := q.articles.set i a }

/-- A PUT to ARTICLE entry i (R184). -/
def State.putArticle (s : State) (i : Nat) (f : List Byte) : PutAnswer :=
  if byteAt f 0 = 0 then .written (s.writeArticle i none) false
  else if byteAt f 0 = 255 ∨ s.otherArticle i (byteAt f 0) = true then .refused resBadValue
  else
    match parseArticle f with
    | none => .refused resBadValue
    | some a => .written (s.writeArticle i (some { code := byteAt f 0, data := a })) (a.clamped f)

/-! #### PATH (R185) -/

/-- The fields of a PATH 0 PUT as clamped (R7, R185). -/
def parsePathLine (f : List Byte) : PathLine :=
  { scale := wordAt f 0, maxStep := clampTo 1 4095 (wordAt f 2), lossTimeout := clampTo 200 5000 (wordAt f 4),
    extrapolation := clampTo 0 2000 (wordAt f 6), folder := byteAt f 8 }

/-- A field of a PATH 0 PUT was clamped. -/
def PathLine.clamped (p : PathLine) (f : List Byte) : Bool :=
  p.maxStep != wordAt f 2 || p.lossTimeout != wordAt f 4 || p.extrapolation != wordAt f 6

/-- A PUT to PATH entry 0 (R7, R141, R185). -/
def State.putPathLine (s : State) (f : List Byte) : PutAnswer :=
  if s.line.state ≠ .config then .refused resRefusedMode
  else if wordAt f 0 = 0 ∨ nodeOk (byteAt f 8) = false then .refused resBadValue
  else .written (s.onMgmt fun q => { q with line := parsePathLine f }) ((parsePathLine f).clamped f)

/-- The fields of a PATH 1 PUT as clamped (R63, R185). -/
def parsePathWindows (f : List Byte) : PathWindows :=
  { tolI := clampTo 10 2000 (wordAt f 0), tolE := clampTo 10 2000 (wordAt f 2),
    ironer := clampTo 2000 60000 (wordAt f 4), skew := clampTo 0 1000 (wordAt f 6),
    slipLimit := clampTo 0 2000 (wordAt f 8) }

/-- A field of a PATH 1 PUT was clamped. -/
def PathWindows.clamped (p : PathWindows) (f : List Byte) : Bool :=
  p.tolI != wordAt f 0 || p.tolE != wordAt f 2 || p.ironer != wordAt f 4 || p.skew != wordAt f 6 ||
    p.slipLimit != wordAt f 8

/-- A PUT to PATH entry 1 (R63, R185). -/
def State.putPathWindows (s : State) (f : List Byte) : PutAnswer :=
  if s.line.state ≠ .config then .refused resRefusedMode
  else .written (s.onMgmt fun q => { q with windows := parsePathWindows f }) ((parsePathWindows f).clamped f)

/-- The RESUME level stored under a stored HALT level (R93). -/
def resumeFor (halt resume : Nat) : Nat := if halt ≤ resume then halt - 1 else resume

/-- The fields of a PATH 2 PUT as clamped, none for an undefined severity (R93, R185). -/
def parsePathFlow (f : List Byte) : Option PathFlow :=
  match Severity.ofNumber (byteAt f 13).toNat with
  | none => none
  | some v =>
    let halt := clampTo 1 112 (byteAt f 1).toNat
    some { mask := clampTo 0 4 (byteAt f 0).toNat, halt := halt,
           resume := resumeFor halt (byteAt f 2).toNat, batchGap := clampTo 0 8000 (wordAt f 3),
           leadGap := clampTo 0 4095 (wordAt f 5), trailGap := clampTo 0 4095 (wordAt f 7),
           length := clampTo 20 8000 (wordAt f 9), idleTimeout := wordAt f 11, alertMin := v }

/-- A field of a PATH 2 PUT was clamped. -/
def PathFlow.clamped (p : PathFlow) (f : List Byte) : Bool :=
  p.mask != (byteAt f 0).toNat || p.halt != (byteAt f 1).toNat || p.resume != (byteAt f 2).toNat ||
    p.batchGap != wordAt f 3 || p.leadGap != wordAt f 5 || p.trailGap != wordAt f 7 || p.length != wordAt f 9

/-- An accepted PATH 2 is in effect at once: the hold flag is tested again, and an evaluation is made, in
every line state (R93, R99, R108; log 14). -/
def State.writePathFlow (s : State) (p : PathFlow) : State :=
  (s.onMgmt fun q => { q with flow := p }).retestHold.evaluate

/-- A PUT to PATH entry 2 (R93, R125, R160, R185). -/
def State.putPathFlow (s : State) (f : List Byte) : PutAnswer :=
  match parsePathFlow f with
  | none => .refused resBadValue
  | some p => .written (s.writePathFlow p) (p.clamped f)

/-! #### Any entry (R183) -/

/-- The entry length of a PUT to table t, entry i (section 10.6); 0 for the read-only tables. -/
def putLength (t : Table) (i : Nat) : Nat :=
  match t with
  | .eye => 7
  | .lane => 12
  | .article => 13
  | .path =>
    match i with
    | 0 => 9
    | 1 => 10
    | _ => 14
  | .piece => 0
  | .batch => 0
  | .fault => 0
  | .status => 0

/-- The table cannot be written (R181). -/
def Table.readOnly (t : Table) : Bool :=
  match t with
  | .eye => false
  | .lane => false
  | .article => false
  | .path => false
  | .piece => true
  | .batch => true
  | .fault => true
  | .status => true

/-- A PUT of the right length to an existing entry of a table that can be written: steps 3 to 5 of R183. -/
def State.putEntry (s : State) (t : Table) (i : Nat) (f : List Byte) : PutAnswer :=
  match t with
  | .eye => s.putEye i f
  | .lane =>
    match Lane.ofNumber (i + 1) with
    | none => .refused resBadIndex
    | some l => s.putLane l f
  | .article => s.putArticle i f
  | .path =>
    match i with
    | 0 => s.putPathLine f
    | 1 => s.putPathWindows f
    | _ => s.putPathFlow f
  | .piece => .refused resReadOnly
  | .batch => .refused resReadOnly
  | .fault => .refused resReadOnly
  | .status => .refused resReadOnly

/-- A PUT of these fields to the entry under the cursor (R180, R183). -/
def State.putAnswer (s : State) (f : List Byte) : PutAnswer :=
  if s.mgmt.table.readOnly then .refused resReadOnly
  else if s.mgmt.table.entries ≤ s.mgmt.index then .refused resBadIndex
  else if f.length ≠ putLength s.mgmt.table s.mgmt.index then .refused resBadRequest
  else s.putEntry s.mgmt.table s.mgmt.index f

end Sys2Proof.Machine
end

