-- ==== Sys2Proof/Machine/Management.lean ====
section
/-! DEFINITION. The Management Unit (spec/10 R180 to R187): SEEK, GET, PUT, the commands, the restarts (spec/08 R162 to R164), and the reply to each request. -/

namespace Sys2Proof.Machine

open Sys2Proof

/-! ### The reply (R180) -/

/-- What a request comes to: the state after it, the result, and the data of its REPLY. -/
structure Answer where
  state : State
  result : Byte
  data : List Byte
  deriving DecidableEq, Repr

/-- A request that changes nothing and carries no data. -/
def State.refuse (s : State) (result : Byte) : Answer := { state := s, result := result, data := [] }

/-- The REPLY is queued into the reserved place, and the reservation ends (R175, R180). -/
def Answer.reply (a : Answer) (src code : Byte) : State :=
  ((a.state.onPort fun p => { p with reserved := false }).pushRoutine src (.reply code a.result a.data))

/-! ### SEEK, GET, PUT -/

/-- SEEK (R181). -/
def State.doSeek (s : State) (table index : Byte) : Answer :=
  match Table.ofNumber table.toNat with
  | none => s.refuse resBadIndex
  | some t =>
    if index.toNat < t.entries then
      { state := s.onMgmt fun q => { q with table := t, index := index.toNat }, result := resDone,
        data := [table, index] }
    else s.refuse resBadIndex

/-- The part number as a GET's REPLY carries it: bit 7 set on the last part (R182, section 10.6). -/
def partByte (part count : Nat) : Byte := byteOf (if part + 1 = count then part + 128 else part)

/-- The cursor after a GET: stepped by the last part (R182). -/
def State.afterGet (s : State) (part : Nat) : State :=
  (if part + 1 = s.mgmt.table.parts then s.onMgmt fun q => { q with index := q.index + 1 } else s)

/-- GET (R182); the reply draws its free bytes at the counter, which steps on (log 16). -/
def State.doGet (s : State) (part : Byte) : Answer :=
  if s.mgmt.table.entries ≤ s.mgmt.index then s.refuse resBadIndex
  else if s.mgmt.table.parts ≤ part.toNat then s.refuse resBadValue
  else
    { state := { s.afterGet part.toNat with freeIndex := s.freeIndex + 1 }, result := resDone,
      data := [byteOf s.mgmt.table.number, byteOf s.mgmt.index, partByte part.toNat s.mgmt.table.parts] ++
        fillFrom s.freeIndex 0 (s.content s.mgmt.table s.mgmt.index part.toNat) }

/-- PUT (R183): a written entry steps the cursor, and the REPLY names the entry. -/
def State.doPut (s : State) (fields : List Byte) : Answer :=
  match s.putAnswer fields with
  | .refused r => s.refuse r
  | .written t clamped =>
    { state := t.onMgmt fun q => { q with index := q.index + 1 },
      result := if clamped then resClamped else resDone,
      data := [byteOf s.mgmt.table.number, byteOf s.mgmt.index] }

/-! ### The consistency check for RUN (R151) -/

/-- The items of the consistency check. -/
inductive CheckItem where
  | scale
  | noLane
  | eye (l : Lane) (k : Checkpoint)
  | span (l : Lane) (w : Nat)
  deriving DecidableEq, Repr

/-- The lanes that are enabled in the lane table, ascending. -/
def State.enabledLanes (s : State) : List Lane := allLanes.filter fun l => (s.lane l).cfg.enabled

/-- Item 3 of an enabled lane: the first kind with no TRACK eye (R151). -/
def State.missingEye (s : State) (l : Lane) : Option CheckItem :=
  ([Checkpoint.laneExit, .inlet, .exit].find? fun k => (s.eyeFor k l).isNone).map fun k => .eye l k

/-- Item 4 of an enabled lane: the first permitted width whose span holds a lane not enabled (R151). -/
def State.missingLane (s : State) (l : Lane) : Option CheckItem :=
  ([1, 2, 3, 4].find? fun w =>
    (s.lane l).cfg.widths.getLsbD (w - 1) &&
      !(l.number + w ≤ 5 && (spanLanes (spanFrom l w)).all fun k => (s.lane k).cfg.enabled)).map fun w =>
    .span l w

/-- The first item that fails (R151). -/
def State.failingItem (s : State) : Option CheckItem :=
  if s.mgmt.line.scale = 0 then some .scale
  else if s.enabledLanes.isEmpty then some .noLane
  else
    match s.enabledLanes.findSome? s.missingEye with
    | some x => some x
    | none => s.enabledLanes.findSome? s.missingLane

/-- The three data bytes of BAD_TABLES (R186). -/
def CheckItem.bytes (x : CheckItem) : List Byte :=
  match x with
  | .scale => [1, 0, 0]
  | .noLane => [2, 0, 0]
  | .eye l k => [3, byteOf l.number, byteOf k.number]
  | .span l w => [4, byteOf l.number, byteOf w]

/-! ### Commands (R186) -/

/-- A command's answer with this result: the command code is its data (R180, R186). -/
def State.answer (s : State) (command result : Byte) : Answer :=
  { state := s, result := result, data := [command] }

/-- Entry to RUN: the line event, the choice of a batch and an evaluation (R117, R150). -/
def State.enterRun (s : State) : State := ((s.enterLine .run none).choose).evaluate

/-- MODE RUN (R150). -/
def State.doRun (s : State) : Answer :=
  if s.line.state ≠ .config then s.answer 1 resRefusedMode
  else
    match s.failingItem with
    | some x => { state := s, result := resBadTables, data := 1 :: x.bytes }
    | none => s.enterRun.answer 1 resDone

/-- Entry to DRAINING, and on to CONFIG with an empty table (R152, R153). -/
def State.enterDraining (s : State) : State :=
  let u := s.enterLine .draining none
  if u.pieces.records.isEmpty then u.enterConfig .command else u

/-- MODE STOP (R152). -/
def State.doStop (s : State) : Answer :=
  if s.line.state = .run then s.enterDraining.answer 2 resDone else s.answer 2 resRefusedMode

/-- The power-on state with its reports: the LINE_STATE report and FEED_STATE HOLD LINE (R162, R164). -/
def State.powerUp (s : State) (straps : BitVec 5) : State :=
  ((State.blank { s.pins with straps := straps } (ownAddress straps) s.freeIndex s.pending).oweLineState).queueFeedState
    (.hold .line)

/-- RESTART FULL (R162): the straps are read again, at the levels that the pins hold (R178; log 6). -/
def State.doRestartFull (s : State) : Answer := (s.powerUp s.pins.straps).answer 3 resDone

/-- A lane after RESTART TRACKING (R94, R103). -/
def LaneEntry.retracked (e : LaneEntry) : LaneEntry :=
  { e with run := if e.cfg.enabled then .idle else .offline, request := none, tail := none }

/-- The Feed Sequencer after RESTART TRACKING (R94, R95, R101, R103, R105, R108, R109, R110). -/
def FeedSequencer.retracked (q : FeedSequencer) : FeedSequencer :=
  { q with
    lanes := q.lanes.map LaneEntry.retracked
    order := []
    lastBatch := none
    pointer := .l1
    occupancy := 0
    hold := false
    condition := .hold .line }

/-- The blocks after RESTART TRACKING, before its reports (R163, R164). -/
def State.retracked (s : State) : State :=
  { s.withdrawGrantsAndTickets with
    eyes := s.eyes.retracked
    pieces := { s.pieces with records := [] }
    feed := s.feed.retracked
    batch := BatchCounter.powerOn
    folder := FolderHandoff.powerOn
    line := { s.line with state := .config, cause := none, tfault := false } }

/-- RESTART TRACKING (R163, R164). -/
def State.doRestartTracking (s : State) : Answer :=
  ((s.retracked.oweLineState).queueFeedState (.hold .line)).answer 4 resDone

/-- RECOVER (R156). -/
def State.doRecover (s : State) : Answer :=
  if s.line.state ≠ .suspect then s.answer 5 resRefusedMode
  else if s.pieces.records.isEmpty then (s.enterConfig .restart).answer 5 resDone
  else s.answer 5 resNotEmpty

/-- The record's ticket holds a folder slot (R59). -/
def Piece.ticketed (r : Piece) : Bool :=
  r.state == .atFolder && (r.ticket == .sent || r.ticket == .delivered)

/-- PURGE of one piece (R59). -/
def State.doPurge (s : State) (n : Half) : Answer :=
  if n = 0 then s.answer 6 resBadIndex
  else
    match s.findPiece n with
    | none => s.answer 6 resBadIndex
    | some r => if r.ticketed then s.answer 6 resBusy else (s.removePiece n .purged).answer 6 resDone

/-- Every record is purged in table order, every slot is freed, and the GRANT and TICKET frames that
wait are removed (R60). -/
def State.purgeEvery (s : State) : State :=
  (((s.pieces.records.map fun r => r.number).foldl (fun u n => u.removePiece n .purged) s).onFolder
    fun _ => FolderHandoff.powerOn).withdrawGrantsAndTickets

/-- PURGE ALL (R60). -/
def State.doPurgeAll (s : State) : Answer :=
  match s.line.state with
  | .run => s.answer 7 resRefusedMode
  | .config => s.answer 7 resDone
  | .draining => s.purgeEvery.answer 7 resDone
  | .suspect => s.purgeEvery.answer 7 resDone

/-- CLOSE_BATCH (R127). -/
def State.doCloseBatch (s : State) : Answer :=
  if s.currentBatch.isNone then s.answer 8 resNoBatch else (s.closeCurrent .command).answer 8 resDone

/-- CLEAR_FAULTS (R36, R158). -/
def State.doClearFaults (s : State) : Answer :=
  ((s.onFaults fun q => { q with list := [], overflow := 0 }).onEyes fun q => { q with repeats := [] }).answer 9
    resDone

/-- CLEAR_EYES (R34). -/
def State.doClearEyes (s : State) : Answer := (s.onEyes EyeFilter.clearEyes).answer 10 resDone

/-- A COMMAND's code and operand (R186). -/
def State.doCommand (s : State) (code : Byte) (operand : List Byte) : Answer :=
  if code = 6 then
    if operand.length = 2 then s.doPurge (halfAt operand 0) else s.refuse resBadRequest
  else if operand ≠ [] then s.refuse resBadRequest
  else
    match code.toNat with
    | 1 => s.doRun
    | 2 => s.doStop
    | 3 => s.doRestartFull
    | 4 => s.doRestartTracking
    | 5 => s.doRecover
    | 7 => s.doPurgeAll
    | 8 => s.doCloseBatch
    | 9 => s.doClearFaults
    | 10 => s.doClearEyes
    | _ => s.refuse resBadRequest

/-- A request is performed (R180): its code and its operands. -/
def State.perform (s : State) (code : Byte) (ops : List Byte) : Answer :=
  match code.toNat, ops with
  | 1, [table, index] => s.doSeek table index
  | 2, fields => s.doPut fields
  | 3, [part] => s.doGet part
  | 4, command :: operand => s.doCommand command operand
  | _, _ => s.refuse resBadRequest

/-- A REQUEST body reaches the Management Unit: a place is reserved, the request is performed, and its
REPLY is queued (R175, R180). -/
def State.takeRequest (s : State) (src : Byte) (body : List Byte) : State :=
  match body with
  | [] => s
  | code :: ops => ((s.onPort fun p => { p with reserved := true }).perform code ops).reply src code

end Sys2Proof.Machine
end

