-- ==== Sys2Proof/Machine/Port.lean ====
section
/-! DEFINITION. The Ring Port (spec/09 R168 to R177): sorting a received frame, own-frame returns, forwarding, insertion, the offering of routine places, and the ring break. -/

namespace Sys2Proof.Machine

open Sys2Proof

/-! ### Forwarding (R171, R172) -/

/-- The frame as it enters the transit buffer: with the monitor mark and a fresh check (R166, R171). -/
def Frame.forwarded (f : Frame) : Frame := Frame.sealed { f with marks := setMark f.marks markMonitor }

/-- A frame enters the transit buffer (R171, R172). -/
def State.forward (s : State) (f : Frame) : State :=
  s.onPort fun p => { p with transit := p.transit ++ [f.forwarded] }

/-- A frame with one more mark (R170). -/
def Frame.withMark (f : Frame) (m : Byte) : Frame := { f with marks := setMark f.marks m }

/-! ### Frames that do not leave (R168, R172) -/

/-- A damaged frame (R168). -/
def State.damagedFrame (s : State) : State :=
  (s.onPort fun p => { p with damaged := p.damaged + 1 }).logRepeating .frameDamaged
    { code := .frameDamaged, severity := .noted, piece := none, site := .ring,
      position := some s.travel.position }

/-- A frame stripped for its monitor mark (R168). -/
def State.monitorStrip (s : State) : State := s.onPort fun p => { p with monitorStripped := p.monitorStripped + 1 }

/-- A frame dropped because the transit buffer is full (R172). -/
def State.transitOverrun (s : State) (src : Byte) : State :=
  (s.onPort fun p => { p with overruns := p.overruns + 1 }).recordFault
    { code := .transitOverrun, severity := .noted, piece := none, site := .node src, position := none }

/-! ### Own-frame returns (R169) -/

/-- An entry equals a returning frame in destination, kind and body (R169). -/
def OwnEntry.matchesFrame (e : OwnEntry) (f : Frame) : Bool :=
  e.dest == f.dest && e.kind == f.kind && e.body == f.body

/-- Remove the first entry that meets a test. -/
def removeFirst (f : OwnEntry → Bool) : List OwnEntry → List OwnEntry
  | [] => []
  | e :: rest => if f e then rest else e :: removeFirst f rest

/-- A TICKET's return is reported with the channel, slot and piece of its body (R142, R169). -/
def State.ticketHome (s : State) (f : Frame) : State :=
  match Lane.ofNumber (byteAt f.body 0).toNat, slotOf (byteAt f.body 1) with
  | some c, some n => s.ticketReturned f.marks c n (halfAt f.body 2)
  | _, _ => s

/-- The return is reported to the block that queued the frame (R169): a GRANT to the Feed Sequencer, a
TICKET to the Folder Hand-off; the others have no effect. -/
def State.reportReturn (s : State) (f : Frame) : State :=
  if f.kind = 6 then s.grantReturned f.marks (halfAt f.body 2)
  else if f.kind = 8 then s.ticketHome f
  else s

/-- No entry is found: ADDRESS_CLASH (R169). -/
def State.addressClash (s : State) (dest : Byte) : State :=
  s.recordFault { code := .addressClash, severity := .noted, piece := none, site := .node dest, position := none }

/-- A frame of the own source address comes home (R169). -/
def State.ownReturn (s : State) (f : Frame) : State :=
  if s.port.ownList.any fun e => e.matchesFrame f then
    (s.onPort fun p => { p with ownList := removeFirst (fun e => e.matchesFrame f) p.ownList }).reportReturn f
  else s.addressClash f.dest

/-! ### Frames to be forwarded (R168, R170) -/

/-- A frame that no block takes: counted, no mark (R170). -/
def State.unhandledFrame (s : State) (f : Frame) : State :=
  (s.onPort fun p => { p with unhandled := p.unhandled + 1 }).forward f

/-- A REQUEST addressed to the part: performed and marked taken, or marked busy (R170, R175). -/
def State.takeRequestFrame (s : State) (f : Frame) : State :=
  if s.freePlaces = 0 then s.forward (f.withMark markBusy)
  else (s.takeRequest f.src f.body).forward (f.withMark markTaken)

/-- A frame of known kind addressed to the part, by its kind (R170). -/
def State.addressed (s : State) (f : Frame) : State :=
  match f.kind.toNat with
  | 2 =>
    (s.takeTravel f.src (halfAt f.body 0) (stampAt f.body 2) (byteAt f.body 5)).forward (f.withMark markTaken)
  | 4 =>
    (s.takeReady (byteAt f.body 0) (byteAt f.body 1) (byteAt f.body 2) (halfAt f.body 3)).forward
      (f.withMark markTaken)
  | 5 => (s.takeWithdraw (byteAt f.body 0)).forward (f.withMark markTaken)
  | 9 =>
    (s.slotFreed (byteAt f.body 0) (byteAt f.body 1) (halfAt f.body 2) (byteAt f.body 4)).forward
      (f.withMark markTaken)
  | 13 => s.takeRequestFrame f
  | _ => s.unhandledFrame f

/-- An annotated EDGE frame: the tag written, the annotated mark set, and the suspect mark while the
line is SUSPECT (R30). -/
def Frame.annotated (f : Frame) (tag : Half) (suspect : Bool) : Frame :=
  { f with body := f.body.take 5 ++ bytes16 tag,
           marks := setMark (setMark f.marks markAnnotated) (if suspect then markSuspect else 0) }

/-- The frame leaves as the Eye Filter answered (R24, R30, R168). -/
def State.afterEdge (s : State) (f : Frame) (fate : EdgeFate) : State :=
  match fate with
  | .stripped => s
  | .forwarded none => s.forward f
  | .forwarded (some tag) => s.forward (f.annotated tag (s.line.state == .suspect))

/-- A broadcast EDGE frame is handed to the Eye Filter and forwarded or stripped (R24, R168). -/
def State.takeEdgeFrame (s : State) (f : Frame) : State :=
  let u := s.classifyEdge f.src (byteAt f.body 0) (byteAt f.body 1) (stampAt f.body 2)
  u.1.afterEdge f u.2

/-- An intact frame that is to be forwarded, with room in the transit buffer: the last three rows of R168. -/
def State.passing (s : State) (f : Frame) : State :=
  if f.dest = s.port.own then
    if knownKind f.kind f.body.length then s.addressed f else s.unhandledFrame f
  else if f.dest = 31 ∧ f.kind = 3 ∧ knownKind f.kind f.body.length = true then s.takeEdgeFrame f
  else s.forward f

/-- A reception is complete: the first row of R168 that applies. -/
def State.sortFrame (s : State) (f : Frame) : State :=
  if f.intact = false then s.damagedFrame
  else if f.src = s.port.own then s.ownReturn f
  else if isMonitored f.marks then s.monitorStrip
  else if Config.transitCapacity ≤ s.port.transit.length then s.transitOverrun f.src
  else s.passing f

/-- A reception ends and the receive buffer is empty again (R166, R168; log 8). -/
def State.receive (s : State) (f : Frame) : State :=
  (s.onPort fun p => { p with receiving := [] }).sortFrame f

/-- A reception ends with these bytes: the frame they make, or a damaged one (R166, R168). -/
def State.receiveBytes (s : State) (bytes : List Byte) : State :=
  match parseFrame bytes with
  | some f => s.receive f
  | none => (s.onPort fun p => { p with receiving := [] }).damagedFrame

/-! ### Ring Out (R172, R173) -/

/-- An idle Ring Out begins to send the oldest transit frame (R172). -/
def State.transitOut (s : State) : State :=
  match s.port.out, s.port.transit with
  | .idle, f :: rest => s.onPort fun p => { p with transit := rest, out := .sending f }
  | _, _ => s

/-- Ring Out has sent its frame and idled two byte times (R172). -/
def State.ringOutDone (s : State) : State := s.onPort fun p => { p with out := .idle }

/-- The freed place of the routine queue goes to the first block that waits: Line Control, Fault Monitor,
Batch Counter (R175). -/
def State.offerPlace (s : State) : State :=
  if s.line.owed then s.queueLineState
  else if s.faults.holdoff = .owed then s.queueAlert
  else if s.batch.sendOrder.isEmpty then s
  else s.sendTallies

/-- A queued frame is built, goes to Ring Out, and takes an own-frame list entry (R173). -/
def State.insertFrame (s : State) (q : Queued) : State :=
  s.onPort fun p => { p with out := .sending (q.frame p.own), ownList := p.ownList ++ [q.entry] }

/-- An insertion: the oldest urgent frame, else the oldest routine frame, whose place is then offered (R173). -/
def State.insertNext (s : State) : State :=
  match s.port.urgent with
  | q :: rest => (s.onPort fun p => { p with urgent := rest }).insertFrame q
  | [] =>
    match s.port.routine with
    | q :: rest => ((s.onPort fun p => { p with routine := rest }).insertFrame q).offerPlace
    | [] => s

/-- An insertion may begin (R173). -/
def State.mayInsert (s : State) : Bool :=
  s.port.out == .idle && s.port.transit.isEmpty && decide (s.port.ownList.length < Config.ownCapacity)

/-- FRAME_INSERT (R173). -/
def State.tryInsert (s : State) : State := if s.mayInsert then s.insertNext else s

/-- An OWED hold-off queues its ALERT when there is space (R160, R175). -/
def State.offerAlertSpace (s : State) : State := if s.faults.holdoff = .owed then s.queueAlert else s

/-! ### The ring break (R177) -/

/-- The piece number that a timed-out GRANT's or TICKET's body names (R177). -/
def OwnEntry.piece (e : OwnEntry) : Option Half :=
  if e.kind = 6 ∨ e.kind = 8 then some (halfAt e.body 2) else none

/-- The oldest entry whose age has reached 500 is removed, and RING_BREAK is recorded (R177). -/
def State.ringBroken (s : State) : State :=
  match s.port.ownList.find? fun e => decide (Config.ringBreakAge ≤ e.age) with
  | none => s
  | some e =>
    (s.onPort fun p =>
        { p with ownList := removeFirst (fun x => decide (Config.ringBreakAge ≤ x.age)) p.ownList }).recordFault
      { code := .ringBreak, severity := .line, piece := e.piece, site := .node e.dest,
        position := some s.travel.position }

end Sys2Proof.Machine
end

