-- ==== Sys2Proof/Machine/ClockCommands.lean ====
section
/-! DEFINITION. The commands of the clock and of the FHOLD pin (spec/01 R1, R2, R14 to R16; spec/05 R109; spec/06 R125, R126; spec/08 R161; spec/09 R177). -/

namespace Sys2Proof.Machine

open Sys2Proof

/-- RING_TICK (R1, R2, R15, R109, R177). -/
def execRingTick (fhold : Bool) (s : State) : Host.Outcome State Fault Refusal :=
  s.live fun u => u.ringTicked fhold

/-- SYNC_PERIOD_END (R2). -/
def execSyncPeriodEnd (s : State) : Host.Outcome State Fault Refusal :=
  s.live State.takePeriodEnd

/-- HISTORY_AGE_OUT (R14). -/
def execHistoryAgeOut (s : State) : Host.Outcome State Fault Refusal :=
  s.live fun u => u.onTravel TravelUnit.dropAged

/-- TRAVEL_LOSS (R16). -/
def execTravelLoss (s : State) : Host.Outcome State Fault Refusal :=
  s.live State.takeLoss

/-- IDLE_TIMEOUT (R126). -/
def execIdleTimeout (s : State) : Host.Outcome State Fault Refusal :=
  s.live State.takeIdle

/-- HOLDOFF_END (R161). -/
def execHoldoffEnd (s : State) : Host.Outcome State Fault Refusal :=
  s.live State.takeHoldoff

/-- RING_BREAK (R177). -/
def execRingBreak (s : State) : Host.Outcome State Fault Refusal :=
  s.live State.ringBroken

/-- FHOLD_ASSERT (R109). -/
def execFholdAssert (s : State) : Host.Outcome State Fault Refusal :=
  s.live State.takeAssert

/-- FHOLD_RELEASE (R109). -/
def execFholdRelease (s : State) : Host.Outcome State Fault Refusal :=
  s.live State.takeRelease

end Sys2Proof.Machine
end

