-- ==== Sys2Proof/Machine/FrameCommands.lean ====
section
/-! DEFINITION. The commands of Ring In, Ring Out and the waiting blocks (spec/09 R168 to R175; spec/08 R149, R160; spec/06 R131). -/

namespace Sys2Proof.Machine

open Sys2Proof

/-- FRAME_RECEIVE (R168). -/
def execFrameReceive (bytes : List Byte) (s : State) : Host.Outcome State Fault Refusal :=
  s.live fun u => u.receiveBytes bytes

/-- TRAVEL (R8 to R13, R168, R170). -/
def execTravel (e : Envelope) (delta : Half) (stamp : Stamp) (run : Byte) (s : State) : Host.Outcome State Fault Refusal :=
  s.live fun u => u.receive (travelFrame e delta stamp run)

/-- EDGE (R24 to R32, R168). -/
def execEdge (e : Envelope) (channel edge : Byte) (stamp : Stamp) (tag : Half) (s : State) : Host.Outcome State Fault Refusal :=
  s.live fun u => u.receive (edgeFrame e channel edge stamp tag)

/-- READY (R96, R97, R168, R170). -/
def execReady (e : Envelope) (lane span article : Byte) (batch : Half) (s : State) : Host.Outcome State Fault Refusal :=
  s.live fun u => u.receive (readyFrame e lane span article batch)

/-- WITHDRAW (R98, R168, R170). -/
def execWithdraw (e : Envelope) (lane : Byte) (s : State) : Host.Outcome State Fault Refusal :=
  s.live fun u => u.receive (withdrawFrame e lane)

/-- SLOT_FREE (R144, R145, R168, R170). -/
def execSlotFree (e : Envelope) (channel slot : Byte) (piece : Half) (outcome : Byte) (s : State) : Host.Outcome State Fault Refusal :=
  s.live fun u => u.receive (slotFreeFrame e channel slot piece outcome)

/-- GRANT_RETURN (R111 to R114, R168, R169). -/
def execGrantReturn (e : Envelope) (lane span : Byte) (piece : Half) (s : State) : Host.Outcome State Fault Refusal :=
  s.live fun u => u.receive (grantFrame e lane span piece)

/-- TICKET_RETURN (R142, R168, R169). -/
def execTicketReturn (e : Envelope) (t : TicketFields) (s : State) : Host.Outcome State Fault Refusal :=
  s.live fun u => u.receive (ticketFrame e t)

/-- OWN_FRAME_RETURN (R168, R169). -/
def execOwnFrameReturn (e : Envelope) (kind : Byte) (body : List Byte) (s : State) : Host.Outcome State Fault Refusal :=
  s.live fun u => u.receive (envFrame e kind body)

/-- TRANSIT_FORWARD (R172). -/
def execTransitForward (s : State) : Host.Outcome State Fault Refusal :=
  s.live State.transitOut

/-- FRAME_INSERT (R173, R175). -/
def execFrameInsert (s : State) : Host.Outcome State Fault Refusal :=
  s.live State.tryInsert

/-- RING_OUT_COMPLETE (R172). -/
def execRingOutComplete (s : State) : Host.Outcome State Fault Refusal :=
  s.live State.ringOutDone

/-- LINE_STATE_QUEUE (R149, R175). -/
def execLineStateQueue (s : State) : Host.Outcome State Fault Refusal :=
  s.live State.queueLineState

/-- ALERT_QUEUE (R160, R175). -/
def execAlertQueue (s : State) : Host.Outcome State Fault Refusal :=
  s.live State.offerAlertSpace

/-- TALLY_QUEUE (R131, R175). -/
def execTallyQueue (s : State) : Host.Outcome State Fault Refusal :=
  s.live State.sendTallies

end Sys2Proof.Machine
end

