-- ==== Sys2Proof/Machine/PinCommands.lean ====
section
/-! DEFINITION. The commands of the supply and of the RESET pin (spec/08 R162, R164; spec/09 R178). -/

namespace Sys2Proof.Machine

open Sys2Proof

/-- The power-on state with no report, which the part keeps while RESET is held (R162; log 7). -/
def State.heldBlank (s : State) (pins : Pins) (own : Byte) : State := State.blank pins own s.freeIndex s.pending

/-- POWER_ON (R162, R164, R178); with RESET held, the reports wait for its release (log 7). -/
def execPowerOn (straps : BitVec 5) (s : State) : Host.Outcome State Fault Refusal :=
  .next (if s.pins.resetHeld then s.heldBlank { s.pins with straps := straps } (ownAddress straps)
    else s.powerUp straps)

/-- RESET_ASSERT (R162): the power-on state, held. -/
def execResetAssert (s : State) : Host.Outcome State Fault Refusal :=
  .next (s.heldBlank { s.pins with resetHeld := true } s.port.own)

/-- RESET_RELEASE (R162, R164, R178): the power-on state again, with the straps read and its reports made. -/
def execResetRelease (straps : BitVec 5) (s : State) : Host.Outcome State Fault Refusal :=
  .next (if s.pins.resetHeld then (s.onPins fun p => { p with resetHeld := false }).powerUp straps else s)

end Sys2Proof.Machine
end

