-- ==== Sys2Proof/Machine/RequestCommands.lean ====
section
/-! DEFINITION. The requests of the line supervisor (spec/10 R180 to R186), each received as a REQUEST frame by spec/09 R168 and R170. -/

namespace Sys2Proof.Machine

open Sys2Proof

/-- SEEK (R181). -/
def execSeek (e : Envelope) (table index : Byte) (s : State) : Host.Outcome State Fault Refusal :=
  s.live fun u => u.receive (requestFrame e [1, table, index])

/-- PUT (R183). -/
def execPut (e : Envelope) (fields : List Byte) (s : State) : Host.Outcome State Fault Refusal :=
  s.live fun u => u.receive (requestFrame e (2 :: fields))

/-- GET (R182). -/
def execGet (e : Envelope) (part : Byte) (s : State) : Host.Outcome State Fault Refusal :=
  s.live fun u => u.receive (requestFrame e [3, part])

/-- MODE RUN (R150, R151). -/
def execModeRun (e : Envelope) (s : State) : Host.Outcome State Fault Refusal :=
  s.live fun u => u.receive (commandFrame e 1 [])

/-- MODE STOP (R152, R153). -/
def execModeStop (e : Envelope) (s : State) : Host.Outcome State Fault Refusal :=
  s.live fun u => u.receive (commandFrame e 2 [])

/-- RESTART FULL (R162, R164), with the straps at these levels when the REQUEST completes (R178; log 6). -/
def execRestartFull (e : StrappedEnvelope) (s : State) : Host.Outcome State Fault Refusal :=
  s.live fun u => (u.onPins fun p => { p with straps := e.straps }).receive (commandFrame e.frame 3 [])

/-- RESTART TRACKING (R163, R164). -/
def execRestartTracking (e : Envelope) (s : State) : Host.Outcome State Fault Refusal :=
  s.live fun u => u.receive (commandFrame e 4 [])

/-- RECOVER (R156). -/
def execRecover (e : Envelope) (s : State) : Host.Outcome State Fault Refusal :=
  s.live fun u => u.receive (commandFrame e 5 [])

/-- PURGE of one piece (R59). -/
def execPurge (e : Envelope) (piece : Half) (s : State) : Host.Outcome State Fault Refusal :=
  s.live fun u => u.receive (commandFrame e 6 (bytes16 piece))

/-- PURGE ALL (R60). -/
def execPurgeAll (e : Envelope) (s : State) : Host.Outcome State Fault Refusal :=
  s.live fun u => u.receive (commandFrame e 7 [])

/-- CLOSE_BATCH (R127). -/
def execCloseBatch (e : Envelope) (s : State) : Host.Outcome State Fault Refusal :=
  s.live fun u => u.receive (commandFrame e 8 [])

/-- CLEAR_FAULTS (R36, R158). -/
def execClearFaults (e : Envelope) (s : State) : Host.Outcome State Fault Refusal :=
  s.live fun u => u.receive (commandFrame e 9 [])

/-- CLEAR_EYES (R34). -/
def execClearEyes (e : Envelope) (s : State) : Host.Outcome State Fault Refusal :=
  s.live fun u => u.receive (commandFrame e 10 [])

/-- BAD_REQUEST (R180). -/
def execBadRequest (e : Envelope) (body : List Byte) (s : State) : Host.Outcome State Fault Refusal :=
  s.live fun u => u.receive (requestFrame e body)

end Sys2Proof.Machine
end

