-- ==== Sys2Proof/Machine/Dispatch.lean ====
section
/-! DEFINITION. The dispatch: one arm for each command of the table. -/

namespace Sys2Proof.Machine

open Sys2Proof

def exec (i : Instr) (s : State) : Host.Outcome State Fault Refusal :=
  match i with
  | .powerOn straps => Sys2Proof.Machine.execPowerOn straps s
  | .resetAssert => Sys2Proof.Machine.execResetAssert s
  | .resetRelease straps => Sys2Proof.Machine.execResetRelease straps s
  | .ringTick fhold => Sys2Proof.Machine.execRingTick fhold s
  | .syncPeriodEnd => Sys2Proof.Machine.execSyncPeriodEnd s
  | .historyAgeOut => Sys2Proof.Machine.execHistoryAgeOut s
  | .travelLoss => Sys2Proof.Machine.execTravelLoss s
  | .idleTimeout => Sys2Proof.Machine.execIdleTimeout s
  | .holdoffEnd => Sys2Proof.Machine.execHoldoffEnd s
  | .ringBreak => Sys2Proof.Machine.execRingBreak s
  | .fholdAssert => Sys2Proof.Machine.execFholdAssert s
  | .fholdRelease => Sys2Proof.Machine.execFholdRelease s
  | .frameReceive bytes => Sys2Proof.Machine.execFrameReceive bytes s
  | .travel e delta stamp run => Sys2Proof.Machine.execTravel e delta stamp run s
  | .edge e channel edge stamp tag => Sys2Proof.Machine.execEdge e channel edge stamp tag s
  | .ready e lane span article batch => Sys2Proof.Machine.execReady e lane span article batch s
  | .withdraw e lane => Sys2Proof.Machine.execWithdraw e lane s
  | .slotFree e channel slot piece outcome => Sys2Proof.Machine.execSlotFree e channel slot piece outcome s
  | .grantReturn e lane span piece => Sys2Proof.Machine.execGrantReturn e lane span piece s
  | .ticketReturn e t => Sys2Proof.Machine.execTicketReturn e t s
  | .ownFrameReturn e kind body => Sys2Proof.Machine.execOwnFrameReturn e kind body s
  | .transitForward => Sys2Proof.Machine.execTransitForward s
  | .frameInsert => Sys2Proof.Machine.execFrameInsert s
  | .ringOutComplete => Sys2Proof.Machine.execRingOutComplete s
  | .lineStateQueue => Sys2Proof.Machine.execLineStateQueue s
  | .alertQueue => Sys2Proof.Machine.execAlertQueue s
  | .tallyQueue => Sys2Proof.Machine.execTallyQueue s
  | .seek e table index => Sys2Proof.Machine.execSeek e table index s
  | .get e part => Sys2Proof.Machine.execGet e part s
  | .put e fields => Sys2Proof.Machine.execPut e fields s
  | .modeRun e => Sys2Proof.Machine.execModeRun e s
  | .modeStop e => Sys2Proof.Machine.execModeStop e s
  | .restartFull e => Sys2Proof.Machine.execRestartFull e s
  | .restartTracking e => Sys2Proof.Machine.execRestartTracking e s
  | .recover e => Sys2Proof.Machine.execRecover e s
  | .purge e piece => Sys2Proof.Machine.execPurge e piece s
  | .purgeAll e => Sys2Proof.Machine.execPurgeAll e s
  | .closeBatch e => Sys2Proof.Machine.execCloseBatch e s
  | .clearFaults e => Sys2Proof.Machine.execClearFaults e s
  | .clearEyes e => Sys2Proof.Machine.execClearEyes e s
  | .badRequest e body => Sys2Proof.Machine.execBadRequest e body s

end Sys2Proof.Machine
end

