-- ==== Sys2Proof/Safety.lean ====
section
/-! DEFINITION. What counts as a sound state of the LT316: the invariants that the manual states of the part between two commands, as tests that run. -/

namespace Sys2Proof.Machine

open Sys2Proof

/-- TFAULT is asserted exactly in SUSPECT, and a suspect cause stands exactly in SUSPECT (R149, R154). -/
def State.lineSound (s : State) : Bool :=
  s.line.tfault == (s.line.state == .suspect) && s.line.cause.isSome == (s.line.state == .suspect)

/-- The fault list holds at most 16 records, the overflow count at most 255 (R158). -/
def State.faultsSound (s : State) : Bool :=
  decide (s.faults.list.length ≤ Config.faultCapacity) && decide (s.faults.overflow ≤ 255)

/-- The transit buffer, the own-frame list and the routine queue keep within their places, the receive
buffer is empty, and no place is reserved between two commands (R172, R173, R175, R177). -/
def State.portSound (s : State) : Bool :=
  decide (s.port.transit.length ≤ Config.transitCapacity) &&
    decide (s.port.ownList.length ≤ Config.ownCapacity) &&
    decide (s.port.routine.length ≤ Config.routineCapacity) && !s.port.reserved && s.port.receiving.isEmpty

/-- At most 128 records, no two with one piece number (R38). -/
def State.recordsSound (s : State) : Bool :=
  decide (s.pieces.records.length ≤ Config.pieceCapacity) &&
    decide ((s.pieces.records.map fun r => r.number).Nodup)

/-- The piece-number counter is 1..65535, and so is every piece number (R39, R43). -/
def State.numbersSound (s : State) : Bool :=
  s.pieces.counter != 0 && s.pieces.records.all fun r => r.number != 0

/-- The travel history holds at most 16 samples, the remainder is below 1024, the SYNC period count
below 100 (R2, R4, R12). -/
def State.travelSound (s : State) : Bool :=
  decide (s.travel.history.length ≤ Config.historyCapacity) && decide (s.travel.remainder < 1024) &&
    decide (s.travel.syncCount < Config.syncPeriod)

/-- The repeat-fault table holds at most 8 keys, none twice (R35). -/
def State.repeatsSound (s : State) : Bool :=
  decide (s.eyes.repeats.length ≤ Config.repeatCapacity) && decide s.eyes.repeats.Nodup

/-- The request order lists lanes in READY, each at most once, and every lane in READY (R95). -/
def State.orderSound (s : State) : Bool :=
  decide s.feed.order.Nodup &&
    allLanes.all fun l => s.feed.order.contains l == ((s.lane l).run == .ready)

/-- A lane holds a request exactly in READY (R94). -/
def State.requestsSound (s : State) : Bool :=
  allLanes.all fun l => (s.lane l).request.isSome == ((s.lane l).run == .ready)

/-- The feed-permitted condition is the one that R110 gives. -/
def State.conditionSound (s : State) : Bool := s.feed.condition == s.feedCondition

/-- While the line is SUSPECT every record has doubt (R154, R155). -/
def State.doubtSound (s : State) : Bool :=
  s.line.state != .suspect || s.pieces.records.all fun r => r.doubt

/-- The own address lies in 1..30 (R178). -/
def State.addressSound (s : State) : Bool := decide (1 ≤ s.port.own.toNat) && decide (s.port.own.toNat ≤ 30)

/-- The batch list has 8 places, at most one entry is OPEN, and no two entries hold one number (R119, R135). -/
def State.batchesSound (s : State) : Bool :=
  decide (s.batch.places.length = 8) &&
    decide ((s.batch.places.countP fun e => (e.map fun b => b.state) == some .opened) ≤ 1) &&
    decide ((s.batch.places.filterMap fun e => e.map fun b => b.number).Nodup)

/-- The checkpoint kind of the window that a state gives its record; a record in AT_FOLDER holds none (R42, R65 to R67). -/
def PieceState.windowKind (p : PieceState) : Option Checkpoint :=
  match p with
  | .granted => some .laneExit
  | .onFeed => some .inlet
  | .inIroner => some .exit
  | .atFolder => none

/-- A record holds the window of its state, its lead lane is the lowest of its span, no anonymous record is in
GRANTED, and only a record in AT_FOLDER has a ticket (R39, R41, R42, R50, R65 to R67). -/
def Piece.sound (r : Piece) : Bool :=
  (r.window.map fun w => w.kind) == r.state.windowKind && spanLead r.span == some r.lane &&
    !(r.anonymous && r.state == .granted) && (r.ticket == .none || r.state == .atFolder)

/-- Every record is sound, and the span of every held request has its lane as its lowest (R39, R97). -/
def State.piecesSound (s : State) : Bool :=
  (s.pieces.records.all fun r => r.sound) &&
    allLanes.all fun l => ((s.lane l).request.map fun q => spanLead q.span == some l).getD true

/-- In CONFIG the table is empty (R117, R153). -/
def State.configSound (s : State) : Bool := s.line.state != .config || s.pieces.records.isEmpty

/-- A lane is GRANTED exactly when a non-anonymous record in GRANTED has it as lead lane, and the spans of the
records in GRANTED do not overlap (R94). -/
def State.grantedSound (s : State) : Bool :=
  (allLanes.all fun l =>
    ((s.lane l).run == .granted) ==
      s.pieces.records.any fun r => r.state == .granted && !r.anonymous && r.lane == l) &&
    decide ((s.pieces.records.filter fun r => r.state == .granted).Pairwise fun a b => a.span &&& b.span = 0)

/-- The occupancy is the number of non-anonymous records (R108). -/
def State.occupancySound (s : State) : Bool :=
  decide (s.feed.occupancy = s.pieces.records.countP fun r => !r.anonymous)

/-- An OWNED slot names a record in AT_FOLDER with ticket SENT or DELIVERED to that slot (R136). -/
def State.slotsSound (s : State) : Bool :=
  allLanes.all fun c => [SlotName.x, .y].all fun n =>
    match (s.channel c).owner n with
    | none => true
    | some o =>
      s.pieces.records.any fun r =>
        r.number == o && r.state == .atFolder && (r.ticket == .sent || r.ticket == .delivered) &&
          r.ticketSlot == some (c, n)

/-- What the records, the lanes and the folder slots say of each other, together (R38, R94, R108, R136, R153). -/
def State.trackingSound (s : State) : Bool :=
  s.recordsSound && s.piecesSound && s.configSound && s.grantedSound && s.occupancySound && s.slotsSound

/-- The slot that a queued TICKET names. -/
def Queued.ticketPlace (q : Queued) : Option (Lane × SlotName) :=
  match q.msg with
  | .ticket t => some (t.channel, t.slot)
  | _ => none

/-- A frame of the urgent queue: a SYNC, a FEED_STATE, a GRANT of a span of one lane or more, or a TICKET for
a slot that its piece owns (R138, R145, R173). -/
def State.urgentFrameSound (s : State) (q : Queued) : Bool :=
  match q.msg with
  | .sync _ => true
  | .feedState _ => true
  | .grant _ sp _ => sp != 0
  | .ticket t => (s.channel t.channel).owner t.slot == some t.piece
  | .lineState _ _ => false
  | .alert _ => false
  | .tally _ => false
  | .reply _ _ _ => false

/-- The urgent queue holds at most one SYNC, one FEED_STATE, GRANT frames of disjoint spans and one TICKET for
a slot (R100, R138, R173, R174). -/
def State.urgentSound (s : State) : Bool :=
  decide (s.port.urgent.countP Queued.isSync ≤ 1) && decide (s.port.urgent.countP Queued.isFeedState ≤ 1) &&
    decide (s.port.urgent.Pairwise fun a b => a.grantSpan &&& b.grantSpan = 0) &&
    decide (s.port.urgent.Pairwise fun a b => a.ticketPlace = none ∨ a.ticketPlace ≠ b.ticketPlace) &&
    s.port.urgent.all s.urgentFrameSound

/-- No TICKET still out on the ring names a piece whose TICKET waits: an earlier piece of the same number,
65535 pieces ago, is home (R43, R44). -/
def State.ticketsApart (s : State) : Bool :=
  s.port.ownList.all fun e =>
    e.kind != 8 || s.port.urgent.all fun q => q.ticketPiece != some (halfAt e.body 2)

/-- In RUN a removal from this batch sets nothing else going: there is a current batch, the hold flag is clear,
and the batch's entry does not go on to SENDING (R99, R108, R123, R130). -/
def State.removesQuietly (s : State) (batch : Half) : Bool :=
  s.currentPlace.isSome && !s.feed.hold &&
    match (s.placeOf batch).bind s.batchAt with
    | none => true
    | some b => !(b.state == .closing && b.live - 1 == 0)

/-- The moves of the line state that one command can make: into RUN from CONFIG alone, into DRAINING from
RUN alone, and out of SUSPECT into CONFIG alone (section 8, transition table). -/
def lineMove (a b : LineState) : Bool :=
  match a, b with
  | .config, .draining => false
  | .draining, .run => false
  | .suspect, .run => false
  | .suspect, .draining => false
  | _, _ => true

/-! ### Which frames a command brings -/

/-- RESET is not held, and the frame passes the first four rows of R168: intact, of another node, without
the monitor mark, with room in the transit buffer. -/
def State.admits (s : State) (f : Frame) : Bool :=
  !s.pins.resetHeld && f.intact && f.src != s.port.own && !isMonitored f.marks &&
    decide (s.port.transit.length < Config.transitCapacity)

/-- The frame is admitted and addressed to the part (R170). -/
def State.admitsOwn (s : State) (f : Frame) : Bool := s.admits f && f.dest == s.port.own

/-- The frame is admitted, addressed to the part, and a place of the routine queue is free for its REPLY (R170, R175). -/
def State.admitsRequest (s : State) (f : Frame) : Bool :=
  s.admitsOwn f && !s.port.reserved && decide (s.port.routine.length < Config.routineCapacity)

/-- RESET is not held, and the frame is one of the part's own that the own-frame list holds (R169). -/
def State.comesHome (s : State) (f : Frame) : Bool :=
  !s.pins.resetHeld && f.intact && f.src == s.port.own && s.port.ownList.any fun e => e.matchesFrame f

/-- The state with the receive buffer empty. -/
def State.received (s : State) : State := { s with port := { s.port with receiving := [] } }

/-- The state with the receive buffer empty and the frame's first equal own-frame list entry removed (R169). -/
def State.home (s : State) (f : Frame) : State :=
  { s with port := { s.port with receiving := [], ownList := removeFirst (fun e => e.matchesFrame f) s.port.ownList } }

/-- The state with a frame at the back of the transit buffer, with the monitor mark and a fresh check (R171, R172). -/
def State.passOn (s : State) (f : Frame) : State :=
  { s with port := { s.port with transit := s.port.transit ++ [f.forwarded] } }

/-- The state in which the REPLY of a request stands in the routine queue and the REQUEST, marked taken,
in the transit buffer (R170, R175, R180). -/
def State.answered (s : State) (f : Frame) (result : Byte) (data : List Byte) : State :=
  { s with
    port := { s.port with
      reserved := false
      routine := s.port.routine ++
        [{ dest := f.src, msg := .reply (byteAt f.body 0) result data, suspect := false }]
      transit := s.port.transit ++ [(f.withMark markTaken).forwarded] } }

/-- The last frame of the routine queue is the REPLY to a request frame (R180). -/
def State.repliedLast (s : State) (f : Frame) (result : Byte) (data : List Byte) : Bool :=
  s.port.routine.getLast? ==
    some { dest := f.src, msg := .reply (byteAt f.body 0) result data, suspect := false }

/-! ### What a command leaves alone -/

/-- The pins, the tables, the free-value counter, the waiting commands and the own address are unchanged. -/
def State.sameOuter (s t : State) : Prop :=
  t.pins = s.pins ∧ t.mgmt = s.mgmt ∧ t.freeIndex = s.freeIndex ∧ t.pending = s.pending ∧
    t.port.own = s.port.own

/-- The Travel Unit, the eyes, the matcher's own state and the folder slots are unchanged. -/
def State.sameTracking (s t : State) : Prop :=
  t.travel = s.travel ∧ t.eyes = s.eyes ∧ t.matcher = s.matcher ∧ t.folder = s.folder

/-- The fault list and the overflow count after a raised fault was recorded in state s (R157, R158). -/
def State.recorded (s t : State) (f : Raised) : Prop :=
  t.faults.list = (s.faults.insert (s.faultRecord f)).list ∧
    t.faults.overflow = (s.faults.insert (s.faultRecord f)).overflow

/-- The fault list and the overflow count after two raised faults were recorded one after the other (R157, R158). -/
def State.recordedTwo (s t : State) (f g : Raised) : Prop :=
  t.faults.list = ((s.faults.insert (s.faultRecord f)).insert (s.faultRecord g)).list ∧
    t.faults.overflow = ((s.faults.insert (s.faultRecord f)).insert (s.faultRecord g)).overflow

/-! ### What several commands do alike -/

/-- From s to t a record of number n and this order key is created: n is the first number from the counter on
that no record holds, 65535 followed by 1, and the counter is the number after it (R43); the record stands behind
those whose key is at or before its own and, in a table in ascending order of key, before every other (R45: an
order, by R5, where the keys lie within half of the position space from some base). -/
def State.creates (s t : State) (n : Half) (key : Pos) : Prop :=
  (∃ k : Nat, n = nextNumber^[k] s.pieces.counter ∧
    ∀ j : Nat, j < k → ∃ q ∈ s.pieces.records, q.number = nextNumber^[j] s.pieces.counter) ∧
  (∀ q ∈ s.pieces.records, q.number ≠ n) ∧ t.pieces.counter = (if n = 65535 then 1 else n + 1) ∧
  ∃ pre post : List Piece, s.pieces.records = pre ++ post ∧
    t.pieces.records.map (fun r => r.number) = pre.map (fun r => r.number) ++ n :: post.map (fun r => r.number) ∧
    (∀ q ∈ pre, (q.orderKey - key).toInt ≤ 0) ∧ (∀ q ∈ post.head?, 0 < (q.orderKey - key).toInt) ∧
    ∀ base : Pos, 0 ≤ (key - base).toInt → (∀ q ∈ s.pieces.records, 0 ≤ (q.orderKey - base).toInt) →
      s.pieces.records.Pairwise (fun a b => 0 ≤ (b.orderKey - a.orderKey).toInt) →
      ∀ q ∈ post, 0 < (q.orderKey - key).toInt

/-- The state at an entry to CONFIG before the closure of R128: the line state, the LINE_STATE report, queued or
owed, the condition HOLD LINE with its FEED_STATE when that is a change, no lane READY, an empty request order and
no batch block (R110, R117, R149, R153, R174). -/
def State.inConfig (s : State) : State :=
  { s with
    line := { state := .config, cause := none, tfault := false, owed := decide (s.freePlaces = 0) }
    feed := { s.feed with
      condition := .hold .line
      lanes := s.feed.lanes.map fun e => if e.run = .ready then { e with run := .idle, request := none } else e
      order := [] }
    batch := { s.batch with block := none }
    port := { s.port with
      routine := s.port.routine ++
        (if s.freePlaces = 0 then [] else [{ dest := 31, msg := .lineState .config none, suspect := false }])
      urgent :=
        if s.feed.condition = .hold .line then s.port.urgent
        else if s.port.urgent.any Queued.isFeedState then
          s.port.urgent.map fun q => if q.isFeedState then { q with msg := .feedState (.hold .line) } else q
        else s.port.urgent ++ [{ dest := 31, msg := .feedState (.hold .line), suspect := false }] } }

/-- Between s and t the line has entered CONFIG: no lane is READY, the block is clear, and the batch that was current
in s is closed with this cause; its entry, while it stands, is closed, SENDING with no live piece, and the TALLY
frames queued for it carry the cause (R117, R128 to R131, R153). -/
def State.entersConfig (s t : State) (cause : ClosureCause) : Prop :=
  t.line.state = .config ∧ t.line.cause = none ∧ t.line.tfault = false ∧ t.feed.order = [] ∧
    (∀ l, (t.lane l).run ≠ .ready) ∧ t.feed.condition = .hold .line ∧ t.batch.block = none ∧
    (s.batchesSound = true → t.currentBatch = none ∧ ∃ new : List Queued, t.port.routine = s.port.routine ++ new ∧
      ∀ (i : Nat) (b : BatchEntry), s.currentPlace = some i → s.batchAt i = some b →
        t.batch.idle = .stopped ∧
        (∀ c : BatchEntry, t.batchAt i = some c → c.number = b.number ∧ c.state ≠ .opened ∧
          (c.live = 0 → c.state = .sending) ∧ c.cause = some cause) ∧
        ∀ q ∈ new, ∀ k : TallyReport, q.msg = .tally k → k.batch = b.number → k.cause = cause)

/-- Between s and t the entry at place i went on to SENDING as b: behind other entries, or with no place free, it
stands so at the back of the send order; otherwise its first TALLY follows what waited in s (R130, R131). -/
def State.sendsEntry (s t : State) (i : Nat) (b : BatchEntry) : Prop :=
  (s.batch.sendOrder ≠ [] ∨ s.freePlaces = 0 →
    t.batchAt i = some b ∧ t.batch.sendOrder = s.batch.sendOrder ++ [i]) ∧
  (s.batch.sendOrder = [] → s.freePlaces ≠ 0 →
    ∃ new : List Queued,
      t.port.routine = s.port.routine ++ { dest := 0, msg := .tally b.report, suspect := false } :: new)

/-- From s to t the slot of this channel, its owner gone, is FREE where no record of the channel is pending, and
otherwise serves the oldest at once: the slot is OWNED by it with the pointer at the other, its ticket is SENT and its
TICKET stands last of the urgent frames (R138, R139, R173). -/
def State.servesSlot (s t : State) (c : Lane) (n : SlotName) (gone : Half) : Prop :=
  ((∀ q ∈ s.pieces.records, q.lane = c → q.ticket ≠ .pending) → (t.channel c).owner n = none) ∧
  ∀ w : Piece, (s.pieces.records.filter fun q => q.lane == c && q.ticket == .pending).head? = some w →
    w.number ≠ gone → s.findPiece w.number = some w →
    (t.channel c).owner n = some w.number ∧ (t.channel c).next = n.other ∧
    (∃ q : Piece, t.findPiece w.number = some q ∧ q.ticket = .sent ∧ q.ticketSlot = some (c, n) ∧ q.deadline = none) ∧
    ∃ x : Queued, t.port.urgent.getLast? = some x ∧ x.ticketPiece = some w.number ∧ x.dest = s.mgmt.line.folder

/-- From s to t the GRANT of a record that was in GRANTED has left the urgent queue, the other frames keeping their
order (R57, R116, R176); one that then names its number is of a record granted since. -/
def State.grantWithdrawn (s t : State) (n : Half) : Prop :=
  (s.port.urgent.filter fun q => q.grantPiece != some n && !q.isFeedState).Sublist t.port.urgent ∧
  ∀ q ∈ t.port.urgent, q.grantPiece = some n → s.line.state = .run ∧
    ∃ r ∈ t.pieces.records, r.number = n ∧ r.state = .granted ∧ r.grantPos = some s.travel.position

/-- The state in which a lane has lost its request: it is IDLE and out of the request order, before the report of
the order (R95, R97, R98). -/
def State.withoutRequest (s : State) (l : Lane) : State :=
  { s with
    feed := { s.feed with
      lanes := s.feed.lanes.set l { s.lane l with run := .idle, request := none }
      order := s.feed.order.filter (· != l) } }

/-- The slot that an entry sends first: the lowest in use, or 0 for none (R130). -/
def BatchEntry.firstSlot (b : BatchEntry) (n : Nat) : Prop :=
  (b.used = [] ∧ n = 0) ∨ (n ∈ b.used ∧ ∀ j ∈ b.used, n ≤ j)

end Sys2Proof.Machine
end

