-- ==== Sys2Proof/Certificates/Slice0/Obligations.lean ====
section
/-! DEFINITION. The statements for the provers. Where a clause rests on the model's own choice its docstring names the log entry. -/

open Sys2Proof Sys2Proof.Machine

/-! ### The step and the reset state -/

/-- A step runs the command at the front of the queue on the state with the queue's rest, and an empty
queue idles (the queue is the model's, logs 1 and 2). -/
def Obligations.StepRunsFront : Prop :=
  (∀ (c : Instr) (rest : List Instr) (s : State), step { s with pending := c :: rest } = exec c { s with pending := rest }) ∧
    ∀ s : State, s.pending = [] → step s = .next s

/-- The state after power-on meets every invariant stated here, stands as R162 says, and holds the reports of
R164: FEED_STATE HOLD LINE waits in the urgent queue, and the LINE_STATE report of CONFIG with no cause in the
routine queue (when the owed report is queued: log 10). -/
def Obligations.ResetIsSound : Prop :=
  State.reset.lineSound = true ∧ State.reset.faultsSound = true ∧ State.reset.portSound = true ∧
    State.reset.recordsSound = true ∧ State.reset.numbersSound = true ∧ State.reset.travelSound = true ∧
    State.reset.repeatsSound = true ∧ State.reset.requestsSound = true ∧ State.reset.orderSound = true ∧
    State.reset.conditionSound = true ∧ State.reset.doubtSound = true ∧ State.reset.addressSound = true ∧
    State.reset.batchesSound = true ∧ State.reset.trackingSound = true ∧ State.reset.urgentSound = true ∧
    State.reset.port.urgent = [{ dest := 31, msg := .feedState (.hold .line), suspect := false }] ∧
    State.reset.port.routine = [{ dest := 31, msg := .lineState .config none, suspect := false }] ∧
    State.reset.line.state = .config ∧ State.reset.pieces.counter = 1 ∧ State.reset.feed.fhold = true ∧
    State.reset.feed.condition = .hold .line ∧ State.reset.travel.ringTime = 0

/-! ### Invariants that every step keeps -/

/-- TFAULT is asserted exactly in SUSPECT and a suspect cause stands exactly there, after every step (R149, R154). -/
def Obligations.LineSoundKept : Prop :=
  ∀ s t : State, s.lineSound = true → step s = .next t → t.lineSound = true

/-- The fault list, the overflow count, the repeat-fault table, the travel history, the remainder and the SYNC
period count keep their ranges, and the batch list keeps its 8 places with at most one OPEN entry and no
number held twice, each whatever the others do (R2, R4, R12, R35, R119, R135, R158). -/
def Obligations.BoundsKept : Prop :=
  ∀ s t : State, step s = .next t →
    (s.faultsSound = true → t.faultsSound = true) ∧ (s.repeatsSound = true → t.repeatsSound = true) ∧
      (s.travelSound = true → t.travelSound = true) ∧ (s.batchesSound = true → t.batchesSound = true)

/-- The transit buffer, the own-frame list and the routine queue keep within their places, and no place
stays reserved between two commands; the own address stays in 1..30 (R172, R173, R175, R177, R178; the
receive buffer: log 8). -/
def Obligations.PortBounded : Prop :=
  ∀ s t : State, step s = .next t →
    (s.portSound = true → t.portSound = true) ∧ (s.addressSound = true → t.addressSound = true)

/-- The table never holds more than 128 records, no two share a piece number, and the piece-number counter
and every piece number stay in 1..65535 (R38, R39, R43). -/
def Obligations.RecordsKept : Prop :=
  ∀ s t : State, step s = .next t →
    (s.recordsSound = true → t.recordsSound = true) ∧ (s.numbersSound = true → t.numbersSound = true)

/-- A lane holds a request exactly in READY, and the request order lists every lane in READY, each once, and
no other lane, after every step (R94, R95). -/
def Obligations.RequestsKept : Prop :=
  ∀ s t : State, step s = .next t →
    (s.requestsSound = true → t.requestsSound = true) ∧ (s.orderSound = true → t.orderSound = true)

/-- After every step the records, the lanes and the folder slots agree: a lane is GRANTED exactly when a
non-anonymous record in GRANTED has it as lead lane, and granted spans do not overlap (R94); the occupancy is
the number of non-anonymous records (R108); an OWNED slot names a record in AT_FOLDER with ticket SENT or
DELIVERED to it (R136); a record holds the window of its state (R65 to R67); in CONFIG the table is empty
(R153). The urgent queue never holds more than 14 frames (R173), while no TICKET still out on the ring names
a piece whose TICKET waits. -/
def Obligations.LanesAndSlotsKept : Prop :=
  (∀ s t : State, s.trackingSound = true → step s = .next t → t.trackingSound = true) ∧
  ∀ s t : State, s.trackingSound = true → s.urgentSound = true → s.ticketsApart = true → step s = .next t →
    t.urgentSound = true ∧ t.port.urgent.length ≤ 14

/-- The held feed-permitted condition is the one that the line state, FHOLD, the hold flag and the batch
block give, after every step (R110). -/
def Obligations.FeedConditionKept : Prop :=
  ∀ s t : State, s.conditionSound = true → step s = .next t → t.conditionSound = true

/-- While the line is SUSPECT every record has doubt, after every step (R154, R155). -/
def Obligations.SuspectDoubtKept : Prop :=
  ∀ s t : State, s.doubtSound = true → step s = .next t → t.doubtSound = true

/-- The line enters RUN from CONFIG alone and DRAINING from RUN alone, and leaves SUSPECT for CONFIG
alone (the transition table at the head of section 8). -/
def Obligations.LineMovesAllowed : Prop :=
  ∀ s t : State, step s = .next t → lineMove s.line.state t.line.state = true

/-! ### Pins -/

/-- POWER_ON and RESET_RELEASE give the power-on state of every block, with the address read from the
straps and the reports of R164 queued; RESET_ASSERT gives it with no report, and so does POWER_ON with
RESET held (log 7). A strap value of 0 or 31 is taken as 1 (R162, R164, R178). -/
def Obligations.PowerOnAndReset : Prop :=
  (∀ (straps : BitVec 5) (s : State), s.pins.resetHeld = false →
    exec (.powerOn straps) s =
      .next { State.reset with
        pins := { straps := straps, resetHeld := false }
        port := { State.reset.port with own := ownAddress straps }
        freeIndex := s.freeIndex
        pending := s.pending }) ∧
  (∀ (straps : BitVec 5) (s : State), s.pins.resetHeld = true →
    exec (.resetRelease straps) s =
      .next { State.reset with
        pins := { straps := straps, resetHeld := false }
        port := { State.reset.port with own := ownAddress straps }
        freeIndex := s.freeIndex
        pending := s.pending }) ∧
  (∀ s : State,
    exec .resetAssert s =
      .next { State.reset with
        pins := { straps := s.pins.straps, resetHeld := true }
        port := RingPort.powerOn s.port.own
        freeIndex := s.freeIndex
        pending := s.pending }) ∧
  (∀ (straps : BitVec 5) (s : State), s.pins.resetHeld = true →
    exec (.powerOn straps) s =
      .next { State.reset with
        pins := { straps := straps, resetHeld := true }
        port := RingPort.powerOn (ownAddress straps)
        freeIndex := s.freeIndex
        pending := s.pending }) ∧
  ∀ straps : BitVec 5,
    (ownAddress straps).toNat = if straps.toNat = 0 ∨ straps.toNat = 31 then 1 else straps.toNat

/-- While RESET is held, no command but POWER_ON, RESET_ASSERT and RESET_RELEASE changes anything: ring
time does not advance and Ring In is not received (R1, section 9.1); that the other pins and timers
stand with them is the model's choice (log 7). -/
def Obligations.HeldResetIgnores : Prop :=
  ∀ (c : Instr) (s : State), s.pins.resetHeld = true →
    (∀ straps, c ≠ .powerOn straps) → c ≠ .resetAssert → (∀ straps, c ≠ .resetRelease straps) →
    exec c s = .next s

/-! ### The clock and FHOLD -/

/-- One tick: ring time and the SYNC period count advance, a step from 99 to 0 ends a period, a RUNNING
travel-loss timer counts, FHOLD is read, and every own-frame list entry ages by one (R1, R2, R15, R109,
R177). The due mark, the list of period ends and the kept read are the model's (logs 3 to 5). -/
def Obligations.RingTickCounts : Prop :=
  ∀ (fhold : Bool) (s : State), s.pins.resetHeld = false →
    exec (.ringTick fhold) s =
      .next { s with
        travel := { s.travel with
          ringTime := s.travel.ringTime + 1
          syncCount := if s.travel.syncCount + 1 < 100 then s.travel.syncCount + 1 else 0
          periodEnds := if s.travel.syncCount + 1 < 100 then s.travel.periodEnds
                        else s.travel.periodEnds ++ [s.travel.ringTime + 1]
          loss := match s.travel.loss with
            | .stopped => .stopped
            | .running n due => .running (n + 1) (due || decide (s.mgmt.line.lossTimeout ≤ n + 1)) }
        feed := { s.feed with fholdRead := some fhold }
        port := { s.port with ownList := s.port.ownList.map fun e => { e with age := e.age + 1 } } }

/-- The end of a SYNC period: a SYNC with the period's ring time is queued, or the waiting one takes it
in its place; a RUNNING idle timer and a RUNNING hold-off count one period (R2, R125, R161, R174). The
due mark and the list of period ends are the model's (logs 3 and 4). -/
def Obligations.SyncPeriodEnds : Prop :=
  (∀ (s : State) (t : Stamp) (rest : List Stamp), s.pins.resetHeld = false → s.travel.periodEnds = t :: rest →
    exec .syncPeriodEnd s =
      .next { s with
        travel := { s.travel with periodEnds := rest }
        port := { s.port with
          urgent := if s.port.urgent.any Queued.isSync then
              s.port.urgent.map fun q => if q.isSync then { q with msg := .sync t } else q
            else s.port.urgent ++ [{ dest := 31, msg := .sync t, suspect := false }] }
        batch := { s.batch with
          idle := match s.batch.idle with
            | .stopped => .stopped
            | .running n due =>
              .running (min 65535 (n + 1))
                (due || (decide (s.mgmt.flow.idleTimeout ≠ 0) &&
                  decide (s.mgmt.flow.idleTimeout ≤ min 65535 (n + 1)))) }
        faults := { s.faults with
          holdoff := match s.faults.holdoff with
            | .idle => .idle
            | .owed => .owed
            | .running n => .running (min (n + 1) 10) } }) ∧
  ∀ s : State, s.travel.periodEnds = [] → exec .syncPeriodEnd s = .next s

/-- HISTORY_AGE_OUT keeps exactly the samples whose age lies strictly within 4194304 ticks in either
direction, in their order (R14). -/
def Obligations.HistoryAgesOut : Prop :=
  ∀ s : State, s.pins.resetHeld = false →
    ∃ h : List Sample,
      exec .historyAgeOut s = .next { s with travel := { s.travel with history := h } } ∧
      h.Sublist s.travel.history ∧
      ∀ x ∈ s.travel.history, x ∈ h ↔
        -4194304 < (s.travel.ringTime - x.stamp).toInt ∧ (s.travel.ringTime - x.stamp).toInt < 4194304

/-- The expiry of the travel-loss timer: NOTED with an empty table, and the timer restarts; with a record
in the table the fault is LINE, the timer stops and the line is in SUSPECT with doubt on every record
(R16, R154). A timer not marked expired changes nothing (log 3). -/
def Obligations.TravelLossTaken : Prop :=
  (∀ (s : State) (n : Nat), s.pins.resetHeld = false → s.travel.loss = .running n true → s.pieces.records = [] →
    ∃ t : State, exec .travelLoss s = .next t ∧
      t.travel = { s.travel with loss := .running 0 false } ∧ t.line = s.line ∧ t.pieces = s.pieces ∧
      t.feed = s.feed ∧ t.batch = s.batch ∧ t.folder = s.folder ∧ State.sameOuter s t ∧
      State.recorded s t { code := .travelLoss, severity := .noted, piece := none, site := .absent, position := none }) ∧
  (∀ (s : State) (n : Nat), s.pins.resetHeld = false → s.travel.loss = .running n true → s.pieces.records ≠ [] →
    s.line.state ≠ .suspect →
    ∃ t : State, exec .travelLoss s = .next t ∧
      t.travel = { s.travel with loss := .stopped } ∧ t.line.state = .suspect ∧
      t.line.cause = some .travelLoss ∧ t.line.tfault = true ∧ (∀ r ∈ t.pieces.records, r.doubt = true) ∧
      State.sameOuter s t ∧
      State.recorded s t { code := .travelLoss, severity := .line, piece := none, site := .absent,
                           position := none }) ∧
  (∀ (s : State) (n : Nat), s.pins.resetHeld = false → s.travel.loss = .running n true → s.pieces.records ≠ [] →
    s.line.state = .suspect →
    ∃ t : State, exec .travelLoss s = .next t ∧
      t.travel = { s.travel with loss := .stopped } ∧ t.line = { s.line with owed := t.line.owed } ∧
      t.pieces = s.pieces ∧ State.sameOuter s t ∧
      State.recorded s t { code := .travelLoss, severity := .line, piece := none, site := .absent,
                           position := none }) ∧
  ∀ s : State, (∀ n, s.travel.loss ≠ .running n true) → exec .travelLoss s = .next s

/-- The expiry of the idle timer closes the current batch with cause IDLE: an entry with live pieces stands CLOSING
with its counts as they were, one with none goes on to SENDING, in every line state: at the back of the send order
with its lowest slot in use next, its TALLYs queued at once where it stands alone and a place is free (R126, R129 to
R131). What a closure does, step by step, is in CloseBatchTaken. A timer not marked expired changes nothing (log 3).
The first clause is stated for a batch list that is sound (R119). -/
def Obligations.IdleTimeoutCloses : Prop :=
  (∀ (s : State) (n i : Nat) (b : BatchEntry), s.pins.resetHeld = false → s.batch.idle = .running n true →
    s.currentPlace = some i → s.batchAt i = some b →
    ∃ t : State, exec .idleTimeout s = .next t ∧
      (s.batchesSound = true → b.live ≠ 0 →
        t.batchAt i = some { b with state := .closing, cause := some .idle }) ∧
      (b.live = 0 → s.line.state ≠ .run → ∀ c : BatchEntry, t.batchAt i = some c →
        c.state = .sending ∧ c.cause = some .idle ∧ c.number = b.number) ∧
      t.travel = s.travel ∧ t.eyes = s.eyes ∧ t.matcher = s.matcher ∧ t.folder = s.folder ∧
      t.line.state = s.line.state ∧ State.sameOuter s t ∧ t = s.closeCurrent .idle ∧
      (∀ (c : BatchEntry) (first : Nat), s.batchesSound = true → b.live = 0 → b.firstSlot first →
        c = { b with state := .sending, cause := some .idle, nextSlot := some first } → State.sendsEntry s t i c) ∧
      (s.line.state ≠ .run → t.batch.idle = .stopped ∧ t.pieces = s.pieces)) ∧
  ∀ s : State, (∀ n, s.batch.idle ≠ .running n true) → exec .idleTimeout s = .next s

/-- The end of the hold-off: IDLE with an empty accumulator; otherwise an ALERT with its content is
queued and the hold-off runs again from 0, or it is OWED with the routine queue full (R160, R161). That one not
due, with fewer than 10 periods counted, changes nothing is the model's choice (log 3). -/
def Obligations.HoldoffEnds : Prop :=
  (∀ (s : State) (n : Nat), s.pins.resetHeld = false → s.faults.holdoff = .running n → 10 ≤ n →
    s.faults.acc = none →
    exec .holdoffEnd s = .next { s with faults := { s.faults with holdoff := .idle } }) ∧
  (∀ (s : State) (n : Nat) (m : Merged), s.pins.resetHeld = false → s.faults.holdoff = .running n → 10 ≤ n →
    s.faults.acc = some m → s.freePlaces ≠ 0 →
    exec .holdoffEnd s =
      .next { s with
        port := { s.port with routine := s.port.routine ++ [{ dest := 0, msg := .alert m, suspect := false }] }
        faults := { s.faults with acc := none, holdoff := .running 0 } }) ∧
  (∀ (s : State) (n : Nat) (m : Merged), s.pins.resetHeld = false → s.faults.holdoff = .running n → 10 ≤ n →
    s.faults.acc = some m → s.freePlaces = 0 →
    exec .holdoffEnd s = .next { s with faults := { s.faults with holdoff := .owed } }) ∧
  ∀ s : State, (∀ n, s.faults.holdoff = .running n → n < 10) → exec .holdoffEnd s = .next s

/-- An own frame of age 500 leaves the list and RING_BREAK takes the line into SUSPECT: cause, TFAULT, doubt on
every record, and no GRANT left in the urgent queue (R154, R177). A record in GRANTED whose GRANT waits is removed
as CANCELLED, untotalled, and its lane is READY with the record's request at the front of the request order, in the
order of the frames; every other record stands (R117, R148). A TICKET that waits takes the suspect mark (R148), the
condition is HOLD LINE and its FEED_STATE waits (R110), and a LINE_STATE report is queued, or owed with the routine
queue full (R149; the ALERT comes first: log 10). In SUSPECT the line keeps its state and cause (R155). That an age
above 500 is still taken, and that with no entry of age 500 nothing changes, is the model's choice (log 3). -/
def Obligations.RingBreakTaken : Prop :=
  (∀ (s : State) (pre post : List OwnEntry) (e : OwnEntry), s.pins.resetHeld = false →
    s.port.ownList = pre ++ e :: post → (∀ x ∈ pre, x.age < 500) → 500 ≤ e.age → s.line.state ≠ .suspect →
    ∃ t : State, exec .ringBreak s = .next t ∧ t.port.ownList = pre ++ post ∧ t.line.state = .suspect ∧
      t.line.cause = some .ringBreak ∧ t.line.tfault = true ∧ (∀ r ∈ t.pieces.records, r.doubt = true) ∧
      State.recorded s t { code := .ringBreak, severity := .line, piece := e.piece, site := .node e.dest,
                           position := none } ∧
      (∀ q ∈ t.port.urgent, q.grantPiece = none) ∧ State.sameTracking s t ∧ State.sameOuter s t ∧
      t.pieces.granted = s.pieces.granted ∧ t.pieces.discharged = s.pieces.discharged ∧
      t.pieces.lost = s.pieces.lost ∧
      (∀ (n : Half) (r : Piece), s.findPiece n = some r →
        ¬(r.state = .granted ∧ ∃ q ∈ s.port.urgent, q.grantPiece = some n) →
        t.findPiece n = some { r with doubt := true }) ∧
      (∀ (n : Half) (r : Piece), s.findPiece n = some r → r.state = .granted →
        (∃ q ∈ s.port.urgent, q.grantPiece = some n) →
        t.findPiece n = none ∧
        (s.trackingSound = true → (t.lane r.lane).run = .ready ∧
          (t.lane r.lane).request = some { span := r.span, article := r.article, batch := r.batch })) ∧
      (∀ front : List Lane, s.trackingSound = true → (s.port.urgent.filterMap Queued.grantPiece).Nodup →
        front = s.port.urgent.filterMap (fun q => q.grantPiece.bind fun n => (s.findPiece n).bind fun r =>
          if r.state = .granted then some r.lane else none) →
        t.feed.order = front ++ s.feed.order.filter (fun l => !front.contains l) ∧
        t.feed.occupancy = s.feed.occupancy - front.length) ∧
      (∀ q ∈ t.port.urgent, q.ticketPiece ≠ none → q.suspect = true) ∧
      (∀ q ∈ s.port.urgent, q.ticketPiece ≠ none → { q with suspect := true } ∈ t.port.urgent) ∧
      t.feed.condition = .hold .line ∧
      (s.feed.condition ≠ .hold .line → ∃ q ∈ t.port.urgent, q.msg = .feedState (.hold .line)) ∧
      (2 ≤ s.freePlaces → t.line.owed = false ∧
        { dest := 31, msg := .lineState .suspect (some .ringBreak), suspect := false } ∈ t.port.routine) ∧
      (s.freePlaces = 0 → t.line.owed = true ∧ t.port.routine = s.port.routine)) ∧
  (∀ (s : State) (pre post : List OwnEntry) (e : OwnEntry), s.pins.resetHeld = false →
    s.port.ownList = pre ++ e :: post → (∀ x ∈ pre, x.age < 500) → 500 ≤ e.age → s.line.state = .suspect →
    ∃ t : State, exec .ringBreak s = .next t ∧ t.port.ownList = pre ++ post ∧ t.line = s.line ∧
      t.pieces = s.pieces ∧ t.port.urgent = s.port.urgent ∧ State.sameTracking s t ∧ State.sameOuter s t ∧
      State.recorded s t { code := .ringBreak, severity := .line, piece := e.piece, site := .node e.dest,
                           position := none }) ∧
  ∀ s : State, (∀ x ∈ s.port.ownList, x.age < 500) → exec .ringBreak s = .next s

/-- A read of FHOLD that differs from the held level is taken: an assertion holds the feed with reason FHOLD in RUN
and leaves lanes, grants and records alone; a release clears the level, refreshes the condition and makes an
evaluation, which outside RUN leaves the records and the run states alone (R99, R109, R110). A change of the condition
queues a FEED_STATE with it, in the place of the one that waits if there is one (R110, R174). A read equal to the held
level changes nothing (the kept read: log 5). -/
def Obligations.FholdTaken : Prop :=
  (∀ s : State, s.pins.resetHeld = false → s.feed.fholdRead = some true → s.feed.fhold = false →
    ∃ t : State, exec .fholdAssert s = .next t ∧
      t.feed = { s.feed with
        fhold := true
        condition := if s.line.state = .run then .hold .fhold else .hold .line } ∧
      t.port.urgent =
        (if t.feed.condition = s.feed.condition then s.port.urgent
        else if s.port.urgent.any Queued.isFeedState then
          s.port.urgent.map fun q => if q.isFeedState then { q with msg := .feedState t.feed.condition } else q
        else s.port.urgent ++ [{ dest := 31, msg := .feedState t.feed.condition, suspect := false }]) ∧
      t.port.routine = s.port.routine ∧
      t.pieces = s.pieces ∧ t.batch = s.batch ∧ t.line = s.line ∧ t.faults = s.faults ∧
      State.sameTracking s t ∧ State.sameOuter s t) ∧
  (∀ s : State, s.pins.resetHeld = false → s.feed.fholdRead = some false → s.feed.fhold = true →
    ∃ t : State, exec .fholdRelease s = .next t ∧ t.feed.fhold = false ∧ t.line = s.line ∧
      t.faults = s.faults ∧ State.sameTracking s t ∧ State.sameOuter s t ∧
      (t.feed.condition ≠ s.feed.condition → ∃ q ∈ t.port.urgent, q.msg = .feedState t.feed.condition) ∧
      (s.line.state ≠ .run → t.pieces = s.pieces ∧ ∀ l, (t.lane l).run = (s.lane l).run) ∧
      ∀ (c : FeedCondition) (u : State),
        c = (if s.line.state ≠ .run then .hold .line else if s.feed.hold then .hold .occupancy
          else if s.batch.block.isSome then .hold .batch else .go) →
        u = { s with
          feed := { s.feed with fhold := false, condition := c }
          port := { s.port with
            urgent :=
              if c = s.feed.condition then s.port.urgent
              else if s.port.urgent.any Queued.isFeedState then
                s.port.urgent.map fun q => if q.isFeedState then { q with msg := .feedState c } else q
              else s.port.urgent ++ [{ dest := 31, msg := .feedState c, suspect := false }] } } →
        t = u.evaluate) ∧
  ∀ s : State, (s.feed.fholdRead = some s.feed.fhold ∨ s.feed.fholdRead = none) →
    exec .fholdAssert s = .next s ∧ exec .fholdRelease s = .next s

/-! ### Received frames -/

/-- A frame that is only passing enters the transit buffer with the monitor mark and a fresh check, and
nothing else changes (R168, R171). -/
def Obligations.PassingFrameForwarded : Prop :=
  ∀ (bytes : List Byte) (f : Frame) (s : State), parseFrame bytes = some f → s.admits f = true →
    f.dest ≠ s.port.own → ¬(f.dest = 31 ∧ f.kind = 3) →
    exec (.frameReceive bytes) s = .next (s.received.passOn f)

/-- A damaged frame adds one to its count and leaves the ring; a held FRAME_DAMAGED key suppresses the
fault, and otherwise it is recorded and the key takes a free entry, or with the table full no entry (R35, R168). -/
def Obligations.DamagedFrameCounted : Prop :=
  ∀ (bytes : List Byte) (s : State), s.pins.resetHeld = false →
    (parseFrame bytes = none ∨ ∃ f, parseFrame bytes = some f ∧ f.intact = false) →
    ∃ t : State, exec (.frameReceive bytes) s = .next t ∧ t.port.damaged = s.port.damaged + 1 ∧
      t.port.transit = s.port.transit ∧ t.line = s.line ∧ t.pieces = s.pieces ∧ t.feed = s.feed ∧
      State.sameOuter s t ∧
      (RepeatKey.frameDamaged ∈ s.eyes.repeats → t.faults = s.faults ∧ t.eyes = s.eyes) ∧
      (RepeatKey.frameDamaged ∉ s.eyes.repeats → s.eyes.repeats.length < 8 →
        t.eyes.repeats = s.eyes.repeats ++ [.frameDamaged] ∧
        State.recorded s t { code := .frameDamaged, severity := .noted, piece := none, site := .ring,
                             position := some s.travel.position }) ∧
      (RepeatKey.frameDamaged ∉ s.eyes.repeats → 8 ≤ s.eyes.repeats.length →
        t.eyes = s.eyes ∧
        State.recorded s t { code := .frameDamaged, severity := .noted, piece := none, site := .ring,
                             position := some s.travel.position })

/-- A frame of another node with the monitor mark is stripped and counted; one to be forwarded that finds
two frames in the transit buffer is dropped, counted and recorded; one for the part that no block takes, of
unknown kind or of a known kind other than TRAVEL, READY, WITHDRAW, SLOT_FREE and REQUEST, is forwarded with
no mark but the monitor mark, and counted (R168, R170, R172). -/
def Obligations.StrippedDroppedUnhandled : Prop :=
  (∀ (bytes : List Byte) (f : Frame) (s : State), parseFrame bytes = some f → s.pins.resetHeld = false →
    f.intact = true → f.src ≠ s.port.own → isMonitored f.marks = true →
    exec (.frameReceive bytes) s =
      .next { s with port := { s.port with receiving := [], monitorStripped := s.port.monitorStripped + 1 } }) ∧
  (∀ (bytes : List Byte) (f : Frame) (s : State), parseFrame bytes = some f → s.pins.resetHeld = false →
    f.intact = true → f.src ≠ s.port.own → isMonitored f.marks = false → 2 ≤ s.port.transit.length →
    ∃ t : State, exec (.frameReceive bytes) s = .next t ∧ t.port.overruns = s.port.overruns + 1 ∧
      t.port.transit = s.port.transit ∧ t.line = s.line ∧ t.pieces = s.pieces ∧ t.feed = s.feed ∧
      State.sameTracking s t ∧ State.sameOuter s t ∧
      State.recorded s t { code := .transitOverrun, severity := .noted, piece := none, site := .node f.src,
                           position := none }) ∧
  ∀ (bytes : List Byte) (f : Frame) (s : State), parseFrame bytes = some f → s.admitsOwn f = true →
    (knownKind f.kind f.body.length = false ∨
      (f.kind.toNat ≠ 2 ∧ f.kind.toNat ≠ 4 ∧ f.kind.toNat ≠ 5 ∧ f.kind.toNat ≠ 9 ∧ f.kind.toNat ≠ 13)) →
    exec (.frameReceive bytes) s =
      .next ({ s with port := { s.port with receiving := [], unhandled := s.port.unhandled + 1 } }.passOn f)

/-! ### Travel -/

/-- A TRAVEL of count delta c ≥ 0 whose whole step does not exceed the max step adds floor(s / 1024) to
the line position and keeps s mod 1024, for s = c × K + r; it records its run flag, restarts the
travel-loss timer, and leaves marked taken (R8, R11, R15, R170). Its applied sample carries the position
before, the position after and no clamp indication (R6; that the latest is held: log 11), and confirms every
pending transition whose p + m the position has reached; in CONFIG that is all it does to the eyes (R28, R29). The
history takes the sample (stamp, position after), the oldest of 16 giving way, when the stamp is after the newest
and within the age limit; otherwise the newest sample's position is replaced (R12, R13). In every line state the
four blocks then act on the new position one after another: the confirmations, the matcher's tests outside CONFIG,
an evaluation, and the deadline tests (R6, R28, R68, R99, R143; the order: logs 11 and 13). -/
def Obligations.TravelAccumulates : Prop :=
  ∀ (e : Envelope) (delta : Half) (stamp : Stamp) (run : Byte) (s : State),
    s.admitsOwn (travelFrame e delta stamp run) = true → delta.toNat < 32768 →
    (delta.toNat * s.mgmt.line.scale + s.travel.remainder) / 1024 ≤ s.mgmt.line.maxStep →
    ∃ t : State, exec (.travel e delta stamp run) s = .next t ∧
      t.travel.position = s.travel.position +
        BitVec.ofNat 32 ((delta.toNat * s.mgmt.line.scale + s.travel.remainder) / 1024) ∧
      t.travel.remainder = (delta.toNat * s.mgmt.line.scale + s.travel.remainder) % 1024 ∧
      t.travel.running = (run != 0) ∧ t.travel.loss = .running 0 false ∧
      t.travel.ringTime = s.travel.ringTime ∧ t.travel.syncCount = s.travel.syncCount ∧
      t.travel.sample = some { before := s.travel.position, after := t.travel.position, clamped := false } ∧
      (|(s.travel.ringTime - stamp).toInt| < 4194304 →
        (s.travel.history = [] ∨ ∃ n, s.travel.history.getLast? = some n ∧ 0 < (stamp - n.stamp).toInt) →
        t.travel.history = (if s.travel.history.length < 16 then s.travel.history else s.travel.history.drop 1) ++
          [{ stamp := stamp, pos := t.travel.position }]) ∧
      (¬(|(s.travel.ringTime - stamp).toInt| < 4194304 ∧
          (s.travel.history = [] ∨ ∃ n, s.travel.history.getLast? = some n ∧ 0 < (stamp - n.stamp).toInt)) →
        t.travel.history = (match s.travel.history.getLast? with
          | none => []
          | some n => s.travel.history.dropLast ++ [{ n with pos := t.travel.position }])) ∧
      (∃ u v : State,
        u = { s.received with
          travel := { s.travel with
            position := t.travel.position
            remainder := t.travel.remainder
            running := run != 0
            loss := .running 0 false
            history := t.travel.history
            sample := t.travel.sample } } ∧
        v = (if u.confirmDue.line.state = .config then u.confirmDue else u.confirmDue.testRecords s.pieces.records) ∧
        t = (v.evaluate.testDeadlines s.pieces.records).passOn
          ((travelFrame e delta stamp run).withMark markTaken)) ∧
      (s.line.state = .config →
        t.eyes.repeats = s.eyes.repeats ∧
        t.eyes.map = s.eyes.map.map fun x =>
          match x.dyn.pending with
          | none => x
          | some p =>
            if x.cfg.role = .track ∧ x.dyn.degraded = false ∧
                0 ≤ (t.travel.position - (p.pos + BitVec.ofNat 32 x.cfg.minLength)).toInt then
              { x with dyn := { x.dyn with filtered := p.kind, pending := none } }
            else x) ∧
      t.port.transit = s.port.transit ++ [((travelFrame e delta stamp run).withMark markTaken).forwarded] ∧
      State.sameOuter s t

/-- A whole step above the max step is clamped: the max step is applied, r is 0, and outside RUN every record of the
table then has doubt (R9; in RUN the sample of the same frame may grant new records); TRAVEL_CLAMP with the source
node is recorded before the marks are set and before the sample acts, with an empty table too, and the four blocks
then act as at any other sample (R6, R9; logs 11 and 13); the applied sample is announced with the clamp indication
set (R6, R9; that the latest is held: log 11), and the history takes the position after the step (R12, R13). A
negative delta leaves position, remainder and history as they were, is NOTED with an empty table, and with a record is
of severity LINE: it takes the line into SUSPECT, and in SUSPECT it is recorded and the line stays as it is (R10,
R154, R155). -/
def Obligations.TravelClampedOrReversed : Prop :=
  (∀ (e : Envelope) (delta : Half) (stamp : Stamp) (run : Byte) (s : State),
    s.admitsOwn (travelFrame e delta stamp run) = true → delta.toNat < 32768 →
    s.mgmt.line.maxStep < (delta.toNat * s.mgmt.line.scale + s.travel.remainder) / 1024 →
    ∃ t : State, exec (.travel e delta stamp run) s = .next t ∧
      t.travel.position = s.travel.position + BitVec.ofNat 32 s.mgmt.line.maxStep ∧
      t.travel.remainder = 0 ∧ t.travel.running = (run != 0) ∧ t.travel.loss = .running 0 false ∧
      t.travel.sample = some { before := s.travel.position, after := t.travel.position, clamped := true } ∧
      t.travel.history =
        (if |(s.travel.ringTime - stamp).toInt| < 4194304 ∧
            s.travel.history.getLast?.all (fun n => decide (0 < (stamp - n.stamp).toInt)) = true then
          (if s.travel.history.length < 16 then s.travel.history else s.travel.history.drop 1) ++
            [{ stamp := stamp, pos := t.travel.position }]
        else match s.travel.history.getLast? with
          | none => []
          | some n => s.travel.history.dropLast ++ [{ n with pos := t.travel.position }]) ∧
      (s.line.state ≠ .run → ∀ r ∈ t.pieces.records, r.doubt = true) ∧ State.sameOuter s t ∧
      (s.line.state = .config → s.pieces.records = [] →
        State.recorded { s with travel := t.travel } t
          { code := .travelClamp, severity := .doubt, piece := none, site := .node e.src, position := none }) ∧
      ∃ w u v : State,
        w = State.logFault { s.received with
            travel := { s.travel with
              position := t.travel.position
              remainder := 0
              running := run != 0
              loss := .running 0 false
              history := t.travel.history
              sample := t.travel.sample } }
          { code := .travelClamp, severity := .doubt, piece := none, site := .node e.src, position := none } ∧
        u = { w with pieces := { w.pieces with records := w.pieces.records.map fun r => { r with doubt := true } } } ∧
        v = (if u.confirmDue.line.state = .config then u.confirmDue else u.confirmDue.testRecords u.pieces.records) ∧
        t = (v.evaluate.testDeadlines u.pieces.records).passOn
          ((travelFrame e delta stamp run).withMark markTaken)) ∧
  (∀ (e : Envelope) (delta : Half) (stamp : Stamp) (run : Byte) (s : State),
    s.admitsOwn (travelFrame e delta stamp run) = true → 32768 ≤ delta.toNat → s.pieces.records = [] →
    ∃ t : State, exec (.travel e delta stamp run) s = .next t ∧
      t.travel = { s.travel with loss := .running 0 false, running := run != 0 } ∧ t.line = s.line ∧
      t.pieces = s.pieces ∧ t.feed = s.feed ∧ State.sameOuter s t ∧
      State.recorded s t { code := .travelReverse, severity := .noted, piece := none, site := .node e.src,
                           position := none }) ∧
  (∀ (e : Envelope) (delta : Half) (stamp : Stamp) (run : Byte) (s : State),
    s.admitsOwn (travelFrame e delta stamp run) = true → 32768 ≤ delta.toNat → s.pieces.records ≠ [] →
    s.line.state ≠ .suspect →
    ∃ t : State, exec (.travel e delta stamp run) s = .next t ∧
      t.travel = { s.travel with loss := .running 0 false, running := run != 0 } ∧
      t.line.state = .suspect ∧ t.line.cause = some .travelReverse ∧ t.line.tfault = true ∧
      (∀ r ∈ t.pieces.records, r.doubt = true) ∧ State.sameOuter s t ∧
      State.recorded s t { code := .travelReverse, severity := .line, piece := none, site := .node e.src,
                           position := none }) ∧
  ∀ (e : Envelope) (delta : Half) (stamp : Stamp) (run : Byte) (s : State),
    s.admitsOwn (travelFrame e delta stamp run) = true → 32768 ≤ delta.toNat → s.pieces.records ≠ [] →
    s.line.state = .suspect →
    ∃ t : State, exec (.travel e delta stamp run) s = .next t ∧
      t.travel = { s.travel with loss := .running 0 false, running := run != 0 } ∧ t.line = s.line ∧
      t.pieces = s.pieces ∧ t.feed = s.feed ∧ State.sameOuter s t ∧
      State.recorded s t { code := .travelReverse, severity := .line, piece := none, site := .node e.src,
                           position := none }

/-- A stamp inside the history converts, not stale, to the straight line between its adjacent samples, rounded to the
nearest unit with a half rounded up; where the line did not go backward between them the result lies between their
positions (R18). The stamp is inside when it is not before the oldest sample, equals no sample's stamp, and a segment
brackets it; one after the oldest and before the newest sample always has such a segment (R17). The other cases of
R17: an empty history gives the line position and a single sample its own, both stale; a stamp before the oldest
sample gives the oldest position, stale; one on a sample gives that sample's, not stale; one after every sample
continues the last segment over at most the extrapolation limit, stale when it lies beyond the limit (R19). -/
def Obligations.InteriorStampConverts : Prop :=
  (∀ (u : TravelUnit) (limit : Nat) (t : Stamp) (x y a b : Sample) (rest : List Sample),
    u.history = x :: y :: rest → 0 ≤ (t - x.stamp).toInt → (∀ q ∈ u.history, q.stamp ≠ t) →
    segmentAround t u.history = some (a, b) →
    (∃ pre post : List Sample, u.history = pre ++ a :: b :: post) ∧
    0 < (t - a.stamp).toInt ∧ (t - b.stamp).toInt < 0 ∧
    u.convert limit t =
      (a.pos + BitVec.ofInt 32 ((2 * (t - a.stamp).toInt * (b.pos - a.pos).toInt + (b.stamp - a.stamp).toInt) /
        (2 * (b.stamp - a.stamp).toInt)), false) ∧
    ((b.stamp - a.stamp).toInt = (b.stamp - t).toInt + (t - a.stamp).toInt → 0 < (b.stamp - t).toInt →
      0 ≤ (b.pos - a.pos).toInt →
      0 ≤ ((u.convert limit t).1 - a.pos).toInt ∧
        ((u.convert limit t).1 - a.pos).toInt ≤ (b.pos - a.pos).toInt)) ∧
  (∀ (u : TravelUnit) (t : Stamp) (x n : Sample), u.history.head? = some x → u.history.getLast? = some n →
    0 < (t - x.stamp).toInt → (t - n.stamp).toInt < 0 → (∀ q ∈ u.history, q.stamp ≠ t) →
    ∃ a b : Sample, segmentAround t u.history = some (a, b)) ∧
  (∀ (u : TravelUnit) (limit : Nat) (t : Stamp), u.history = [] → u.convert limit t = (u.position, true)) ∧
  (∀ (u : TravelUnit) (limit : Nat) (t : Stamp) (x : Sample), u.history = [x] → u.convert limit t = (x.pos, true)) ∧
  (∀ (u : TravelUnit) (limit : Nat) (t : Stamp) (x y : Sample) (rest : List Sample), u.history = x :: y :: rest →
    (t - x.stamp).toInt < 0 → u.convert limit t = (x.pos, true)) ∧
  (∀ (u : TravelUnit) (limit : Nat) (t : Stamp) (x y a : Sample) (rest pre post : List Sample),
    u.history = x :: y :: rest → 0 ≤ (t - x.stamp).toInt → u.history = pre ++ a :: post → a.stamp = t →
    (∀ q ∈ pre, q.stamp ≠ t) → u.convert limit t = (a.pos, false)) ∧
  ∀ (u : TravelUnit) (limit : Nat) (t : Stamp) (a b : Sample) (pre : List Sample) (e : Int),
    u.history = pre ++ [a, b] → (∀ q ∈ u.history, 0 < (t - q.stamp).toInt) →
    e = min (t - b.stamp).toInt (limit : Int) →
    u.convert limit t =
      (b.pos + BitVec.ofInt 32 ((2 * e * (b.pos - a.pos).toInt + (b.stamp - a.stamp).toInt) /
        (2 * (b.stamp - a.stamp).toInt)), decide ((limit : Int) < (t - b.stamp).toInt))

/-! ### Eyes -/

/-- An EDGE frame that is not classified, or belongs to no entry, or to a PASS entry, or to a degraded
TRACK eye, is forwarded as it arrived and changes nothing; one of a DROP entry is stripped (R24, R33). That an
unclassified one of a DROP entry's key is forwarded too is the model's choice (log 23). -/
def Obligations.EdgePassesThrough : Prop :=
  (∀ (e : Envelope) (channel edge : Byte) (stamp : Stamp) (tag : Half) (s : State),
    s.admits (edgeFrame e channel edge stamp tag) = true → e.dest = 31 → s.port.own ≠ 31 →
    (7 < channel.toNat ∨ (edge.toNat ≠ 1 ∧ edge.toNat ≠ 2) ∨ s.eyeIndex e.src channel = none ∨
      ∃ i x, s.eyeIndex e.src channel = some i ∧ s.eyeAt i = some x ∧
        (x.cfg.role = .pass ∨ (x.cfg.role = .track ∧ x.dyn.degraded = true))) →
    exec (.edge e channel edge stamp tag) s = .next (s.received.passOn (edgeFrame e channel edge stamp tag))) ∧
  ∀ (e : Envelope) (channel edge : Byte) (stamp : Stamp) (tag : Half) (s : State) (i : Nat) (x : Eye),
    s.admits (edgeFrame e channel edge stamp tag) = true → e.dest = 31 → s.port.own ≠ 31 →
    channel.toNat ≤ 7 → (edge.toNat = 1 ∨ edge.toNat = 2) → s.eyeIndex e.src channel = some i →
    s.eyeAt i = some x → x.cfg.role = .drop →
    exec (.edge e channel edge stamp tag) s = .next s.received

/-- A taken edge of a tracked eye with m above 0 and no pending transition starts one at the converted
position and changes nothing else. A BLOCK goes on unannotated; a CLEAR outside CONFIG carries the
attributed piece where there is one, with the annotated mark, and the suspect mark in SUSPECT (R26, R30). An
edge at or past p + m of the pending transition first confirms it, and with m = 0 the edge's own transition is
confirmed at once (R26, R27); a BLOCK then carries the attributed piece too (R30). A confirmation sets the
filtered state and removes the pending transition; outside CONFIG a BLOCK is handed to the matcher, whose
answer becomes the attributed piece, and a CLEAR is handed to it (R29). The confirmations of an applied sample
are made one by one, in every line state: each tracked, not degraded eye whose p + m is reached stands in their list
once, in ascending order of position, at equal positions of map index (two of them always, and any number whose
positions lie within half of the position space, where the order of R5 is one order), and each is confirmed as the eye
then stands (R28); in CONFIG that changes those eyes alone. -/
def Obligations.EdgeStartsPending : Prop :=
  (∀ (e : Envelope) (channel edge : Byte) (stamp : Stamp) (tag : Half) (s : State) (i : Nat) (x : Eye) (k : Edge),
    s.admits (edgeFrame e channel edge stamp tag) = true → e.dest = 31 → s.port.own ≠ 31 →
    channel.toNat ≤ 7 → edgeOf edge = some k → s.eyeIndex e.src channel = some i → s.eyeAt i = some x →
    x.cfg.role = .track → x.dyn.degraded = false → x.dyn.raw ≠ k → x.dyn.pending = none → x.cfg.minLength ≠ 0 →
    exec (.edge e channel edge stamp tag) s =
      .next (({ s.received with
        eyes := { s.eyes with
          map := s.eyes.map.set i { x with
            dyn := { x.dyn with
              raw := k
              pending := some { kind := k, pos := (s.travel.convert s.mgmt.line.extrapolation stamp).1,
                                stale := (s.travel.convert s.mgmt.line.extrapolation stamp).2 } } } } }).passOn
        (if k = Edge.clear ∧ s.line.state ≠ LineState.config ∧ x.dyn.attributed ≠ 0 then
          (edgeFrame e channel edge stamp tag).annotated x.dyn.attributed (s.line.state == LineState.suspect)
        else edgeFrame e channel edge stamp tag))) ∧
  (∀ (e : Envelope) (channel edge : Byte) (stamp : Stamp) (tag : Half) (s v : State) (i : Nat) (x : Eye) (k : Edge)
    (p : PendingTransition),
    s.admits (edgeFrame e channel edge stamp tag) = true → e.dest = 31 → s.port.own ≠ 31 →
    channel.toNat ≤ 7 → edgeOf edge = some k → s.eyeIndex e.src channel = some i → s.eyeAt i = some x →
    x.cfg.role = .track → x.dyn.degraded = false → x.dyn.raw ≠ k → x.dyn.pending = some p → x.cfg.minLength ≠ 0 →
    0 ≤ ((s.travel.convert s.mgmt.line.extrapolation stamp).1 - (p.pos + BitVec.ofNat 32 x.cfg.minLength)).toInt →
    v = ((s.received.onEye i fun d => { d with raw := k }).confirm i x.cfg p).onEye i (fun d => { d with
      pending := some { kind := k, pos := (s.travel.convert s.mgmt.line.extrapolation stamp).1,
                        stale := (s.travel.convert s.mgmt.line.extrapolation stamp).2 } }) →
    exec (.edge e channel edge stamp tag) s =
      .next (v.passOn
        (if k = Edge.clear ∧ v.line.state ≠ LineState.config ∧ v.attributed i ≠ 0 then
          (edgeFrame e channel edge stamp tag).annotated (v.attributed i) (v.line.state == LineState.suspect)
        else edgeFrame e channel edge stamp tag))) ∧
  (∀ (e : Envelope) (channel edge : Byte) (stamp : Stamp) (tag : Half) (s v : State) (i : Nat) (x : Eye) (k : Edge),
    s.admits (edgeFrame e channel edge stamp tag) = true → e.dest = 31 → s.port.own ≠ 31 →
    channel.toNat ≤ 7 → edgeOf edge = some k → s.eyeIndex e.src channel = some i → s.eyeAt i = some x →
    x.cfg.role = .track → x.dyn.degraded = false → x.dyn.raw ≠ k → x.dyn.pending = none → x.cfg.minLength = 0 →
    v = (s.received.onEye i fun d => { d with raw := k }).confirm i x.cfg
      { kind := k, pos := (s.travel.convert s.mgmt.line.extrapolation stamp).1,
        stale := (s.travel.convert s.mgmt.line.extrapolation stamp).2 } →
    exec (.edge e channel edge stamp tag) s =
      .next (v.passOn
        (if v.line.state ≠ LineState.config ∧ v.attributed i ≠ 0 then
          (edgeFrame e channel edge stamp tag).annotated (v.attributed i) (v.line.state == LineState.suspect)
        else edgeFrame e channel edge stamp tag))) ∧
  (∀ (s u : State) (i : Nat) (x : Eye) (p : PendingTransition), s.eyeAt i = some x →
    u = { s with eyes := { s.eyes with
      map := s.eyes.map.set i { x with dyn := { x.dyn with filtered := p.kind, pending := none } } } } →
    (s.line.state = .config → s.confirm i x.cfg p = u) ∧
    ∀ (c : Checkpoint) (l : Lane) (t : Transition), s.line.state ≠ .config → x.cfg.kind = some c →
      x.cfg.lane.toNat = l.number →
      t = { node := x.cfg.node, channel := x.cfg.channel, kind := c, lane := l, edge := p.kind, pos := p.pos,
            stale := p.stale } →
      (p.kind = .block → s.confirm i x.cfg p = (u.takeBlock t).1.onEye i fun d =>
        { d with attributed := (u.takeBlock t).2 }) ∧
      (p.kind = .clear → s.confirm i x.cfg p = u.takeClear t)) ∧
  (∀ s : State, s.line.state = .config →
    s.confirmDue = { s with eyes := { s.eyes with
      map := s.eyes.map.map fun x =>
        match x.dyn.pending with
        | none => x
        | some p =>
          if x.cfg.role = .track ∧ x.dyn.degraded = false ∧
              0 ≤ (s.travel.position - (p.pos + BitVec.ofNat 32 x.cfg.minLength)).toInt then
            { x with dyn := { x.dyn with filtered := p.kind, pending := none } }
          else x } }) ∧
  (∀ s : State,
    s.confirmDue = (s.dueEyes.map Prod.fst).foldl
      (fun (u : State) (i : Nat) =>
        match u.eyeAt i with
        | none => u
        | some x =>
          match x.dyn.pending with
          | none => u
          | some p => u.confirm i x.cfg p) s) ∧
  (∀ (s : State) (i : Nat) (p : Pos),
    (i, p) ∈ s.dueEyes ↔
      ∃ (x : Eye) (q : PendingTransition), s.eyeAt i = some x ∧ x.cfg.role = .track ∧ x.dyn.degraded = false ∧
        x.dyn.pending = some q ∧ q.pos = p ∧
        0 ≤ (s.travel.position - (p + BitVec.ofNat 32 x.cfg.minLength)).toInt) ∧
  (∀ s : State, (s.dueEyes.map Prod.fst).Nodup) ∧
  (∀ (s : State) (base : Pos), (∀ x ∈ s.dueEyes, 0 ≤ (x.2 - base).toInt) →
    s.dueEyes.Pairwise fun a b => 0 < (b.2 - a.2).toInt ∨ (a.2 = b.2 ∧ a.1 < b.1)) ∧
  ∀ (s : State) (i j : Nat) (p q : Pos), i < j → s.dueEyes.Perm [(i, p), (j, q)] →
    s.dueEyes = if 0 < (p - q).toInt then [(j, q), (i, p)] else [(i, p), (j, q)]

/-- A duplicate edge adds one to the eye's sequence count, saturating at 255, changes no other dynamic state, and its
frame goes on unannotated; a held EDGE_SEQUENCE key suppresses the fault, and otherwise it is recorded and the key
takes a free entry of the repeat-fault table if there is one. An edge that lies before p + m of the pending transition
cancels it: the raw state follows the edge, the glitch count adds one, saturating, GLITCH is recorded or suppressed in
the same way, the eye is degraded, with EYE_DEGRADED recorded each time, when the count comes to a threshold that is
not 0, and the frame goes on unannotated (R25, R27, R31, R32, R35). -/
def Obligations.DuplicateAndGlitchCounted : Prop :=
  (∀ (e : Envelope) (channel edge : Byte) (stamp : Stamp) (tag : Half) (s : State) (i : Nat) (x : Eye) (k : Edge),
    s.admits (edgeFrame e channel edge stamp tag) = true → e.dest = 31 → s.port.own ≠ 31 →
    channel.toNat ≤ 7 → edgeOf edge = some k → s.eyeIndex e.src channel = some i → s.eyeAt i = some x →
    x.cfg.role = .track → x.dyn.degraded = false → x.dyn.raw = k →
    ∃ t : State, exec (.edge e channel edge stamp tag) s = .next t ∧
      t.eyes.map = s.eyes.map.set i { x with
        dyn := { x.dyn with sequence := if x.dyn.sequence < 255 then x.dyn.sequence + 1 else 255 } } ∧
      t.port.transit = s.port.transit ++ [(edgeFrame e channel edge stamp tag).forwarded] ∧
      t.pieces = s.pieces ∧ t.line = s.line ∧ t.feed = s.feed ∧ t.travel = s.travel ∧ State.sameOuter s t ∧
      (RepeatKey.edgeSequence x.cfg.node x.cfg.channel ∈ s.eyes.repeats →
        t.faults = s.faults ∧ t.eyes.repeats = s.eyes.repeats) ∧
      (RepeatKey.edgeSequence x.cfg.node x.cfg.channel ∉ s.eyes.repeats →
        t.eyes.repeats = (if s.eyes.repeats.length < 8 then
          s.eyes.repeats ++ [.edgeSequence x.cfg.node x.cfg.channel] else s.eyes.repeats) ∧
        State.recorded s t { code := .edgeSequence, severity := .noted, piece := none,
                             site := .eye x.cfg.node x.cfg.channel, position := none })) ∧
  ∀ (e : Envelope) (channel edge : Byte) (stamp : Stamp) (tag : Half) (s : State) (i : Nat) (x : Eye) (k : Edge)
    (p : PendingTransition) (count : Nat),
    s.admits (edgeFrame e channel edge stamp tag) = true → e.dest = 31 → s.port.own ≠ 31 →
    channel.toNat ≤ 7 → edgeOf edge = some k → s.eyeIndex e.src channel = some i → s.eyeAt i = some x →
    x.cfg.role = .track → x.dyn.degraded = false → x.dyn.raw ≠ k → x.dyn.pending = some p →
    ((s.travel.convert s.mgmt.line.extrapolation stamp).1 - (p.pos + BitVec.ofNat 32 x.cfg.minLength)).toInt < 0 →
    count = (if x.dyn.glitches < 255 then x.dyn.glitches + 1 else 255) →
    ∃ t : State, exec (.edge e channel edge stamp tag) s = .next t ∧
      t.eyes.map = s.eyes.map.set i { x with
        dyn := { x.dyn with
          raw := k
          pending := none
          glitches := count
          degraded := decide (x.cfg.threshold ≠ 0 ∧ count = x.cfg.threshold) } } ∧
      t.port.transit = s.port.transit ++ [(edgeFrame e channel edge stamp tag).forwarded] ∧
      t.pieces = s.pieces ∧ t.line = s.line ∧ t.feed = s.feed ∧ t.travel = s.travel ∧ State.sameOuter s t ∧
      ∀ glitch degraded : Raised,
        glitch = { code := .glitch, severity := .noted, piece := none, site := .eye x.cfg.node x.cfg.channel,
                   position := none } →
        degraded = { code := .eyeDegraded, severity := .doubt, piece := none,
                     site := .eye x.cfg.node x.cfg.channel, position := none } →
        (RepeatKey.glitch x.cfg.node x.cfg.channel ∈ s.eyes.repeats →
          t.eyes.repeats = s.eyes.repeats ∧
          (x.cfg.threshold ≠ 0 ∧ count = x.cfg.threshold → State.recorded s t degraded) ∧
          (x.cfg.threshold = 0 ∨ count ≠ x.cfg.threshold → t.faults = s.faults)) ∧
        (RepeatKey.glitch x.cfg.node x.cfg.channel ∉ s.eyes.repeats →
          t.eyes.repeats = (if s.eyes.repeats.length < 8 then
            s.eyes.repeats ++ [.glitch x.cfg.node x.cfg.channel] else s.eyes.repeats) ∧
          (x.cfg.threshold ≠ 0 ∧ count = x.cfg.threshold → State.recordedTwo s t glitch degraded) ∧
          (x.cfg.threshold = 0 ∨ count ≠ x.cfg.threshold → State.recorded s t glitch))

/-! ### Requests of the lanes -/

/-- An accepted READY: outside RUN the lane is READY with the request and stands at the back of the order; in RUN it
is READY with it, or already GRANTED by the evaluation that follows (R95, R97, R99). The grant itself. A READY lane in
RUN, with FHOLD released, the hold flag clear, no granted or waiting span over its own, its batch current, its level
below the mask, every span lane's live tail far enough behind its predicted inlet lead, the batch gap met on a lot
change, and room in the table, is granted when it is tested: the record, the lane, its span's tails, the last granted
batch, the pointer, the occupancy, the hold flag, the batch's live count, the idle timer and the GRANT frame are as
R47, R48, R65 and R102 to R108 say; the record takes the first free number and its place in the table order (R43,
R45). A lane that fails one of the first six conditions of R100, or whose gap is not met, that of a lane of its span
or, on a lot change, the batch gap to the furthest live tail of all (R104, R105), is left as it is, and so is one that
finds the table full (R49). The order is reported once when a READY replaces a held request (the model's choice: log
25). An accepted READY makes an evaluation after the choice of a batch and the restart of the idle timer (R97, R99,
R125). An evaluation drops the tails that are not live and then tests every lane once: a lane of a lower level before
one of a higher, and within a level from the pointer's lane upward, lane 4 followed by lane 1 (R99, R101, R103). -/
def Obligations.ReadyAccepted : Prop :=
  (∀ (e : Envelope) (lane span article : Byte) (batch : Half) (s : State) (l : Lane),
    s.admitsOwn (readyFrame e lane span article batch) = true → Lane.ofNumber lane.toNat = some l →
    article.toNat ≠ 0 → article.toNat ≠ 255 → batch ≠ 0 → s.line.state ≠ .config →
    ((s.lane l).run = .idle ∨ (s.lane l).run = .ready) → s.spanPermitted l span = true →
    ∃ t : State, exec (.ready e lane span article batch) s = .next t ∧
      t.port.transit = s.port.transit ++ [((readyFrame e lane span article batch).withMark markTaken).forwarded] ∧
      t.line = s.line ∧ State.sameTracking s t ∧ State.sameOuter s t ∧
      (s.line.state ≠ .run →
        (t.lane l).run = .ready ∧
        (t.lane l).request = some { span := span.setWidth 4, article := article, batch := batch } ∧
        t.feed.order = s.feed.order.filter (· != l) ++ [l] ∧ t.pieces = s.pieces) ∧
      (s.line.state = .run →
        ((t.lane l).run = .ready ∧
          (t.lane l).request = some { span := span.setWidth 4, article := article, batch := batch }) ∨
        ((t.lane l).run = .granted ∧ (t.lane l).request = none))) ∧
  (∀ (s : State) (l : Lane) (r : LaneRequest) (lead : Pos) (gap : Nat),
    (s.lane l).run = .ready → (s.lane l).request = some r → s.line.state = .run → s.feed.fhold = false →
    s.feed.hold = false → (∀ q ∈ s.pieces.records, q.state = .granted → q.span &&& r.span = 0) →
    (∀ q ∈ s.port.urgent, q.grantSpan &&& r.span = 0) → s.currentBatch = some r.batch →
    (s.lane l).cfg.level < s.mgmt.flow.mask → s.pieces.records.length < 128 →
    lead = s.travel.position + BitVec.ofNat 32 ((s.lane l).cfg.release + (s.lane l).cfg.feedDist) →
    gap = (match s.findArticle r.article with | some a => a.leadGap | none => s.mgmt.flow.leadGap) →
    (∀ (k : Lane) (x : Tail), spanHas r.span k = true → (s.lane k).tail = some x →
      (s.travel.position - x.pos).toInt ≤ 65536 → ((x.gap + gap : Nat) : Int) ≤ (lead - x.pos).toInt) →
    (s.feed.lastBatch = none ∨ s.feed.lastBatch = some r.batch ∨
      ∀ (k : Lane) (x : Tail), (s.lane k).tail = some x → (s.travel.position - x.pos).toInt ≤ 65536 →
        (s.mgmt.flow.batchGap : Int) ≤ (lead - x.pos).toInt) →
    ∃ p : Piece, p ∈ (s.tryLane l).pieces.records ∧ (∀ q ∈ s.pieces.records, q.number ≠ p.number) ∧
      State.creates s (s.tryLane l) p.number lead ∧ (∀ q ∈ s.pieces.records, q ∈ (s.tryLane l).pieces.records) ∧
      (s.tryLane l).pieces.records.length = s.pieces.records.length + 1 ∧
      (s.tryLane l).pieces.granted = s.pieces.granted + 1 ∧
      p.anonymous = false ∧ p.state = .granted ∧ p.lane = l ∧ p.span = r.span ∧ p.article = r.article ∧
      p.batch = r.batch ∧ p.snapshot = s.findArticle r.article ∧ p.doubt = false ∧ p.ticket = .none ∧
      p.reject = (if s.findArticle r.article = none then .unknownArticle else .none) ∧
      p.orderKey = lead ∧ p.inletLead = some lead ∧ p.grantPos = some s.travel.position ∧
      p.window = some { kind := .laneExit, openPt := s.travel.position,
                        expected := s.travel.position + BitVec.ofNat 32 (s.lane l).cfg.release,
                        closePt := s.travel.position + BitVec.ofNat 32 (s.lane l).cfg.grantDist } ∧
      ((s.tryLane l).lane l).run = .granted ∧ ((s.tryLane l).lane l).request = none ∧
      (∀ k : Lane, ((s.tryLane l).lane k).tail =
        if spanHas r.span k then
          some { pos := lead + BitVec.ofNat 32
                   (match p.snapshot with | some a => a.nominal | none => s.mgmt.flow.length)
                 gap := (match p.snapshot with | some a => a.trailGap | none => s.mgmt.flow.trailGap)
                 owner := p.number }
        else (s.lane k).tail) ∧
      (∀ k : Lane, k ≠ l → ((s.tryLane l).lane k).run = (s.lane k).run ∧
        ((s.tryLane l).lane k).request = (s.lane k).request) ∧
      (s.tryLane l).feed.order = s.feed.order.filter (· != l) ∧ (s.tryLane l).feed.lastBatch = some r.batch ∧
      (s.tryLane l).feed.pointer.number = l.number % 4 + 1 ∧
      (s.tryLane l).feed.occupancy = s.feed.occupancy + 1 ∧
      (s.tryLane l).feed.hold = decide (s.mgmt.flow.halt ≤ s.feed.occupancy + 1) ∧
      (s.tryLane l).batch = { s.batch with
        idle := .running 0 false
        places := s.batch.places.map fun e =>
          e.map fun b => if b.number = r.batch then { b with live := b.live + 1 } else b } ∧
      (s.tryLane l).port.urgent.getLast? =
        some { dest := (s.lane l).cfg.node, msg := .grant l r.span p.number, suspect := false } ∧
      (s.tryLane l).line = s.line ∧ (s.tryLane l).faults = s.faults ∧ State.sameTracking s (s.tryLane l) ∧
      State.sameOuter s (s.tryLane l)) ∧
  (∀ (s : State) (l : Lane) (r : LaneRequest), (s.lane l).request = some r →
    (s.line.state ≠ .run ∨ s.feed.fhold = true ∨ s.feed.hold = true ∨
      (∃ q ∈ s.pieces.records, q.state = .granted ∧ q.span &&& r.span ≠ 0) ∨
      (∃ q ∈ s.port.urgent, q.grantSpan &&& r.span ≠ 0) ∨ s.currentBatch ≠ some r.batch ∨
      s.mgmt.flow.mask ≤ (s.lane l).cfg.level ∨ 128 ≤ s.pieces.records.length ∨
      (∃ (k : Lane) (x : Tail) (b : Half), s.feed.lastBatch = some b ∧ b ≠ r.batch ∧ (s.lane k).tail = some x ∧
        (s.travel.position - x.pos).toInt ≤ 65536 ∧
        (∀ (j : Lane) (y : Tail), (s.lane j).tail = some y → (s.travel.position - y.pos).toInt ≤ 65536 →
          0 ≤ (x.pos - y.pos).toInt) ∧
        (s.travel.position + BitVec.ofNat 32 ((s.lane l).cfg.release + (s.lane l).cfg.feedDist) - x.pos).toInt <
          (s.mgmt.flow.batchGap : Int)) ∨
      ∃ (k : Lane) (x : Tail) (gap : Nat), spanHas r.span k = true ∧ (s.lane k).tail = some x ∧
        (s.travel.position - x.pos).toInt ≤ 65536 ∧
        gap = (match s.findArticle r.article with | some a => a.leadGap | none => s.mgmt.flow.leadGap) ∧
        (s.travel.position + BitVec.ofNat 32 ((s.lane l).cfg.release + (s.lane l).cfg.feedDist) - x.pos).toInt <
          ((x.gap + gap : Nat) : Int)) →
    s.tryLane l = s) ∧
  (∀ (e : Envelope) (lane span article : Byte) (batch : Half) (s w v : State) (l : Lane),
    s.admitsOwn (readyFrame e lane span article batch) = true → Lane.ofNumber lane.toNat = some l →
    article.toNat ≠ 0 → article.toNat ≠ 255 → batch ≠ 0 → s.line.state ≠ .config →
    ((s.lane l).run = .idle ∨ (s.lane l).run = .ready) → s.spanPermitted l span = true →
    w = { s.received with
      feed := { s.feed with
        lanes := s.feed.lanes.set l { s.lane l with
          run := .ready
          request := some { span := span.setWidth 4, article := article, batch := batch } }
        order := s.feed.order.filter (· != l) ++ [l] } } →
    v = (if w.choose.currentBatch = some batch then
        { w.choose with batch := { w.choose.batch with idle := .running 0 false } }
      else w.choose) →
    exec (.ready e lane span article batch) s =
      .next (v.evaluate.passOn ((readyFrame e lane span article batch).withMark markTaken))) ∧
  (∀ s d : State,
    d = { s with
      feed := { s.feed with
        lanes := s.feed.lanes.map fun x =>
          { x with tail := x.tail.filter fun q => decide ((s.travel.position - q.pos).toInt ≤ 65536) } } } →
    s.evaluate = d.arbitration.foldl State.tryLane d) ∧
  (∀ (s : State) (l : Lane), (s.lane l).run ≠ .ready → s.tryLane l = s) ∧
  (∀ s : State, s.arbitration.Nodup ∧ ∀ l : Lane, l ∈ s.arbitration ↔ (s.lane l).cfg.level ≤ 3) ∧
  ∀ (s : State) (a b : Lane), (s.lane a).cfg.level ≤ 3 → (s.lane b).cfg.level ≤ 3 →
    ((s.lane a).cfg.level < (s.lane b).cfg.level ∨
      ((s.lane a).cfg.level = (s.lane b).cfg.level ∧
        (a.number + 4 - s.feed.pointer.number) % 4 < (b.number + 4 - s.feed.pointer.number) % 4)) →
    [a, b].Sublist s.arbitration

/-- A READY with a lane outside 1..4, article 0 or 255 or batch 0, a READY in CONFIG, and a READY for an OFFLINE lane
change nothing; one for a GRANTED lane counts an early request; one with a span not permitted is refused with
READY_REFUSED_SPAN, and a READY lane then loses its request first, goes to IDLE and leaves the order, in RUN without a
current batch with the choice of R123 (R96, R97). A span is permitted when it is a contiguous set of lanes whose
lowest is the lane, of a width permitted to it, all of them enabled (R97), and bits 4 to 7 of its byte are clear (log
20). -/
def Obligations.ReadyNotAccepted : Prop :=
  (∀ (e : Envelope) (lane span article : Byte) (batch : Half) (s : State),
    s.admitsOwn (readyFrame e lane span article batch) = true →
    (lane.toNat = 0 ∨ 4 < lane.toNat ∨ article.toNat = 0 ∨ article.toNat = 255 ∨ batch = 0 ∨
      s.line.state = .config ∨ ∃ l, Lane.ofNumber lane.toNat = some l ∧ (s.lane l).run = .offline) →
    exec (.ready e lane span article batch) s =
      .next (s.received.passOn ((readyFrame e lane span article batch).withMark markTaken))) ∧
  (∀ (e : Envelope) (lane span article : Byte) (batch : Half) (s : State) (l : Lane),
    s.admitsOwn (readyFrame e lane span article batch) = true → Lane.ofNumber lane.toNat = some l →
    article.toNat ≠ 0 → article.toNat ≠ 255 → batch ≠ 0 → s.line.state ≠ .config → (s.lane l).run = .granted →
    exec (.ready e lane span article batch) s =
      .next ({ s.received with
        feed := { s.feed with
          lanes := s.feed.lanes.set l { s.lane l with
            early := if (s.lane l).early < 255 then (s.lane l).early + 1 else 255 } } }.passOn
        ((readyFrame e lane span article batch).withMark markTaken))) ∧
  (∀ (e : Envelope) (lane span article : Byte) (batch : Half) (s : State) (l : Lane),
    s.admitsOwn (readyFrame e lane span article batch) = true → Lane.ofNumber lane.toNat = some l →
    article.toNat ≠ 0 → article.toNat ≠ 255 → batch ≠ 0 → s.line.state ≠ .config →
    ((s.lane l).run = .idle ∨ (s.lane l).run = .ready) → s.spanPermitted l span = false →
    ∃ t : State, exec (.ready e lane span article batch) s = .next t ∧ (t.lane l).run = .idle ∧
      t.line = s.line ∧ State.sameTracking s t ∧ State.sameOuter s t ∧
      ((s.lane l).run = .idle → t.feed = s.feed ∧ t.pieces = s.pieces ∧
        State.recorded s t { code := .readyRefusedSpan, severity := .piece, piece := none, site := .lane l,
                             position := none }) ∧
      ((s.lane l).run = .ready → (t.lane l).request = none ∧ l ∉ t.feed.order ∧
        ∀ refused : Raised,
          refused = { code := .readyRefusedSpan, severity := .piece, piece := none, site := .lane l,
                      position := none } →
          (s.line.state ≠ .run ∨ s.currentPlace.isSome = true →
            t.pieces = s.pieces ∧ t.feed.lanes = (s.withoutRequest l).feed.lanes ∧
            t.feed.order = (s.withoutRequest l).feed.order ∧
            t.batch = { s.batch with block := if t.feed.order = [] then none else s.batch.block } ∧
            State.recorded s t refused) ∧
          (s.line.state = .run → s.currentPlace = none →
            t = (State.logFault (s.received.withoutRequest l).choose refused).passOn
              ((readyFrame e lane span article batch).withMark markTaken)))) ∧
  ∀ (s : State) (l : Lane) (span : Byte),
    s.spanPermitted l span = true ↔
      span.toNat < 16 ∧
      (∃ w : Nat, 1 ≤ w ∧ l.number + w ≤ 5 ∧ (s.lane l).cfg.widths.getLsbD (w - 1) = true ∧
        ∀ k : Lane, span.getLsbD (k.number - 1) = decide (l.number ≤ k.number ∧ k.number < l.number + w)) ∧
      ∀ k : Lane, span.getLsbD (k.number - 1) = true → (s.lane k).cfg.enabled = true

/-- WITHDRAW: a READY lane drops its request, goes to IDLE and leaves the order, in RUN without a current batch with
the choice of R123; a GRANTED lane and its record are unchanged and WITHDRAW_LATE is recorded with the record's
number; an IDLE or OFFLINE lane, or a lane outside 1..4, changes nothing (R98). -/
def Obligations.WithdrawHandled : Prop :=
  (∀ (e : Envelope) (lane : Byte) (s : State) (l : Lane), s.admitsOwn (withdrawFrame e lane) = true →
    Lane.ofNumber lane.toNat = some l → (s.lane l).run = .ready →
    ∃ t : State, exec (.withdraw e lane) s = .next t ∧ (t.lane l).run = .idle ∧ (t.lane l).request = none ∧
      l ∉ t.feed.order ∧ t.line = s.line ∧ State.sameTracking s t ∧ State.sameOuter s t ∧
      (s.line.state ≠ .run ∨ s.currentPlace.isSome = true →
        t.pieces = s.pieces ∧ t.feed.order = s.feed.order.filter (· != l)) ∧
      (s.line.state = .run → s.currentPlace = none →
        t = (s.received.withoutRequest l).choose.passOn ((withdrawFrame e lane).withMark markTaken))) ∧
  (∀ (e : Envelope) (lane : Byte) (s : State) (l : Lane), s.admitsOwn (withdrawFrame e lane) = true →
    Lane.ofNumber lane.toNat = some l → (s.lane l).run = .granted →
    ∃ t : State, exec (.withdraw e lane) s = .next t ∧ t.feed = s.feed ∧ t.pieces = s.pieces ∧
      t.line = s.line ∧ t.batch = s.batch ∧ State.sameTracking s t ∧ State.sameOuter s t ∧
      State.recorded s t { code := .withdrawLate, severity := .noted, piece := s.grantedOn l, site := .lane l,
                           position := none }) ∧
  ∀ (e : Envelope) (lane : Byte) (s : State), s.admitsOwn (withdrawFrame e lane) = true →
    (lane.toNat = 0 ∨ 4 < lane.toNat ∨
      ∃ l, Lane.ofNumber lane.toNat = some l ∧ ((s.lane l).run = .idle ∨ (s.lane l).run = .offline)) →
    exec (.withdraw e lane) s = .next (s.received.passOn ((withdrawFrame e lane).withMark markTaken))

/-! ### Matching -/

/-- The candidates of a BLOCK are the records whose span holds its lane and whose window of its kind holds its
position, ends included, in table order; the nearest has the nearest expected point, the older of two equally near
(R70). The nearest is matched (R69 to R73): at LANE_EXIT it goes to ON_FEED with an INLET window at lead + D, at INLET
to IN_IRONER with an EXIT window at lead + H + slip, at EXIT to AT_FOLDER with no window and a ticket SENT or PENDING;
a stale transition or a second candidate leaves it with doubt, the second with AMBIGUOUS, else the first with
STALE_TIME, when it had none (R20, R70). The deviation is the position less the expected point; the lead lane goes to
IDLE at LANE_EXIT, an evaluation event (R71, R115); the lead lane's slip is learned at EXIT from a record without
doubt, and from none other (R73, R90). The match begins absorption or, at INLET, the measurement, owing the other
lanes of the span (R74, R79). With no candidate the first record that can absorb the edge takes it: its lane is owed
no more, and an owed edge past the skew, or a stale one, sets doubt with its fault (R20, R69, R75). Else the edge is
an orphan, counted: at LANE_EXIT ORPHAN_LANE is recorded, at INLET and EXIT an anonymous record with doubt is made
with the first free number in its place of the order (R43, R45), at EXIT handed over, and a full table is TABLE_FULL
and SUSPECT (R45, R50, R51, R76, R77). A sample's test of a window (R68): past close point and margin the record goes
as MISSING, a GRANTED lane to IDLE, its waiting GRANT gone (R84, R85, R116), its batch losing one live piece, counted
lost at INLET and EXIT alone (R121, R122), in RUN stated where the removal sets nothing else going; a record blind at
the checkpoint passes by prediction at the expected point (R87, R88). A sample tests the records in table order, each
by measurement, absorption and window in this order; a point that a record began to wait for in this sample waits for
the next (R5, R68; log 13). -/
def Obligations.PieceMatched : Prop :=
  (∀ (s : State) (t : Transition), (s.candidates t).Sublist s.pieces.records ∧
    ∀ r : Piece, r ∈ s.candidates t ↔ r ∈ s.pieces.records ∧ r.span.getLsbD (t.lane.number - 1) = true ∧
      ∃ w : Window, r.window = some w ∧ w.kind = t.kind ∧ 0 ≤ (t.pos - w.openPt).toInt ∧
        0 ≤ (w.closePt - t.pos).toInt) ∧
  (∀ (p : Pos) (l : List Piece) (dev : Piece → Int),
    (∀ q, dev q = (match q.window with | none => 0 | some w => (p - w.expected).toInt)) →
    (l ≠ [] → ∃ r, nearest p l = some r) ∧
    ∀ r : Piece, nearest p l = some r →
      ∃ pre post : List Piece, l = pre ++ r :: post ∧ (∀ q ∈ pre, |dev r| < |dev q|) ∧
        ∀ q ∈ post, |dev r| ≤ |dev q|) ∧
  (∀ (s : State) (t : Transition) (r : Piece) (basis : Nat), nearest t.pos (s.candidates t) = some r →
    basis = (match r.snapshot with | some a => a.nominal | none => s.mgmt.flow.length) →
    (s.takeBlock t).2 = r.number ∧
    ∃ q : Piece, (s.takeBlock t).1.findPiece r.number = some q ∧
    (t.stale = true ∨ 1 < (s.candidates t).length → q.doubt = true) ∧
    (t.kind ≠ .exit → (s.takeBlock t).1.matcher = s.matcher) ∧
    (∀ doubt : Bool, s.findPiece r.number = some r →
      doubt = (r.doubt || decide (1 < (s.candidates t).length) || t.stale) →
      (t.kind = .laneExit →
        q = { r with
          state := .onFeed, laneExitLead := some t.pos, devLaneExit := q.devLaneExit, window := q.window
          absorption := q.absorption, doubt := doubt } ∧
        ∃ u : State, (s.takeBlock t).1 = u.evaluate ∧
          u.feed = { s.feed with
            lanes := s.feed.lanes.set r.lane { s.lane r.lane with run := .idle, request := none }
            order := s.feed.order.filter (· != r.lane) } ∧
          u.findPiece r.number = some q ∧ u.line = s.line ∧ u.batch = s.batch) ∧
      (t.kind = .inlet →
        q = { r with
          state := .inIroner, inletLead := some t.pos, devInlet := q.devInlet, window := q.window
          measurement := q.measurement, doubt := doubt }) ∧
      (t.kind = .exit →
        q = { r with
          state := .atFolder, exitLead := some t.pos, devExit := q.devExit, window := none
          absorption := q.absorption, doubt := doubt, ticket := q.ticket, ticketSlot := q.ticketSlot
          reject := q.reject, deadline := q.deadline } ∧
        (doubt = true → (s.takeBlock t).1.matcher = s.matcher) ∧
        ∀ (i : Pos) (d : Int), doubt = false → r.inletLead = some i →
          d = (t.pos - (i + BitVec.ofNat 32 s.mgmt.windows.ironer)).toInt →
          (s.takeBlock t).1.matcher = { s.matcher with
            slip := s.matcher.slip.set r.lane
              (max (-(s.mgmt.windows.slipLimit : Int)) (min (s.mgmt.windows.slipLimit : Int)
                (s.matcher.slip.get r.lane + Int.tdiv (d - s.matcher.slip.get r.lane) 8))) }) ∧
      (r.doubt = false → 1 < (s.candidates t).length →
        State.recorded s (s.takeBlock t).1 { code := .ambiguous, severity := .doubt, piece := some r.number,
                                             site := .eye t.node t.channel, position := some t.pos }) ∧
      (r.doubt = false → (s.candidates t).length ≤ 1 → t.stale = true →
        State.recorded s (s.takeBlock t).1 { code := .staleTime, severity := .doubt, piece := some r.number,
                                             site := .eye t.node t.channel, position := some t.pos }) ∧
      (r.doubt = true ∨ doubt = false → (s.takeBlock t).1.faults = s.faults)) ∧
    (∀ w : Window, r.window = some w →
      (t.kind = .laneExit → q.devLaneExit = some (t.pos - w.expected).toInt) ∧
      (t.kind = .inlet → q.devInlet = some (t.pos - w.expected).toInt) ∧
      (t.kind = .exit → q.devExit = some (t.pos - w.expected).toInt)) ∧
    (t.kind = .laneExit →
      ((s.takeBlock t).1.lane r.lane).run = .idle ∧ ((s.takeBlock t).1.lane r.lane).request = none ∧
      q.laneExitLead = some t.pos ∧ q.state = .onFeed ∧
      q.absorption = some { kind := .laneExit, matchPos := t.pos,
                            owed := r.span &&& ~~~(1#4 <<< (t.lane.number - 1)),
                            endPos := t.pos + BitVec.ofNat 32 basis } ∧
      ∃ w : Window, q.window = some w ∧ w.kind = .inlet ∧
        w.expected = t.pos + BitVec.ofNat 32 (s.lane r.lane).cfg.feedDist ∧
        w.openPt = w.expected - BitVec.ofNat 32 s.mgmt.windows.tolI ∧
        w.closePt = w.expected + BitVec.ofNat 32 s.mgmt.windows.tolI) ∧
    (t.kind = .inlet →
      q.inletLead = some t.pos ∧ q.state = .inIroner ∧
      q.measurement = some { owed := r.span &&& ~~~(1#4 <<< (t.lane.number - 1)), taken := none,
                             limit := t.pos + BitVec.ofNat 32
                               ((match r.snapshot with | some a => a.maximum | none => 8000) +
                                 s.mgmt.windows.skew + s.closeMargin .inlet r.span) } ∧
      ∃ w : Window, q.window = some w ∧ w.kind = .exit ∧
        w.expected = t.pos + BitVec.ofInt 32 ((s.mgmt.windows.ironer : Int) + s.matcher.slip.get r.lane) ∧
        w.openPt = w.expected - BitVec.ofNat 32 s.mgmt.windows.tolE ∧
        w.closePt = w.expected + BitVec.ofNat 32 s.mgmt.windows.tolE) ∧
    (t.kind = .exit →
      q.exitLead = some t.pos ∧ q.state = .atFolder ∧ q.window = none ∧
      q.absorption = some { kind := .exit, matchPos := t.pos,
                            owed := r.span &&& ~~~(1#4 <<< (t.lane.number - 1)),
                            endPos := t.pos + BitVec.ofNat 32 basis } ∧
      (q.ticket = .sent ∨ q.ticket = .pending))) ∧
  (∀ (s : State) (t : Transition) (r : Piece) (owed : Span) (m0 : Pos) (skewed : Bool), s.candidates t = [] →
    s.pieces.records.find? (fun x => x.canAbsorb t.kind t.lane) = some r → s.findPiece r.number = some r →
    ((t.kind = .inlet ∧ r.inletLead = some m0 ∧ ∃ m, r.measurement = some m ∧ m.owed = owed) ∨
      (t.kind ≠ .inlet ∧ ∃ a, r.absorption = some a ∧ a.matchPos = m0 ∧ a.owed = owed)) →
    skewed = (spanHas owed t.lane && decide ((s.mgmt.windows.skew : Int) < |(t.pos - m0).toInt|)) →
    (s.takeBlock t).2 = r.number ∧
    (s.takeBlock t).1.findPiece r.number = some { r with
      doubt := r.doubt || skewed || t.stale
      measurement := if t.kind = .inlet then
          r.measurement.map fun m => { m with owed := m.owed &&& ~~~(1#4 <<< (t.lane.number - 1)) }
        else r.measurement
      absorption := if t.kind = .inlet then r.absorption
        else r.absorption.map fun a => { a with owed := a.owed &&& ~~~(1#4 <<< (t.lane.number - 1)) } } ∧
    (skewed = true → r.doubt = false →
      State.recorded s (s.takeBlock t).1 { code := .skew, severity := .doubt, piece := some r.number,
                                           site := .eye t.node t.channel, position := some t.pos }) ∧
    (skewed = false → t.stale = true → r.doubt = false →
      State.recorded s (s.takeBlock t).1 { code := .staleTime, severity := .doubt, piece := some r.number,
                                           site := .eye t.node t.channel, position := some t.pos }) ∧
    (r.doubt = true ∨ (skewed = false ∧ t.stale = false) → (s.takeBlock t).1.faults = s.faults)) ∧
  (∀ (s : State) (n : Half) (r : Piece) (a : Absorption), s.findPiece n = some r → r.absorption = some a →
    s.testAbsorption n =
      if 0 < (s.travel.position - a.endPos).toInt then
        { s with pieces := { s.pieces with
          records := s.pieces.records.map fun q => if q.number = n then { q with absorption := none } else q } }
      else s) ∧
  (∀ (s : State) (t : Transition), s.candidates t = [] →
    (∀ r ∈ s.pieces.records, r.canAbsorb t.kind t.lane = false) → t.kind = .laneExit →
    (s.takeBlock t).2 = 0 ∧ (s.takeBlock t).1.pieces = s.pieces ∧
    (s.takeBlock t).1.matcher = { s.matcher with orphanLane := s.matcher.orphanLane + 1 } ∧
    State.recorded s (s.takeBlock t).1 { code := .orphanLane, severity := .noted, piece := none,
                                         site := .eye t.node t.channel, position := some t.pos }) ∧
  (∀ (s : State) (t : Transition), s.candidates t = [] →
    (∀ r ∈ s.pieces.records, r.canAbsorb t.kind t.lane = false) → t.kind ≠ .laneExit →
    128 ≤ s.pieces.records.length →
    (s.takeBlock t).2 = 0 ∧
    (s.takeBlock t).1.matcher = (match t.kind with
      | .laneExit => s.matcher
      | .inlet => { s.matcher with orphanInlet := s.matcher.orphanInlet + 1 }
      | .exit => { s.matcher with orphanExit := s.matcher.orphanExit + 1 }) ∧
    (s.takeBlock t).1.line.state = .suspect ∧
    (s.line.state ≠ .suspect → (s.takeBlock t).1.line.cause = some .tableFull) ∧
    (s.line.state = .suspect →
      (s.takeBlock t).1.line.cause = s.line.cause ∧ (s.takeBlock t).1.pieces = s.pieces) ∧
    State.recorded s (s.takeBlock t).1 { code := .tableFull, severity := .line, piece := none,
                                         site := .eye t.node t.channel, position := some t.pos }) ∧
  (∀ (s : State) (t : Transition), s.candidates t = [] →
    (∀ r ∈ s.pieces.records, r.canAbsorb t.kind t.lane = false) → t.kind = .exit →
    s.pieces.records.length < 128 →
    ∃ q : Piece, (s.takeBlock t).1.findPiece (s.takeBlock t).2 = some q ∧ s.findPiece (s.takeBlock t).2 = none ∧
      q.anonymous = true ∧ q.state = .atFolder ∧ q.lane = t.lane ∧ q.span = 1#4 <<< (t.lane.number - 1) ∧
      q.exitLead = some t.pos ∧ q.doubt = true ∧ q.article = 0 ∧ q.batch = 0 ∧
      State.creates s (s.takeBlock t).1 q.number q.orderKey ∧
      q.reject = .anonymous ∧ q.window = none ∧
      q.orderKey = t.pos - BitVec.ofInt 32 ((s.mgmt.windows.ironer : Int) + s.matcher.slip.get t.lane) ∧
      q.absorption = some { kind := .exit, matchPos := t.pos, owed := 0,
                            endPos := t.pos + BitVec.ofNat 32 s.mgmt.flow.length } ∧
      (q.ticket = .sent ∨ q.ticket = .pending) ∧
      (s.takeBlock t).1.matcher = { s.matcher with orphanExit := s.matcher.orphanExit + 1 } ∧
      State.recorded s (s.takeBlock t).1 { code := .orphanExit, severity := .piece, piece := some q.number,
                                           site := .eye t.node t.channel, position := some t.pos }) ∧
  (∀ (s : State) (t : Transition), s.candidates t = [] →
    (∀ r ∈ s.pieces.records, r.canAbsorb t.kind t.lane = false) → t.kind = .inlet →
    s.pieces.records.length < 128 →
    ∃ q : Piece, (s.takeBlock t).1.findPiece (s.takeBlock t).2 = some q ∧ q.anonymous = true ∧
      q.state = .inIroner ∧ q.lane = t.lane ∧ q.inletLead = some t.pos ∧ q.doubt = true ∧
      q.reject = .anonymous ∧ s.findPiece (s.takeBlock t).2 = none ∧
      q.span = 1#4 <<< (t.lane.number - 1) ∧ q.orderKey = t.pos ∧ q.article = 0 ∧ q.batch = 0 ∧
      State.creates s (s.takeBlock t).1 q.number t.pos ∧
      q.window = some
        { kind := .exit
          openPt := t.pos + BitVec.ofInt 32 ((s.mgmt.windows.ironer : Int) + s.matcher.slip.get t.lane) -
            BitVec.ofNat 32 s.mgmt.windows.tolE
          expected := t.pos + BitVec.ofInt 32 ((s.mgmt.windows.ironer : Int) + s.matcher.slip.get t.lane)
          closePt := t.pos + BitVec.ofInt 32 ((s.mgmt.windows.ironer : Int) + s.matcher.slip.get t.lane) +
            BitVec.ofNat 32 s.mgmt.windows.tolE } ∧
      q.measurement = some
        { owed := 0, taken := none,
          limit := t.pos + BitVec.ofNat 32 (8000 + s.mgmt.windows.skew +
            s.closeMargin .inlet (1#4 <<< (t.lane.number - 1))) } ∧
      (s.takeBlock t).1.matcher.orphanInlet = s.matcher.orphanInlet + 1 ∧
      State.recorded s (s.takeBlock t).1 { code := .orphanInlet, severity := .piece, piece := some q.number,
                                           site := .eye t.node t.channel, position := some t.pos }) ∧
  (∀ (s : State) (n : Half) (r : Piece) (w : Window), s.findPiece n = some r → r.window = some w →
    s.blind w.kind r.span = false →
    0 < (s.travel.position - (w.closePt + BitVec.ofNat 32 (s.closeMargin w.kind r.span))).toInt →
    s.line.state ≠ .run ∨ s.removesQuietly r.batch = true →
    (w.kind ≠ .laneExit ∨ s.line.state ≠ .run → (s.testWindow n).findPiece n = none) ∧
    (∀ q ∈ s.pieces.records, q.number ≠ n → q ∈ (s.testWindow n).pieces.records) ∧
    (∀ q ∈ (s.testWindow n).pieces.records, (q ∈ s.pieces.records ∧ q.number ≠ n) ∨
      (w.kind = .laneExit ∧ s.line.state = .run ∧ q.state = .granted ∧ q.grantPos = some s.travel.position)) ∧
    (∀ (i : Nat) (b : BatchEntry),
      s.line.state = .suspect ∨ (s.line.state = .run ∧ w.kind ≠ .laneExit) → r.anonymous = false →
      s.placeOf r.batch = some i → s.batchAt i = some b → ¬(b.state = .closing ∧ b.live - 1 = 0) →
      (s.testWindow n).batchAt i = some (if w.kind = .laneExit then { b with live := b.live - 1 }
        else { b with live := b.live - 1 }.count r.article .lost)) ∧
    (s.testWindow n).pieces.lost = s.pieces.lost + (if w.kind = .laneExit then 0 else 1) ∧
    (s.testWindow n).pieces.discharged = s.pieces.discharged ∧
    (w.kind = .laneExit → r.state = .granted → r.anonymous = false →
      ((s.testWindow n).lane r.lane).run = .idle ∧ ((s.testWindow n).lane r.lane).request = none) ∧
    (w.kind = .laneExit → r.state = .granted → State.grantWithdrawn s (s.testWindow n) n) ∧
    State.recorded s (s.testWindow n) { code := (match w.kind with
                                          | .laneExit => .missingRelease
                                          | .inlet => .missingInlet
                                          | .exit => .missingExit)
                                        severity := .piece, piece := some n, site := .lane r.lane, position := none }) ∧
  (∀ (s : State) (n : Half) (r : Piece) (w : Window), s.findPiece n = some r → r.window = some w →
    (s.blind w.kind r.span = false →
      (s.travel.position - (w.closePt + BitVec.ofNat 32 (s.closeMargin w.kind r.span))).toInt ≤ 0) →
    (s.blind w.kind r.span = true → (s.travel.position - w.expected).toInt < 0) → s.testWindow n = s) ∧
  (∀ (s : State) (n : Half) (r : Piece) (w : Window), s.findPiece n = some r → r.window = some w →
    s.blind w.kind r.span = true → 0 ≤ (s.travel.position - w.expected).toInt →
    ∃ (q : Piece), (s.testWindow n).findPiece n = some q ∧
      (w.kind = .laneExit →
        q.laneExitLead = some w.expected ∧ q.state = .onFeed ∧ q.doubt = r.doubt ∧
        ((s.testWindow n).lane r.lane).run = .idle ∧
        ∃ x : Window, q.window = some x ∧ x.kind = .inlet ∧
          x.expected = w.expected + BitVec.ofNat 32 (s.lane r.lane).cfg.feedDist) ∧
      (w.kind = .inlet →
        q.inletLead = some w.expected ∧ q.doubt = true ∧ q.state = .inIroner ∧ q.measurement = none ∧
        q.inletTrail = some (w.expected + BitVec.ofNat 32 (s.lengthBasis r)) ∧ q.trailFinal = true ∧
        q.measured = some (w.expected + BitVec.ofNat 32 (s.lengthBasis r) - w.expected).toInt ∧
        ∃ x : Window, q.window = some x ∧ x.kind = .exit ∧
          x.expected = w.expected + BitVec.ofInt 32 ((s.mgmt.windows.ironer : Int) + s.matcher.slip.get r.lane)) ∧
      (w.kind = .exit →
        q.exitLead = some w.expected ∧ q.state = .atFolder ∧ q.window = none ∧
        (q.ticket = .sent ∨ q.ticket = .pending))) ∧
  (∀ s : State, s.testRecords [] = s ∧
    ∀ (b : Piece) (rest : List Piece), s.testRecords (b :: rest) = (s.testRecord b).testRecords rest) ∧
  (∀ (s : State) (b : Piece), s.findPiece b.number = none → s.testRecord b = s) ∧
  (∀ (s u v : State) (b r : Piece), s.findPiece b.number = some r →
    u = (if b.measurement = none then s.testClearing b.number else (s.testClearing b.number).testLimit b.number) →
    v = (if r.absorption.map (fun a => a.kind) = b.absorption.map (fun a => a.kind) then u.testAbsorption b.number
      else u) →
    s.testRecord b =
      if r.window.map (fun w => w.kind) = b.window.map (fun w => w.kind) then v.testWindow b.number else v) ∧
  ∀ (e : Envelope) (stamp : Stamp) (run : Byte) (s : State) (r : Piece) (w : Window),
    s.admitsOwn (travelFrame e 0 stamp run) = true → s.travel.remainder < 1024 → s.line.state = .suspect →
    s.pieces.records = [r] → r.window = some w → r.measurement = none →
    (∀ x ∈ s.eyes.map, x.dyn.pending = none) → s.blind w.kind r.span = false →
    0 < (s.travel.position - (w.closePt + BitVec.ofNat 32 (s.closeMargin w.kind r.span))).toInt →
    ∃ t : State, exec (.travel e 0 stamp run) s = .next t ∧ t.pieces.records = [] ∧ t.line.state = .suspect ∧
      t.travel.position = s.travel.position ∧
      t.pieces.lost = s.pieces.lost + (if w.kind = .laneExit then 0 else 1)

/-! ### Folder -/

/-- A SLOT_FREE for an OWNED slot discharges its owner: the discharged total counts one for FOLDED and REJECTED and
the lost total for JAMMED; outside RUN the record is gone, and with no pending record of the channel the slot is FREE
(R55, R56, R145); a carried number that is not the owner's is recorded as SLOT_MISMATCH, JAMMED as FOLDER_JAM, and the
owner's TICKET leaves the urgent queue if it still waits, the other frames keeping their order (R145, R176); otherwise
the oldest pending record takes the slot at once, its ticket SENT and the pointer at the other slot (R138, R139). A
record handed over at EXIT takes the slot of the pointer if it is FREE, else the other if that is, and else waits
PENDING until its exit lead plus F (R137, R139). The batch of the discharged record loses one live piece, and an entry
that does not go on to SENDING counts the piece under its article code, as good, flagged with doubt, reject or lost
(R121, R122); stated for SUSPECT, for RUN where the removal sets nothing else going, and for DRAINING with another
record left, which does not enter CONFIG; the last live piece of a CLOSING entry takes it to SENDING, and the last
record of a DRAINING line takes the line to CONFIG, its current batch closed with cause COMMAND (R128, R130, R153).
The count goes to the slot that holds the code, else to the lowest unused slot, which takes the code, else to slot 9,
and saturates at 65535 (R119, R120). -/
def Obligations.SlotFreeDischarges : Prop :=
  (∀ (e : Envelope) (channel slot : Byte) (piece : Half) (outcome : Byte) (s : State) (c : Lane) (n : SlotName)
    (owner : Half) (r : Piece),
    s.admitsOwn (slotFreeFrame e channel slot piece outcome) = true → Lane.ofNumber channel.toNat = some c →
    slotOf slot = some n → 1 ≤ outcome.toNat → outcome.toNat ≤ 3 → (s.channel c).owner n = some owner →
    s.findPiece owner = some r →
    ∃ t : State, exec (.slotFree e channel slot piece outcome) s = .next t ∧
      t.pieces.discharged = s.pieces.discharged + (if outcome.toNat = 3 then 0 else 1) ∧
      t.pieces.lost = s.pieces.lost + (if outcome.toNat = 3 then 1 else 0) ∧
      t.travel = s.travel ∧ t.eyes = s.eyes ∧ t.matcher = s.matcher ∧ State.sameOuter s t ∧
      (s.line.state ≠ .run → t.findPiece owner = none) ∧
      State.servesSlot s t c n owner ∧
      (∀ x ∈ t.port.urgent, x.ticketPiece ≠ some owner) ∧
      (s.port.urgent.filter fun x => x.ticketPiece != some owner && !x.isFeedState).Sublist t.port.urgent ∧
      (∀ mismatch jam : Raised,
        mismatch = { code := .slotMismatch, severity := .noted, piece := some owner, site := .channel c,
                     position := none } →
        jam = { code := .folderJam, severity := .piece, piece := some owner, site := .channel c,
                position := none } →
        s.line.state ≠ .run ∨ s.removesQuietly r.batch = true →
        (piece ≠ owner → outcome.toNat ≠ 3 → State.recorded s t mismatch) ∧
        (piece = owner → outcome.toNat = 3 → State.recorded s t jam) ∧
        (piece ≠ owner → outcome.toNat = 3 → State.recordedTwo s t mismatch jam) ∧
        (piece = owner → outcome.toNat ≠ 3 → t.faults = s.faults)) ∧
      (s.line.state = .draining → s.pieces.records = [r] → State.entersConfig s t .command) ∧
      (∀ (i : Nat) (b d : BatchEntry) (first : Nat), s.line.state = .suspect → r.anonymous = false →
        s.placeOf r.batch = some i → s.batchAt i = some b → b.state = .closing → b.live - 1 = 0 →
        d = { b with live := b.live - 1 }.count r.article
          (if outcome.toNat = 3 then .lost else if outcome.toNat = 2 then .reject
            else if r.doubt then .flagged else .good) →
        d.firstSlot first → piece = owner → outcome.toNat ≠ 3 →
        State.sendsEntry s t i { d with state := .sending, nextSlot := some first }) ∧
      ∀ (i : Nat) (b : BatchEntry),
        (s.line.state = .suspect ∨ (s.line.state = .run ∧ s.removesQuietly r.batch = true) ∨
          (s.line.state = .draining ∧ ∃ q ∈ s.pieces.records, q.number ≠ owner)) →
        r.anonymous = false → s.placeOf r.batch = some i →
        s.batchAt i = some b → ¬(b.state = .closing ∧ b.live - 1 = 0) →
        t.batchAt i = some ({ b with live := b.live - 1 }.count r.article
          (if outcome.toNat = 3 then .lost else if outcome.toNat = 2 then .reject
            else if r.doubt then .flagged else .good))) ∧
  (∀ (s : State) (n : Half) (r : Piece), s.findPiece n = some r →
    ((s.channel r.lane).owner (s.channel r.lane).next = none →
      s.handOver n = s.assignSlot r.lane (s.channel r.lane).next r) ∧
    ((s.channel r.lane).owner (s.channel r.lane).next ≠ none →
      (s.channel r.lane).owner (s.channel r.lane).next.other = none →
      s.handOver n = s.assignSlot r.lane (s.channel r.lane).next.other r) ∧
    ((s.channel r.lane).owner .x ≠ none → (s.channel r.lane).owner .y ≠ none → ∀ p : Pos, r.exitLead = some p →
      s.handOver n = { s with pieces := { s.pieces with
        records := s.pieces.records.map fun q =>
          if q.number = n then
            { q with ticket := .pending, deadline := some (p + BitVec.ofNat 32 (s.lane r.lane).cfg.arming) }
          else q } })) ∧
  (∀ (b : BatchEntry) (code : Byte) (k : CountName) (i : Nat) (x : TallySlot), b.slots[i]? = some x →
    (∀ j y, j < i → b.slots[j]? = some y → y.code ≠ some code) →
    (x.code = some code ∨
      (x.code = none ∧ (∀ y ∈ b.slots, y.code ≠ some code) ∧
        ∀ j y, j < i → b.slots[j]? = some y → y.code ≠ none)) →
    b.count code k = { b with slots := b.slots.set i { code := some code, counts := x.counts.bump k } }) ∧
  (∀ (b : BatchEntry) (code : Byte) (k : CountName), (∀ y ∈ b.slots, y.code ≠ some code ∧ y.code ≠ none) →
    b.count code k = { b with other := b.other.bump k }) ∧
  ∀ a : Tally,
    a.bump .good = { a with good := if a.good < 65535 then a.good + 1 else 65535 } ∧
    a.bump .flagged = { a with flagged := if a.flagged < 65535 then a.flagged + 1 else 65535 } ∧
    a.bump .reject = { a with reject := if a.reject < 65535 then a.reject + 1 else 65535 } ∧
    a.bump .lost = { a with lost := if a.lost < 65535 then a.lost + 1 else 65535 }

/-- A SLOT_FREE with a channel outside 1..4, an unknown slot or an unknown outcome changes nothing; one for
a FREE slot only records SLOT_NOT_OWNED with the carried number (R144). -/
def Obligations.SlotFreeSetAside : Prop :=
  (∀ (e : Envelope) (channel slot : Byte) (piece : Half) (outcome : Byte) (s : State),
    s.admitsOwn (slotFreeFrame e channel slot piece outcome) = true →
    (channel.toNat = 0 ∨ 4 < channel.toNat ∨ 1 < slot.toNat ∨ outcome.toNat = 0 ∨ 3 < outcome.toNat) →
    exec (.slotFree e channel slot piece outcome) s =
      .next (s.received.passOn ((slotFreeFrame e channel slot piece outcome).withMark markTaken))) ∧
  ∀ (e : Envelope) (channel slot : Byte) (piece : Half) (outcome : Byte) (s : State) (c : Lane) (n : SlotName),
    s.admitsOwn (slotFreeFrame e channel slot piece outcome) = true → Lane.ofNumber channel.toNat = some c →
    slotOf slot = some n → 1 ≤ outcome.toNat → outcome.toNat ≤ 3 → (s.channel c).owner n = none →
    ∃ t : State, exec (.slotFree e channel slot piece outcome) s = .next t ∧ t.pieces = s.pieces ∧
      t.feed = s.feed ∧ t.batch = s.batch ∧ t.line = s.line ∧ State.sameTracking s t ∧ State.sameOuter s t ∧
      State.recorded s t { code := .slotNotOwned, severity := .noted, piece := some piece, site := .channel c,
                           position := none }

/-- The program and the reason of a TICKET, chosen from the record as it stands when its slot is assigned (R140): a
reject reason gives program 0 and itself; doubt under policy REJECT gives program 0 and DOUBT; any other record its
snapshot's program and NONE. The TICKET carries the record's number, article, span, measured length if it has one,
batch and doubt mark (R141). The record's reason afterwards is the one carried, and the slot is then OWNED by the
record with the pointer at the other slot (R138). -/
def Obligations.ProgramChosen : Prop :=
  ∀ (s : State) (c : Lane) (n : SlotName) (r : Piece) (program : Byte) (reason : RejectReason),
    ((r.reject ≠ .none ∧ program = 0 ∧ reason = r.reject) ∨
      (r.reject = .none ∧ r.doubt = true ∧ program = 0 ∧ reason = .doubt ∧
        ∃ a : ArticleData, r.snapshot = some a ∧ a.policy = .reject) ∨
      (r.reject = .none ∧ reason = .none ∧
        ∃ a : ArticleData, r.snapshot = some a ∧ (r.doubt = false ∨ a.policy = .foldFlagged) ∧
          program = a.program)) →
    (∃ k : Ticket, k.program = program ∧ k.reason = reason ∧ k.channel = c ∧ k.slot = n ∧
      k.piece = r.number ∧ k.doubt = r.doubt ∧ k.article = r.article ∧ k.span = r.span ∧ k.length = r.measured ∧
      k.batch = r.batch ∧
      (s.assignSlot c n r).port.urgent = s.port.urgent ++
        [{ dest := s.mgmt.line.folder, msg := .ticket k, suspect := s.line.state == LineState.suspect }]) ∧
    (∀ q : Piece, (s.assignSlot c n r).findPiece r.number = some q →
      q.reject = reason ∧ q.ticket = .sent ∧ q.ticketSlot = some (c, n)) ∧
    ((s.assignSlot c n r).channel c).owner n = some r.number ∧
    ((s.assignSlot c n r).channel c).next = n.other

/-! ### Returns of the part's own frames -/

/-- A GRANT home busy for a record in GRANTED: the record goes untallied with GRANT_BUSY, its batch loses one live
piece, the occupancy falls by one, and its lane is READY with the record's request at the front of the order; with
neither mark it goes untallied with LANE_ABSENT and its lane is OFFLINE; for a record past GRANTED the table and the
lanes stand and the fault alone is recorded (R108, R111 to R114, R121). A TICKET home busy or not taken: the record
goes as UNDELIVERED, tallied as reject, with TICKET_UNDELIVERED, and its slot is FREE with no pending record of the
channel, and otherwise serves the oldest at once, its ticket SENT and the pointer at the other slot (R55, R122, R138,
R139, R142). What else may follow is left open where it can: in RUN a choice, or a hold flag that clears, may grant
again; in DRAINING an emptied table enters CONFIG, the current batch closed with cause COMMAND (R128, R153). That
LANE_ABSENT names the node address the lane table holds at the recording is the model's reading (log 21). A PENDING
ticket whose deadline the position has passed: the record goes as OVERRUN, tallied as reject, with TICKET_OVERRUN
(R122, R143). -/
def Obligations.GrantAndTicketReturnJudged : Prop :=
  (∀ (e : Envelope) (lane span : Byte) (piece : Half) (s : State) (r : Piece),
    s.comesHome (grantFrame e lane span piece) = true → s.findPiece piece = some r → r.state = .granted →
    r.anonymous = false → isBusy e.marks = true →
    ∃ t : State, exec (.grantReturn e lane span piece) s = .next t ∧
      t.pieces.discharged = s.pieces.discharged ∧ t.pieces.lost = s.pieces.lost ∧
      State.sameTracking s t ∧ State.sameOuter s t ∧
      (((t.lane r.lane).run = .ready ∧ (t.lane r.lane).request = some r.request) ∨
        (s.line.state = .run ∧ (t.lane r.lane).run = .granted) ∨
        (s.line.state = .draining ∧ t.line.state = .config ∧ (t.lane r.lane).run = .idle)) ∧
      (s.line.state ≠ .run ∨ s.removesQuietly r.batch = true →
        t.findPiece piece = none ∧ t.pieces.records = s.pieces.records.filter (fun q => q.number != piece) ∧
        t.feed.occupancy = s.feed.occupancy - 1 ∧
        State.recorded s t { code := .grantBusy, severity := .noted, piece := some piece, site := .lane r.lane,
                             position := none }) ∧
      (s.line.state = .draining → s.pieces.records = [r] → State.entersConfig s t .command) ∧
      (s.line.state = .suspect ∨ (s.line.state = .run ∧ s.removesQuietly r.batch = true) →
        (t.lane r.lane).run = .ready ∧ (t.lane r.lane).request = some r.request ∧
        t.feed.order = r.lane :: s.feed.order.filter (· != r.lane) ∧
        ∀ (i : Nat) (b : BatchEntry), s.placeOf r.batch = some i → s.batchAt i = some b →
          ¬(b.state = .closing ∧ b.live - 1 = 0) → t.batchAt i = some { b with live := b.live - 1 })) ∧
  (∀ (e : Envelope) (lane span : Byte) (piece : Half) (s : State) (r : Piece),
    s.comesHome (grantFrame e lane span piece) = true → s.findPiece piece = some r → r.state = .granted →
    r.anonymous = false → isBusy e.marks = false → isTaken e.marks = false →
    ∃ t : State, exec (.grantReturn e lane span piece) s = .next t ∧ (t.lane r.lane).run = .offline ∧
      (t.lane r.lane).request = none ∧ t.pieces.discharged = s.pieces.discharged ∧
      t.pieces.lost = s.pieces.lost ∧ State.sameTracking s t ∧ State.sameOuter s t ∧
      (s.line.state ≠ .run ∨ s.removesQuietly r.batch = true →
        t.findPiece piece = none ∧ t.pieces.records = s.pieces.records.filter (fun q => q.number != piece) ∧
        t.feed.occupancy = s.feed.occupancy - 1 ∧
        State.recorded s t { code := .laneAbsent, severity := .piece, piece := some piece,
                             site := .node (s.lane r.lane).cfg.node, position := none }) ∧
      (s.line.state = .draining → s.pieces.records = [r] → State.entersConfig s t .command) ∧
      (s.line.state = .suspect ∨ (s.line.state = .run ∧ s.removesQuietly r.batch = true) →
        ∀ (i : Nat) (b : BatchEntry), s.placeOf r.batch = some i → s.batchAt i = some b →
          ¬(b.state = .closing ∧ b.live - 1 = 0) → t.batchAt i = some { b with live := b.live - 1 })) ∧
  (∀ (e : Envelope) (lane span : Byte) (piece : Half) (s : State) (r : Piece),
    s.comesHome (grantFrame e lane span piece) = true → s.findPiece piece = some r → r.state ≠ .granted →
    isBusy e.marks = true ∨ isTaken e.marks = false →
    ∃ t : State, exec (.grantReturn e lane span piece) s = .next t ∧ t.pieces = s.pieces ∧ t.feed = s.feed ∧
      t.line = s.line ∧ t.batch = s.batch ∧ State.sameTracking s t ∧ State.sameOuter s t ∧
      (isBusy e.marks = true →
        State.recorded s t { code := .grantBusy, severity := .noted, piece := some piece, site := .lane r.lane,
                             position := none }) ∧
      (isBusy e.marks = false →
        State.recorded s t { code := .laneAbsent, severity := .piece, piece := some piece,
                             site := .node (s.lane r.lane).cfg.node, position := none })) ∧
  (∀ (e : Envelope) (k : TicketFields) (s : State) (c : Lane) (n : SlotName) (r : Piece),
    s.comesHome (ticketFrame e k) = true → Lane.ofNumber k.channel.toNat = some c → slotOf k.slot = some n →
    s.ticketMatch c n k.piece = some r → isTaken e.marks = false ∨ isBusy e.marks = true →
    ∃ t : State, exec (.ticketReturn e k) s = .next t ∧ t.pieces.discharged = s.pieces.discharged + 1 ∧
      t.pieces.lost = s.pieces.lost ∧ t.travel = s.travel ∧ t.eyes = s.eyes ∧ t.matcher = s.matcher ∧
      State.sameOuter s t ∧
      State.servesSlot s t c n r.number ∧
      (s.line.state ≠ .run ∨ s.removesQuietly r.batch = true →
        t.findPiece k.piece = none ∧
        (r.anonymous = false → t.feed.occupancy = s.feed.occupancy - 1) ∧
        State.recorded s t { code := .ticketUndelivered, severity := .piece, piece := some k.piece,
                             site := .channel c, position := none }) ∧
      (s.line.state = .draining → s.pieces.records = [r] → State.entersConfig s t .command) ∧
      (s.line.state = .suspect ∨ (s.line.state = .run ∧ s.removesQuietly r.batch = true) →
        r.anonymous = false →
        ∀ (i : Nat) (b : BatchEntry), s.placeOf r.batch = some i → s.batchAt i = some b →
          ¬(b.state = .closing ∧ b.live - 1 = 0) →
          t.batchAt i = some ({ b with live := b.live - 1 }.count r.article .reject))) ∧
  (∀ (s : State) (r : Piece) (d : Pos), s.findPiece r.number = some r → r.deadline = some d →
    0 < (s.travel.position - d).toInt →
    (s.testDeadline r).pieces.discharged = s.pieces.discharged + 1 ∧
    (s.testDeadline r).pieces.lost = s.pieces.lost ∧ (s.testDeadline r).folder = s.folder ∧
    (s.line.state ≠ .run ∨ s.removesQuietly r.batch = true →
      (s.testDeadline r).findPiece r.number = none ∧
      (r.anonymous = false → (s.testDeadline r).feed.occupancy = s.feed.occupancy - 1) ∧
      State.recorded s (s.testDeadline r) { code := .ticketOverrun, severity := .piece, piece := some r.number,
                                            site := .channel r.lane, position := none }) ∧
    (s.line.state = .draining → s.pieces.records = [r] → State.entersConfig s (s.testDeadline r) .command) ∧
    (s.line.state = .suspect ∨ (s.line.state = .run ∧ s.removesQuietly r.batch = true) → r.anonymous = false →
      ∀ (i : Nat) (b : BatchEntry), s.placeOf r.batch = some i → s.batchAt i = some b →
        ¬(b.state = .closing ∧ b.live - 1 = 0) →
        (s.testDeadline r).batchAt i = some ({ b with live := b.live - 1 }.count r.article .reject))) ∧
  ∀ (s : State) (r : Piece) (d : Pos), r.deadline = some d → (s.travel.position - d).toInt ≤ 0 → s.testDeadline r = s

/-- The return of an own frame removes the oldest equal entry of the own-frame list. A GRANT home taken, or one
that names no record, does nothing else (R111, R114); a TICKET home taken makes its record's ticket DELIVERED and
leaves the slot OWNED, and one that matches no record does nothing else (R142); nor does a frame of any other
kind. An own frame that matches no entry records ADDRESS_CLASH and leaves the list as it was (R169). -/
def Obligations.OwnFrameReturnHandled : Prop :=
  (∀ (e : Envelope) (lane span : Byte) (piece : Half) (s : State),
    s.comesHome (grantFrame e lane span piece) = true →
    (s.findPiece piece = none ∨ (isTaken e.marks = true ∧ isBusy e.marks = false)) →
    exec (.grantReturn e lane span piece) s = .next (s.home (grantFrame e lane span piece))) ∧
  (∀ (e : Envelope) (k : TicketFields) (s : State) (c : Lane) (n : SlotName) (r : Piece),
    s.comesHome (ticketFrame e k) = true → Lane.ofNumber k.channel.toNat = some c → slotOf k.slot = some n →
    s.ticketMatch c n k.piece = some r → isTaken e.marks = true → isBusy e.marks = false →
    exec (.ticketReturn e k) s =
      .next { s.home (ticketFrame e k) with
        pieces := { s.pieces with
          records := s.pieces.records.map fun q => if q.number = r.number then { q with ticket := .delivered } else q } }) ∧
  (∀ (e : Envelope) (k : TicketFields) (s : State) (c : Lane) (n : SlotName),
    s.comesHome (ticketFrame e k) = true → Lane.ofNumber k.channel.toNat = some c → slotOf k.slot = some n →
    s.ticketMatch c n k.piece = none → exec (.ticketReturn e k) s = .next (s.home (ticketFrame e k))) ∧
  (∀ (e : Envelope) (kind : Byte) (body : List Byte) (s : State), s.comesHome (envFrame e kind body) = true →
    kind.toNat ≠ 6 → kind.toNat ≠ 8 →
    exec (.ownFrameReturn e kind body) s = .next (s.home (envFrame e kind body))) ∧
  ∀ (e : Envelope) (kind : Byte) (body : List Byte) (s : State), s.pins.resetHeld = false →
    (envFrame e kind body).intact = true → e.src = s.port.own → s.comesHome (envFrame e kind body) = false →
    ∃ t : State, exec (.ownFrameReturn e kind body) s = .next t ∧ t.port.ownList = s.port.ownList ∧
      t.port.transit = s.port.transit ∧ t.pieces = s.pieces ∧ t.feed = s.feed ∧ t.line = s.line ∧
      State.sameTracking s t ∧ State.sameOuter s t ∧
      State.recorded s t { code := .addressClash, severity := .noted, piece := none, site := .node e.dest,
                           position := none }

/-! ### Ring Out and the waiting blocks -/

/-- An idle Ring Out sends the oldest transit frame; a completed frame leaves it idle; neither touches
anything else, and a busy Ring Out or an empty buffer begins nothing (R172). -/
def Obligations.RingOutMoves : Prop :=
  (∀ (s : State) (f : Frame) (rest : List Frame), s.pins.resetHeld = false → s.port.out = .idle →
    s.port.transit = f :: rest →
    exec .transitForward s = .next { s with port := { s.port with transit := rest, out := .sending f } }) ∧
  (∀ s : State, s.port.out ≠ .idle ∨ s.port.transit = [] → exec .transitForward s = .next s) ∧
  ∀ s : State, s.pins.resetHeld = false →
    exec .ringOutComplete s = .next { s with port := { s.port with out := .idle } }

/-- An insertion takes the oldest urgent frame, else the oldest routine frame: it leaves its queue, goes to
Ring Out with the own address as source and clear marks but for a TICKET's suspect mark, and takes an
entry of age 0. A freed routine place goes to the first block that waits: an owed LINE_STATE, then an OWED
hold-off's ALERT, then the next TALLY of the entry at the front of the send order. Without an idle Ring Out, an empty
transit buffer, a free entry and a waiting frame nothing happens (R173, R175). -/
def Obligations.FrameInserted : Prop :=
  (∀ (s : State) (q : Queued) (rest : List Queued), s.pins.resetHeld = false → s.port.out = .idle →
    s.port.transit = [] → s.port.ownList.length < 32 → s.port.urgent = q :: rest →
    exec .frameInsert s =
      .next { s with
        port := { s.port with
          urgent := rest
          out := .sending (Frame.sealed
            { dest := q.dest, src := s.port.own, kind := q.msg.kind, marks := if q.suspect then 8 else 0,
              body := q.msg.body, check := 0 })
          ownList := s.port.ownList ++ [{ dest := q.dest, kind := q.msg.kind, body := q.msg.body, age := 0 }] } }) ∧
  (∀ (s : State) (q : Queued) (rest : List Queued), s.pins.resetHeld = false → s.port.out = .idle →
    s.port.transit = [] → s.port.ownList.length < 32 → s.port.urgent = [] → s.port.routine = q :: rest →
    rest.length < 16 → s.port.reserved = false → s.faults.holdoff ≠ .owed → s.batch.sendOrder = [] →
    exec .frameInsert s =
      .next { s with
        line := { s.line with owed := false }
        port := { s.port with
          routine := if s.line.owed = true then
              rest ++ [{ dest := 31, msg := .lineState s.line.state s.line.cause, suspect := false }]
            else rest
          out := .sending (q.frame s.port.own)
          ownList := s.port.ownList ++ [q.entry] } }) ∧
  (∀ (s : State) (q : Queued) (rest : List Queued), s.pins.resetHeld = false → s.port.out = .idle →
    s.port.transit = [] → s.port.ownList.length < 32 → s.port.urgent = [] → s.port.routine = q :: rest →
    rest.length < 16 → s.port.reserved = false → s.line.owed = true →
    exec .frameInsert s =
      .next { s with
        line := { s.line with owed := false }
        port := { s.port with
          routine := rest ++ [{ dest := 31, msg := .lineState s.line.state s.line.cause, suspect := false }]
          out := .sending (q.frame s.port.own)
          ownList := s.port.ownList ++ [q.entry] } }) ∧
  (∀ (s : State) (q : Queued) (rest : List Queued) (m : Merged), s.pins.resetHeld = false → s.port.out = .idle →
    s.port.transit = [] → s.port.ownList.length < 32 → s.port.urgent = [] → s.port.routine = q :: rest →
    rest.length < 16 → s.port.reserved = false → s.line.owed = false → s.faults.holdoff = .owed →
    s.faults.acc = some m →
    exec .frameInsert s =
      .next { s with
        faults := { s.faults with acc := none, holdoff := .running 0 }
        port := { s.port with
          routine := rest ++ [{ dest := 0, msg := .alert m, suspect := false }]
          out := .sending (q.frame s.port.own)
          ownList := s.port.ownList ++ [q.entry] } }) ∧
  (∀ (s : State) (q : Queued) (rest : List Queued) (i : Nat) (b : BatchEntry) (order : List Nat),
    s.pins.resetHeld = false → s.port.out = .idle →
    s.port.transit = [] → s.port.ownList.length < 32 → s.port.urgent = [] → s.port.routine = q :: rest →
    rest.length < 16 → s.port.reserved = false → s.line.owed = false → s.faults.holdoff ≠ .owed →
    s.batch.sendOrder = i :: order → s.batchAt i = some b →
    ∃ (t : State) (more : List Queued), exec .frameInsert s = .next t ∧
      t.port.routine = rest ++ { dest := 0, msg := .tally b.report, suspect := false } :: more ∧
      (rest.length = 15 → more = []) ∧ t.port.out = .sending (q.frame s.port.own) ∧
      t.port.ownList = s.port.ownList ++ [q.entry] ∧ t.line = s.line ∧ State.sameTracking s t ∧
      State.sameOuter s t) ∧
  ∀ s : State,
    (s.port.out ≠ .idle ∨ s.port.transit ≠ [] ∨ 32 ≤ s.port.ownList.length ∨
      (s.port.urgent = [] ∧ s.port.routine = [])) →
    exec .frameInsert s = .next s

/-- The waiting blocks: an owed LINE_STATE is queued with the state and cause as they stand; an OWED hold-off queues
its ALERT and runs from 0; the front SENDING entry queues its next TALLY at the next place. A TALLY carries the
entry's number and cause, the slot to send, the last-slot flag where no slot in use follows, and the slot's article
code and counts, 255 for slot 9 and 0 throughout for slot 0. After it the entry's next slot is the next in use;
after the last the entry's place is empty, it leaves the send order, and a choice is made. The sending goes on in
the same way while a place is free and an entry waits (R120, R123, R131). With no free place none of them changes
anything (R131, R149, R160, R175). -/
def Obligations.WaitingBlocksQueue : Prop :=
  (∀ s : State, s.pins.resetHeld = false → s.line.owed = true → s.freePlaces ≠ 0 →
    exec .lineStateQueue s =
      .next { s with
        port := { s.port with
          routine := s.port.routine ++
            [{ dest := 31, msg := .lineState s.line.state s.line.cause, suspect := false }] }
        line := { s.line with owed := false } }) ∧
  (∀ (s : State) (m : Merged), s.pins.resetHeld = false → s.faults.holdoff = .owed → s.faults.acc = some m →
    s.freePlaces ≠ 0 →
    exec .alertQueue s =
      .next { s with
        port := { s.port with routine := s.port.routine ++ [{ dest := 0, msg := .alert m, suspect := false }] }
        faults := { s.faults with acc := none, holdoff := .running 0 } }) ∧
  (∀ (s : State) (i : Nat) (b : BatchEntry) (rest : List Nat), s.pins.resetHeld = false →
    s.batch.sendOrder = i :: rest → s.batchAt i = some b → s.freePlaces ≠ 0 →
    ∃ (t : State) (more : List Queued), exec .tallyQueue s = .next t ∧
      t.port.routine = s.port.routine ++ { dest := 0, msg := .tally b.report, suspect := false } :: more ∧
      t.line = s.line ∧ State.sameTracking s t ∧ State.sameOuter s t) ∧
  (∀ (b : BatchEntry) (n : Nat), n ∈ b.used ↔
    (∃ (i : Nat) (x : TallySlot) (a : Byte), i < 8 ∧ n = i + 1 ∧ b.slots[i]? = some x ∧ x.code = some a) ∨
      (n = 9 ∧ (0 < b.other.good ∨ 0 < b.other.flagged ∨ 0 < b.other.reject ∨ 0 < b.other.lost))) ∧
  (∀ (b : BatchEntry) (n : Nat) (c : ClosureCause), b.nextSlot = some n → b.cause = some c →
    b.report.batch = b.number ∧ b.report.cause = c ∧ b.report.slot = n ∧
    (b.report.last = true ↔ n = 0 ∨ ∀ j ∈ b.used, j ≤ n) ∧
    (n = 0 → b.report.article = 0 ∧ b.report.counts = { good := 0, flagged := 0, reject := 0, lost := 0 }) ∧
    (n = 9 → b.report.article = 255 ∧ b.report.counts = b.other) ∧
    ∀ (i : Nat) (x : TallySlot) (a : Byte), i < 8 → n = i + 1 → b.slots[i]? = some x → x.code = some a →
      b.report.article = a ∧ b.report.counts = x.counts) ∧
  (∀ (s : State) (i n : Nat) (b : BatchEntry) (rest : List Nat), s.pins.resetHeld = false →
    s.batch.sendOrder = i :: rest → s.batchAt i = some b → b.nextSlot = some n → s.freePlaces ≠ 0 →
    (∀ k : Nat, n ≠ 0 → k ∈ b.used → n < k → (∀ j ∈ b.used, n < j → k ≤ j) →
      exec .tallyQueue s = exec .tallyQueue { s with
        port := { s.port with
          routine := s.port.routine ++ [{ dest := 0, msg := .tally b.report, suspect := false }] }
        batch := { s.batch with places := s.batch.places.set i (some { b with nextSlot := some k }) } }) ∧
    ((n = 0 ∨ ∀ j ∈ b.used, j ≤ n) →
      exec .tallyQueue s = exec .tallyQueue (State.choose { s with
        port := { s.port with
          routine := s.port.routine ++ [{ dest := 0, msg := .tally b.report, suspect := false }] }
        batch := { s.batch with places := s.batch.places.set i none, sendOrder := rest } }))) ∧
  (∀ s : State, s.pins.resetHeld = false → s.batch.sendOrder = [] → exec .tallyQueue s = .next s) ∧
  ∀ s : State, s.freePlaces = 0 →
    exec .lineStateQueue s = .next s ∧ exec .alertQueue s = .next s ∧ exec .tallyQueue s = .next s

/-! ### Requests -/

/-- A REQUEST that finds no free place is not performed, whatever its body: it goes on marked busy, and
nothing else changes (R170, R175). -/
def Obligations.RequestBusy : Prop :=
  ∀ (e : Envelope) (body : List Byte) (s : State), s.admitsOwn (requestFrame e body) = true → body ≠ [] →
    s.freePlaces = 0 →
    exec (.badRequest e body) s = .next (s.received.passOn ((requestFrame e body).withMark markBusy)) ∧
    exec (.frameReceive (requestFrame e body).wire) s =
      .next (s.received.passOn ((requestFrame e body).withMark markBusy))

/-- SEEK with a known table and an index below its entry count sets the cursor and answers DONE with both;
any other SEEK answers BAD_INDEX and moves nothing (R181). -/
def Obligations.SeekSetsCursor : Prop :=
  (∀ (e : Envelope) (table index : Byte) (s : State) (t : Table),
    s.admitsRequest (requestFrame e [1, table, index]) = true → Table.ofNumber table.toNat = some t →
    index.toNat < t.entries →
    exec (.seek e table index) s =
      .next ({ s.received with mgmt := { s.mgmt with table := t, index := index.toNat } }.answered
        (requestFrame e [1, table, index]) 0 [table, index])) ∧
  ∀ (e : Envelope) (table index : Byte) (s : State),
    s.admitsRequest (requestFrame e [1, table, index]) = true →
    (Table.ofNumber table.toNat = none ∨ ∃ t, Table.ofNumber table.toNat = some t ∧ t.entries ≤ index.toNat) →
    exec (.seek e table index) s = .next (s.received.answered (requestFrame e [1, table, index]) 3 [])

/-- GET answers DONE with table, index, part and the part's content, the last part marked with bit 7 and
stepping the cursor, and changes nothing else but the model's own free-value counter (log 16); past the
last entry it answers BAD_INDEX, and past the last part BAD_VALUE (R182). Stated byte by byte by section 10.6:
STATUS parts 0 and 3 (R187), LANE part 0 (R118), PIECE part 0 (R62), BATCH parts 1 to 8 (R133), a FAULT whose
where is a lane (R159; that the lane stands in the low byte of the two with 0 above it is the model's reading, log
21), and the bytes coded as absent in an empty PIECE, BATCH or FAULT entry (log 16); the content of
the other parts is the layout function that the model's GET uses. -/
def Obligations.GetReadsEntry : Prop :=
  (∀ (e : Envelope) (part : Byte) (s : State), s.admitsRequest (requestFrame e [3, part]) = true →
    s.mgmt.index < s.mgmt.table.entries → part.toNat < s.mgmt.table.parts →
    ∃ data : List Byte,
      data = fillFrom s.freeIndex 0 (s.content s.mgmt.table s.mgmt.index part.toNat) ∧
      exec (.get e part) s =
        .next ({ s.received with
          freeIndex := s.freeIndex + 1
          mgmt := { s.mgmt with
            index := if part.toNat + 1 = s.mgmt.table.parts then s.mgmt.index + 1 else s.mgmt.index } }.answered
          (requestFrame e [3, part]) 0
          ([BitVec.ofNat 8 s.mgmt.table.number, BitVec.ofNat 8 s.mgmt.index,
            BitVec.ofNat 8 (if part.toNat + 1 = s.mgmt.table.parts then part.toNat + 128 else part.toNat)] ++ data)) ∧
      (s.mgmt.table = .status → part.toNat = 3 →
        data = bytes32 s.pieces.granted ++ bytes32 s.pieces.discharged ++ bytes32 s.pieces.lost) ∧
      (s.mgmt.table = .status → part.toNat = 0 →
        data = [(match s.line.state with | .config => 0 | .run => 1 | .draining => 2 | .suspect => 3),
                BitVec.ofNat 8 (match s.line.cause with | none => 0 | some f => f.number),
                BitVec.ofNat 8 s.feed.occupancy, (if s.feed.hold then 1 else 0), (if s.feed.fhold then 1 else 0),
                (if s.travel.running then 1 else 0)] ++
          bytes16 (match s.currentBatch with | none => 0 | some n => n) ++
          [(match s.batch.block with | none => 0 | some .numberHeld => 1 | some .listFull => 2),
           BitVec.ofNat 8 s.faults.overflow, s.port.own] ++
          bytes32 s.travel.position ++ bytes24 s.travel.ringTime) ∧
      (∀ (l : Lane) (q : LaneRequest), s.mgmt.table = .lane → part.toNat = 0 → l.number = s.mgmt.index + 1 →
        (s.lane l).request = some q →
        data = [(if (s.lane l).cfg.enabled then 1 else 0), (s.lane l).cfg.node, BitVec.ofNat 8 (s.lane l).cfg.level,
                (s.lane l).cfg.widths] ++
          bytes16 (BitVec.ofNat 16 (s.lane l).cfg.release) ++ bytes16 (BitVec.ofNat 16 (s.lane l).cfg.grantDist) ++
          bytes16 (BitVec.ofNat 16 (s.lane l).cfg.feedDist) ++ bytes16 (BitVec.ofNat 16 (s.lane l).cfg.arming) ++
          [(match (s.lane l).run with | .offline => 0 | .idle => 1 | .ready => 2 | .granted => 3),
           q.span.setWidth 8, q.article] ++ bytes16 q.batch ++
          [BitVec.ofNat 8 (s.lane l).early,
           (match s.feed.order.findIdx? (· == l) with | none => 255 | some place => BitVec.ofNat 8 place)]) ∧
      (∀ (l : Lane), s.mgmt.table = .lane → part.toNat = 0 → l.number = s.mgmt.index + 1 →
        (s.lane l).request = none → data[13]? = some 0) ∧
      (∀ (r : Piece) (c : Lane) (n : SlotName), s.mgmt.table = .piece → part.toNat = 0 →
        s.pieces.records[s.mgmt.index]? = some r → r.ticketSlot = some (c, n) →
        data = bytes16 r.number ++
          [(if r.anonymous then 1 else 0),
           (match r.state with | .granted => 1 | .onFeed => 2 | .inIroner => 3 | .atFolder => 4),
           BitVec.ofNat 8 r.lane.number, r.span.setWidth 8, r.article] ++ bytes16 r.batch ++
          [(if r.doubt then 1 else 0), BitVec.ofNat 8 r.reject.number,
           (match r.ticket with | .none => 0 | .pending => 1 | .sent => 2 | .delivered => 3),
           BitVec.ofNat 8 c.number, (match n with | .x => 0 | .y => 1), (if r.trailFinal then 1 else 0)] ++
          bytes32 r.orderKey) ∧
      (∀ (b : BatchEntry) (x : TallySlot), s.mgmt.table = .batch → 1 ≤ part.toNat → part.toNat ≤ 8 →
        s.batchAt s.mgmt.index = some b → b.slots[part.toNat - 1]? = some x →
        data = bytes16 b.number ++ [(match x.code with | none => 0 | some a => a)] ++
          bytes16 (BitVec.ofNat 16 x.counts.good) ++ bytes16 (BitVec.ofNat 16 x.counts.flagged) ++
          bytes16 (BitVec.ofNat 16 x.counts.reject) ++ bytes16 (BitVec.ofNat 16 x.counts.lost)) ∧
      (∀ (r : FaultRecord) (l : Lane), s.mgmt.table = .fault → s.faults.list[s.mgmt.index]? = some r →
        r.site = .lane l →
        data = [BitVec.ofNat 8 r.code.number,
                (match r.severity with | .noted => 0 | .piece => 1 | .doubt => 2 | .line => 3)] ++
          bytes24 r.stamp ++ bytes32 r.position ++ bytes16 (match r.piece with | none => 0 | some n => n) ++
          [2, 0, BitVec.ofNat 8 l.number, (if r.suspect then 1 else 0)]) ∧
      (s.mgmt.table = .piece → s.pieces.records.length ≤ s.mgmt.index →
        data.take 2 = [0, 0] ∧ (part.toNat = 0 → data.length = 19 ∧ data[12]? = some 0) ∧
        (part.toNat = 1 → data.length = 17 ∧ data[2]? = some 0 ∧ data.drop 15 = [0xFF, 0xFF]) ∧
        (part.toNat = 2 → data.length = 17 ∧ data[2]? = some 0 ∧
          data.drop 11 = [0x80, 0x00, 0x80, 0x00, 0x80, 0x00]) ∧
        (part.toNat = 3 → data.length = 15 ∧ data[2]? = some 0) ∧
        (part.toNat = 4 → data.length = 14 ∧ data[2]? = some 0 ∧ data[3]? = some 0)) ∧
      (s.mgmt.table = .batch → s.batchAt s.mgmt.index = none →
        data.take 2 = [0, 0] ∧
        (part.toNat = 0 → data.length = 9 ∧ data[4]? = some 0 ∧ data[5]? = some 255 ∧ data[6]? = some 0) ∧
        (1 ≤ part.toNat → part.toNat ≤ 8 → data.length = 11 ∧ data[2]? = some 0)) ∧
      (s.mgmt.table = .fault → s.faults.list.length ≤ s.mgmt.index →
        data.length = 15 ∧ data[0]? = some 0 ∧ data[9]? = some 0 ∧ data[10]? = some 0 ∧ data[11]? = some 0)) ∧
  (∀ (e : Envelope) (part : Byte) (s : State), s.admitsRequest (requestFrame e [3, part]) = true →
    s.mgmt.table.entries ≤ s.mgmt.index →
    exec (.get e part) s = .next (s.received.answered (requestFrame e [3, part]) 3 [])) ∧
  ∀ (e : Envelope) (part : Byte) (s : State), s.admitsRequest (requestFrame e [3, part]) = true →
    s.mgmt.index < s.mgmt.table.entries → s.mgmt.table.parts ≤ part.toNat →
    exec (.get e part) s = .next (s.received.answered (requestFrame e [3, part]) 4 [])

/-- A PUT is refused in the order of R183 (R180 for the length): READ_ONLY for a table that cannot be written,
BAD_INDEX past the last entry, BAD_REQUEST for a length other than the entry's, REFUSED_MODE for an EYE entry or
path entry 0 or 1 outside CONFIG and for a LANE entry in DRAINING and SUSPECT, BUSY for a LANE entry in RUN whose
lane is READY or GRANTED, BAD_VALUE for an entry that fails its checks (R22, R92, R183, R184, R185); a refused
PUT changes nothing. -/
def Obligations.PutRefused : Prop :=
  (∀ (e : Envelope) (fields : List Byte) (s : State), s.admitsRequest (requestFrame e (2 :: fields)) = true →
    s.mgmt.table = .piece ∨ s.mgmt.table = .batch ∨ s.mgmt.table = .fault ∨ s.mgmt.table = .status →
    exec (.put e fields) s = .next (s.received.answered (requestFrame e (2 :: fields)) 5 [])) ∧
  (∀ (e : Envelope) (fields : List Byte) (s : State), s.admitsRequest (requestFrame e (2 :: fields)) = true →
    s.mgmt.table.readOnly = false → s.mgmt.table.entries ≤ s.mgmt.index →
    exec (.put e fields) s = .next (s.received.answered (requestFrame e (2 :: fields)) 3 [])) ∧
  (∀ (e : Envelope) (fields : List Byte) (s : State), s.admitsRequest (requestFrame e (2 :: fields)) = true →
    ((s.mgmt.table = .eye ∧ s.mgmt.index < 32 ∧ fields.length ≠ 7) ∨
      (s.mgmt.table = .lane ∧ s.mgmt.index < 4 ∧ fields.length ≠ 12) ∨
      (s.mgmt.table = .article ∧ s.mgmt.index < 64 ∧ fields.length ≠ 13) ∨
      (s.mgmt.table = .path ∧ s.mgmt.index = 0 ∧ fields.length ≠ 9) ∨
      (s.mgmt.table = .path ∧ s.mgmt.index = 1 ∧ fields.length ≠ 10) ∨
      (s.mgmt.table = .path ∧ s.mgmt.index = 2 ∧ fields.length ≠ 14)) →
    exec (.put e fields) s = .next (s.received.answered (requestFrame e (2 :: fields)) 2 [])) ∧
  (∀ (e : Envelope) (fields : List Byte) (s : State), s.admitsRequest (requestFrame e (2 :: fields)) = true →
    ((s.mgmt.table = .eye ∧ s.mgmt.index < 32 ∧ fields.length = 7 ∧ s.line.state ≠ .config) ∨
      (s.mgmt.table = .path ∧ s.mgmt.index = 0 ∧ fields.length = 9 ∧ s.line.state ≠ .config) ∨
      (s.mgmt.table = .path ∧ s.mgmt.index = 1 ∧ fields.length = 10 ∧ s.line.state ≠ .config) ∨
      (s.mgmt.table = .lane ∧ s.mgmt.index < 4 ∧ fields.length = 12 ∧
        (s.line.state = .draining ∨ s.line.state = .suspect))) →
    exec (.put e fields) s = .next (s.received.answered (requestFrame e (2 :: fields)) 6 [])) ∧
  (∀ (e : Envelope) (fields : List Byte) (s : State) (l : Lane),
    s.admitsRequest (requestFrame e (2 :: fields)) = true → s.mgmt.table = .lane →
    l.number = s.mgmt.index + 1 → fields.length = 12 → s.line.state = .run →
    ((s.lane l).run = .ready ∨ (s.lane l).run = .granted) →
    exec (.put e fields) s = .next (s.received.answered (requestFrame e (2 :: fields)) 7 [])) ∧
  (∀ (e : Envelope) (fields : List Byte) (s : State), s.admitsRequest (requestFrame e (2 :: fields)) = true →
    s.mgmt.table = .eye → s.mgmt.index < 32 → fields.length = 7 → s.line.state = .config →
    (3 < (byteAt fields 2).toNat ∨ 3 < (byteAt fields 3).toNat ∨
      ((byteAt fields 2).toNat ≠ 0 ∧
        ((byteAt fields 0).toNat = 0 ∨ 30 < (byteAt fields 0).toNat ∨ 7 < (byteAt fields 1).toNat ∨
          ∃ j y, j ≠ s.mgmt.index ∧ s.eyeAt j = some y ∧ y.cfg.role ≠ .unused ∧ y.cfg.node = byteAt fields 0 ∧
            y.cfg.channel = byteAt fields 1)) ∨
      ((byteAt fields 2).toNat = 1 ∧
        ((byteAt fields 3).toNat = 0 ∨ (byteAt fields 4).toNat = 0 ∨ 4 < (byteAt fields 4).toNat ∨
          ∃ j y k, j ≠ s.mgmt.index ∧ s.eyeAt j = some y ∧ y.cfg.role = .track ∧ y.cfg.kind = some k ∧
            k.number = (byteAt fields 3).toNat ∧ y.cfg.lane = byteAt fields 4))) →
    exec (.put e fields) s = .next (s.received.answered (requestFrame e (2 :: fields)) 4 [])) ∧
  (∀ (e : Envelope) (fields : List Byte) (s : State) (l : Lane),
    s.admitsRequest (requestFrame e (2 :: fields)) = true → s.mgmt.table = .lane →
    l.number = s.mgmt.index + 1 → fields.length = 12 →
    (s.line.state = .config ∨ (s.line.state = .run ∧ ((s.lane l).run = .idle ∨ (s.lane l).run = .offline))) →
    (1 < (byteAt fields 0).toNat ∨
      ((byteAt fields 0).toNat = 1 ∧ ((byteAt fields 1).toNat = 0 ∨ 30 < (byteAt fields 1).toNat)) ∨
      3 < (byteAt fields 2).toNat ∨ 2 ^ (5 - l.number) ≤ (byteAt fields 3).toNat) →
    exec (.put e fields) s = .next (s.received.answered (requestFrame e (2 :: fields)) 4 [])) ∧
  (∀ (e : Envelope) (fields : List Byte) (s : State) (nominal minimum maximum : Nat),
    s.admitsRequest (requestFrame e (2 :: fields)) = true → s.mgmt.table = .article → s.mgmt.index < 64 →
    fields.length = 13 → (byteAt fields 0).toNat ≠ 0 → nominal = max 20 (min 8000 (wordAt fields 1)) →
    minimum = max 20 (min 8000 (wordAt fields 3)) → maximum = max 20 (min 8000 (wordAt fields 5)) →
    ((byteAt fields 0).toNat = 255 ∨
      (∃ j a, j ≠ s.mgmt.index ∧ s.mgmt.articles[j]? = some (some a) ∧ a.code = byteAt fields 0) ∨
      maximum < minimum ∨ nominal < minimum ∨ maximum < nominal ∨ 63 < (byteAt fields 11).toNat ∨
      ((byteAt fields 12).toNat ≠ 1 ∧ (byteAt fields 12).toNat ≠ 2)) →
    exec (.put e fields) s = .next (s.received.answered (requestFrame e (2 :: fields)) 4 [])) ∧
  ∀ (e : Envelope) (fields : List Byte) (s : State), s.admitsRequest (requestFrame e (2 :: fields)) = true →
    s.mgmt.table = .path →
    ((s.mgmt.index = 0 ∧ fields.length = 9 ∧ s.line.state = .config ∧
        (wordAt fields 0 = 0 ∨ (byteAt fields 8).toNat = 0 ∨ 30 < (byteAt fields 8).toNat)) ∨
      (s.mgmt.index = 2 ∧ fields.length = 14 ∧ 3 < (byteAt fields 13).toNat)) →
    exec (.put e fields) s = .next (s.received.answered (requestFrame e (2 :: fields)) 4 [])

/-- A PUT to path entry 0 or 1 in CONFIG stores every field, each brought to the nearer end of its range,
answers DONE_CLAMPED when a field was changed and DONE otherwise, and steps the cursor (R63, R183, R185).
A PUT of article code 0 empties its entry in every line state, and one of a code 1..254 that passes the checks
stores its fields, lengths and gaps brought to the nearer end of their ranges (R184); an accepted PUT to path entry 2
takes its fields at once, with RESUME below HALT, answers DONE_CLAMPED when a field was changed and DONE otherwise, and
steps the cursor (R93, R183, R185). The hold flag is tested against the new levels, a change of the condition leaves a
FEED_STATE with it in the urgent queue, and an evaluation is made, two where the test clears the flag (R93, R99, R108,
R110; in every line state: log 14). -/
def Obligations.PutWrites : Prop :=
  (∀ (e : Envelope) (fields : List Byte) (s : State), s.admitsRequest (requestFrame e (2 :: fields)) = true →
    s.mgmt.table = .path → s.mgmt.index = 0 → fields.length = 9 → s.line.state = .config →
    wordAt fields 0 ≠ 0 → 1 ≤ (byteAt fields 8).toNat → (byteAt fields 8).toNat ≤ 30 →
    ∃ p : PathLine,
      p.scale = wordAt fields 0 ∧ p.maxStep = max 1 (min 4095 (wordAt fields 2)) ∧
      p.lossTimeout = max 200 (min 5000 (wordAt fields 4)) ∧ p.extrapolation = min 2000 (wordAt fields 6) ∧
      p.folder = byteAt fields 8 ∧
      exec (.put e fields) s =
        .next ({ s.received with mgmt := { s.mgmt with line := p, index := 1 } }.answered
          (requestFrame e (2 :: fields))
          (if p.maxStep = wordAt fields 2 ∧ p.lossTimeout = wordAt fields 4 ∧ p.extrapolation = wordAt fields 6
            then 0 else 1)
          [4, 0])) ∧
  (∀ (e : Envelope) (fields : List Byte) (s : State), s.admitsRequest (requestFrame e (2 :: fields)) = true →
    s.mgmt.table = .path → s.mgmt.index = 2 → fields.length = 14 → s.line.state ≠ .run →
    (byteAt fields 13).toNat ≤ 3 →
    ∃ t : State, exec (.put e fields) s = .next t ∧ t.mgmt = { s.mgmt with flow := t.mgmt.flow, index := 3 } ∧
      t.mgmt.flow.mask = min 4 (byteAt fields 0).toNat ∧
      t.mgmt.flow.halt = max 1 (min 112 (byteAt fields 1).toNat) ∧
      t.mgmt.flow.resume = min (byteAt fields 2).toNat (t.mgmt.flow.halt - 1) ∧
      t.mgmt.flow.batchGap = min 8000 (wordAt fields 3) ∧ t.mgmt.flow.leadGap = min 4095 (wordAt fields 5) ∧
      t.mgmt.flow.trailGap = min 4095 (wordAt fields 7) ∧
      t.mgmt.flow.length = max 20 (min 8000 (wordAt fields 9)) ∧ t.mgmt.flow.idleTimeout = wordAt fields 11 ∧
      t.mgmt.flow.alertMin.number = (byteAt fields 13).toNat ∧
      t.pieces = s.pieces ∧ t.line = s.line ∧ t.batch = s.batch ∧ t.faults = s.faults ∧ State.sameTracking s t) ∧
  (∀ (e : Envelope) (fields : List Byte) (s : State), s.admitsRequest (requestFrame e (2 :: fields)) = true →
    s.mgmt.table = .path → s.mgmt.index = 2 → fields.length = 14 → (byteAt fields 13).toNat ≤ 3 →
    ∃ (p : PathFlow) (hold : Bool) (c : FeedCondition) (u : State),
      p.mask = min 4 (byteAt fields 0).toNat ∧ p.halt = max 1 (min 112 (byteAt fields 1).toNat) ∧
      p.resume = min (byteAt fields 2).toNat (p.halt - 1) ∧ p.batchGap = min 8000 (wordAt fields 3) ∧
      p.leadGap = min 4095 (wordAt fields 5) ∧ p.trailGap = min 4095 (wordAt fields 7) ∧
      p.length = max 20 (min 8000 (wordAt fields 9)) ∧ p.idleTimeout = wordAt fields 11 ∧
      p.alertMin.number = (byteAt fields 13).toNat ∧
      hold = (if p.halt ≤ s.feed.occupancy then true else if s.feed.occupancy ≤ p.resume then false
        else s.feed.hold) ∧
      c = (if s.line.state ≠ .run then .hold .line else if s.feed.fhold = true then .hold .fhold
        else if hold = true then .hold .occupancy else if s.batch.block ≠ none then .hold .batch else .go) ∧
      u = { s.received with
        mgmt := { s.mgmt with flow := p, index := 3 }
        feed := { s.feed with hold := hold, condition := c }
        port := { s.received.port with
          urgent := if c = s.feed.condition then s.port.urgent
            else if s.port.urgent.any Queued.isFeedState then
              s.port.urgent.map fun q => if q.isFeedState then { q with msg := .feedState c } else q
            else s.port.urgent ++ [{ dest := 31, msg := .feedState c, suspect := false }] } } ∧
      exec (.put e fields) s =
        .next ((if s.feed.hold = true ∧ hold = false then u.evaluate.evaluate else u.evaluate).answered
          (requestFrame e (2 :: fields))
          (if p.mask = (byteAt fields 0).toNat ∧ p.halt = (byteAt fields 1).toNat ∧
              p.resume = (byteAt fields 2).toNat ∧ p.batchGap = wordAt fields 3 ∧ p.leadGap = wordAt fields 5 ∧
              p.trailGap = wordAt fields 7 ∧ p.length = wordAt fields 9 then 0 else 1)
          [4, 2])) ∧
  (∀ (e : Envelope) (fields : List Byte) (s : State), s.admitsRequest (requestFrame e (2 :: fields)) = true →
    s.mgmt.table = .path → s.mgmt.index = 1 → fields.length = 10 → s.line.state = .config →
    ∃ p : PathWindows,
      p.tolI = max 10 (min 2000 (wordAt fields 0)) ∧ p.tolE = max 10 (min 2000 (wordAt fields 2)) ∧
      p.ironer = max 2000 (min 60000 (wordAt fields 4)) ∧ p.skew = min 1000 (wordAt fields 6) ∧
      p.slipLimit = min 2000 (wordAt fields 8) ∧
      exec (.put e fields) s =
        .next ({ s.received with mgmt := { s.mgmt with windows := p, index := 2 } }.answered
          (requestFrame e (2 :: fields))
          (if p.tolI = wordAt fields 0 ∧ p.tolE = wordAt fields 2 ∧ p.ironer = wordAt fields 4 ∧
              p.skew = wordAt fields 6 ∧ p.slipLimit = wordAt fields 8 then 0 else 1)
          [4, 1])) ∧
  (∀ (e : Envelope) (rest : List Byte) (s : State), s.admitsRequest (requestFrame e (2 :: 0 :: rest)) = true →
    s.mgmt.table = .article → s.mgmt.index < 64 → rest.length = 12 →
    exec (.put e (0 :: rest)) s =
      .next ({ s.received with
        mgmt := { s.mgmt with articles := s.mgmt.articles.set s.mgmt.index none, index := s.mgmt.index + 1 } }.answered
        (requestFrame e (2 :: 0 :: rest)) 0 [3, BitVec.ofNat 8 s.mgmt.index])) ∧
  ∀ (e : Envelope) (fields : List Byte) (s : State) (a : ArticleData),
    s.admitsRequest (requestFrame e (2 :: fields)) = true → s.mgmt.table = .article → s.mgmt.index < 64 →
    fields.length = 13 → 1 ≤ (byteAt fields 0).toNat → (byteAt fields 0).toNat ≤ 254 →
    (∀ j x, j ≠ s.mgmt.index → s.mgmt.articles[j]? = some (some x) → x.code ≠ byteAt fields 0) →
    a.nominal = max 20 (min 8000 (wordAt fields 1)) → a.minimum = max 20 (min 8000 (wordAt fields 3)) →
    a.maximum = max 20 (min 8000 (wordAt fields 5)) → a.leadGap = min 4095 (wordAt fields 7) →
    a.trailGap = min 4095 (wordAt fields 9) → a.program = byteAt fields 11 → (byteAt fields 11).toNat ≤ 63 →
    (((byteAt fields 12).toNat = 1 ∧ a.policy = .reject) ∨ ((byteAt fields 12).toNat = 2 ∧ a.policy = .foldFlagged)) →
    a.minimum ≤ a.nominal → a.nominal ≤ a.maximum →
    exec (.put e fields) s =
      .next ({ s.received with
        mgmt := { s.mgmt with
          articles := s.mgmt.articles.set s.mgmt.index (some { code := byteAt fields 0, data := a })
          index := s.mgmt.index + 1 } }.answered (requestFrame e (2 :: fields))
        (if a.nominal = wordAt fields 1 ∧ a.minimum = wordAt fields 3 ∧ a.maximum = wordAt fields 5 ∧
            a.leadGap = wordAt fields 7 ∧ a.trailGap = wordAt fields 9 then 0 else 1)
        [3, BitVec.ofNat 8 s.mgmt.index])

/-- A PUT in CONFIG that enables a lane stores its fields, the distances each brought to the nearer end of its
range, and leaves the lane IDLE with no request, an early count of 0, its tail as it was and no place in the order;
the evaluation that follows drops the tails that are not live (R92, R95, R99, R103; log 14). In RUN a PUT that
enables a lane in IDLE or OFFLINE does the same, and the evaluation may grant other lanes (R92, R99). A PUT that
disables a lane, in CONFIG or in RUN with the lane IDLE or OFFLINE, leaves it OFFLINE, and every lane in READY whose
request spans it loses its request and goes to IDLE, with READY_REFUSED_SPAN (R92). A PUT of an EYE entry in CONFIG
stores it, empty for role UNUSED, with the dynamic state at its start, and the repeat-fault table loses exactly the
keys of the eye key that the entry held and of the one it holds after (R22). That role UNUSED is accepted with any
defined kind, node, channel and lane, and PASS and DROP with kind 0 and any lane, is log 19. -/
def Obligations.PutSetsLaneAndEye : Prop :=
  (∀ (e : Envelope) (fields : List Byte) (s : State) (l : Lane),
    s.admitsRequest (requestFrame e (2 :: fields)) = true → s.mgmt.table = .lane →
    l.number = s.mgmt.index + 1 → fields.length = 12 → s.line.state = .config →
    (byteAt fields 0).toNat = 1 → 1 ≤ (byteAt fields 1).toNat → (byteAt fields 1).toNat ≤ 30 →
    (byteAt fields 2).toNat ≤ 3 → (byteAt fields 3).toNat < 2 ^ (5 - l.number) →
    ∃ c : LaneConfig,
      c.enabled = true ∧ c.node = byteAt fields 1 ∧ c.level = (byteAt fields 2).toNat ∧
      c.widths = byteAt fields 3 ∧ c.release = min 2000 (wordAt fields 4) ∧
      c.grantDist = max 20 (min 4000 (wordAt fields 6)) ∧ c.feedDist = max 200 (min 20000 (wordAt fields 8)) ∧
      c.arming = max 100 (min 8000 (wordAt fields 10)) ∧
      exec (.put e fields) s =
        .next ({ s.received with
          feed := { s.feed with
            lanes := (s.feed.lanes.set l { s.lane l with cfg := c, run := .idle, request := none, early := 0 }).map
              fun x => { x with tail := x.tail.filter fun q => decide ((s.travel.position - q.pos).toInt ≤ 65536) }
            order := s.feed.order.filter (· != l) }
          mgmt := { s.mgmt with index := s.mgmt.index + 1 } }.answered (requestFrame e (2 :: fields))
          (if c.release = wordAt fields 4 ∧ c.grantDist = wordAt fields 6 ∧ c.feedDist = wordAt fields 8 ∧
              c.arming = wordAt fields 10 then 0 else 1)
          [2, BitVec.ofNat 8 s.mgmt.index])) ∧
  (∀ (e : Envelope) (fields : List Byte) (s : State) (l : Lane),
    s.admitsRequest (requestFrame e (2 :: fields)) = true → s.mgmt.table = .lane →
    l.number = s.mgmt.index + 1 → fields.length = 12 → s.line.state = .run →
    ((s.lane l).run = .idle ∨ (s.lane l).run = .offline) →
    (byteAt fields 0).toNat = 1 → 1 ≤ (byteAt fields 1).toNat → (byteAt fields 1).toNat ≤ 30 →
    (byteAt fields 2).toNat ≤ 3 → (byteAt fields 3).toNat < 2 ^ (5 - l.number) →
    ∃ (c : LaneConfig) (u : State),
      c.enabled = true ∧ c.node = byteAt fields 1 ∧ c.level = (byteAt fields 2).toNat ∧
      c.widths = byteAt fields 3 ∧ c.release = min 2000 (wordAt fields 4) ∧
      c.grantDist = max 20 (min 4000 (wordAt fields 6)) ∧ c.feedDist = max 200 (min 20000 (wordAt fields 8)) ∧
      c.arming = max 100 (min 8000 (wordAt fields 10)) ∧
      u = { s.received with
        feed := { s.feed with
          lanes := s.feed.lanes.set l { s.lane l with cfg := c, run := .idle, request := none, early := 0 }
          order := s.feed.order.filter (· != l) }
        mgmt := { s.mgmt with index := s.mgmt.index + 1 } } ∧
      exec (.put e fields) s =
        .next (u.evaluate.answered (requestFrame e (2 :: fields))
          (if c.release = wordAt fields 4 ∧ c.grantDist = wordAt fields 6 ∧ c.feedDist = wordAt fields 8 ∧
              c.arming = wordAt fields 10 then 0 else 1)
          [2, BitVec.ofNat 8 s.mgmt.index])) ∧
  (∀ (e : Envelope) (fields : List Byte) (s : State) (l : Lane),
    s.admitsRequest (requestFrame e (2 :: fields)) = true → s.mgmt.table = .lane →
    l.number = s.mgmt.index + 1 → fields.length = 12 →
    (s.line.state = .config ∨ (s.line.state = .run ∧ ((s.lane l).run = .idle ∨ (s.lane l).run = .offline))) →
    (byteAt fields 0).toNat = 0 → (byteAt fields 2).toNat ≤ 3 → (byteAt fields 3).toNat < 2 ^ (5 - l.number) →
    ∃ (c : LaneConfig) (t : State), exec (.put e fields) s = .next t ∧
      c.enabled = false ∧ c.node = byteAt fields 1 ∧ c.level = (byteAt fields 2).toNat ∧
      c.widths = byteAt fields 3 ∧ c.release = min 2000 (wordAt fields 4) ∧
      c.grantDist = max 20 (min 4000 (wordAt fields 6)) ∧ c.feedDist = max 200 (min 20000 (wordAt fields 8)) ∧
      c.arming = max 100 (min 8000 (wordAt fields 10)) ∧
      (t.lane l).cfg = c ∧ (t.lane l).run = .offline ∧ (t.lane l).request = none ∧ (t.lane l).early = 0 ∧
      l ∉ t.feed.order ∧ (∀ k, k ≠ l → (t.lane k).cfg = (s.lane k).cfg ∧ (t.lane k).early = (s.lane k).early) ∧
      (∀ (k : Lane) (q : LaneRequest), k ≠ l → (s.lane k).run = .ready → (s.lane k).request = some q →
        spanHas q.span l = true →
        (t.lane k).run = .idle ∧ (t.lane k).request = none ∧ k ∉ t.feed.order ∧
        (s.currentPlace.isSome = true →
          (∀ (j : Lane) (x : LaneRequest), j ≠ l → j ≠ k → (s.lane j).run = .ready →
            (s.lane j).request = some x → spanHas x.span l = false) →
          State.recorded s t { code := .readyRefusedSpan, severity := .piece, piece := none, site := .lane k,
                               position := none })) ∧
      ((∀ (k : Lane) (q : LaneRequest), k ≠ l → (s.lane k).run = .ready → (s.lane k).request = some q →
        spanHas q.span l = false) →
        t.faults = s.faults ∧ t.pieces = s.pieces ∧ t.batch = s.batch ∧
          ∀ k, k ≠ l → (t.lane k).run = (s.lane k).run ∧ (t.lane k).request = (s.lane k).request) ∧
      t.mgmt = { s.mgmt with index := s.mgmt.index + 1 } ∧
      t.repliedLast (requestFrame e (2 :: fields))
        (if c.release = wordAt fields 4 ∧ c.grantDist = wordAt fields 6 ∧ c.feedDist = wordAt fields 8 ∧
            c.arming = wordAt fields 10 then 0 else 1)
        [2, BitVec.ofNat 8 s.mgmt.index] = true ∧
      t.line = s.line ∧ State.sameTracking s t) ∧
  (∀ (e : Envelope) (fields : List Byte) (s : State) (x : Eye),
    s.admitsRequest (requestFrame e (2 :: fields)) = true →
    s.mgmt.table = .eye → s.mgmt.index < 32 → fields.length = 7 → s.line.state = .config →
    (byteAt fields 2).toNat = 0 → (byteAt fields 3).toNat ≤ 3 → s.eyeAt s.mgmt.index = some x →
    exec (.put e fields) s =
      .next ({ s.received with
        eyes := {
          map := s.eyes.map.set s.mgmt.index { cfg := EyeConfig.unused, dyn := EyeDynamic.start }
          repeats := s.eyes.repeats.filter fun k =>
            match k with
            | .frameDamaged => true
            | .glitch a c => !(x.cfg.role != Role.unused && a == x.cfg.node && c == x.cfg.channel)
            | .edgeSequence a c => !(x.cfg.role != Role.unused && a == x.cfg.node && c == x.cfg.channel) }
        mgmt := { s.mgmt with index := s.mgmt.index + 1 } }.answered (requestFrame e (2 :: fields)) 0
        [1, BitVec.ofNat 8 s.mgmt.index])) ∧
  ∀ (e : Envelope) (fields : List Byte) (s : State) (x : Eye) (role : Role) (kind : Option Checkpoint),
    s.admitsRequest (requestFrame e (2 :: fields)) = true →
    s.mgmt.table = .eye → s.mgmt.index < 32 → fields.length = 7 → s.line.state = .config →
    role ≠ .unused → role.number = (byteAt fields 2).toNat →
    (byteAt fields 3).toNat = (match kind with | none => 0 | some k => k.number) →
    1 ≤ (byteAt fields 0).toNat → (byteAt fields 0).toNat ≤ 30 → (byteAt fields 1).toNat ≤ 7 →
    (∀ j y, j ≠ s.mgmt.index → s.eyeAt j = some y → y.cfg.role ≠ .unused →
      ¬(y.cfg.node = byteAt fields 0 ∧ y.cfg.channel = byteAt fields 1)) →
    (role = .track → kind ≠ none ∧ 1 ≤ (byteAt fields 4).toNat ∧ (byteAt fields 4).toNat ≤ 4 ∧
      ∀ j y, j ≠ s.mgmt.index → s.eyeAt j = some y → y.cfg.role = .track →
        ¬(y.cfg.kind = kind ∧ y.cfg.lane = byteAt fields 4)) →
    s.eyeAt s.mgmt.index = some x →
    exec (.put e fields) s =
      .next ({ s.received with
        eyes := {
          map := s.eyes.map.set s.mgmt.index
            { cfg := { node := byteAt fields 0, channel := byteAt fields 1, role := role, kind := kind,
                       lane := byteAt fields 4, minLength := (byteAt fields 5).toNat,
                       threshold := (byteAt fields 6).toNat }
              dyn := { raw := .clear, filtered := .clear, pending := none, glitches := 0, sequence := 0,
                       degraded := false, attributed := 0 } }
          repeats := s.eyes.repeats.filter fun k =>
            match k with
            | .frameDamaged => true
            | .glitch a c =>
              !(a == byteAt fields 0 && c == byteAt fields 1) &&
                !(x.cfg.role != Role.unused && a == x.cfg.node && c == x.cfg.channel)
            | .edgeSequence a c =>
              !(a == byteAt fields 0 && c == byteAt fields 1) &&
                !(x.cfg.role != Role.unused && a == x.cfg.node && c == x.cfg.channel) }
        mgmt := { s.mgmt with index := s.mgmt.index + 1 } }.answered (requestFrame e (2 :: fields)) 0
        [1, BitVec.ofNat 8 s.mgmt.index])

/-- MODE RUN: with consistent tables a line in CONFIG enters RUN and the last routine frame is the REPLY DONE; a
LINE_STATE report is queued ahead of it, or owed with its place the only free one, and a change of the
feed-permitted condition leaves a FEED_STATE with it in the urgent queue (R110, R149). The tables are consistent
when K is above 0, a lane is enabled, every enabled lane has its three TRACK eyes, and every width it permits spans
enabled lanes alone; otherwise it answers BAD_TABLES with the first item that fails, SCALE, NO_LANE, EYE with the
lowest lane and kind, or SPAN with the lowest lane and width; in every other line state it answers REFUSED_MODE;
refused, it changes nothing (R150, R151, R186). -/
def Obligations.ModeRunTaken : Prop :=
  (∀ (e : Envelope) (s : State), s.admitsRequest (commandFrame e 1 []) = true → s.line.state = .config →
    s.failingItem = none →
    ∃ t : State, exec (.modeRun e) s = .next t ∧ t.line.state = .run ∧ t.line.cause = none ∧
      t.line.tfault = false ∧
      (s.port.routine.length < 15 → t.line.owed = false ∧
        { dest := 31, msg := .lineState .run none, suspect := false } ∈ t.port.routine) ∧
      (15 ≤ s.port.routine.length → t.line.owed = true) ∧
      (t.feed.condition ≠ s.feed.condition → ∃ q ∈ t.port.urgent, q.msg = .feedState t.feed.condition) ∧
      t.repliedLast (commandFrame e 1 []) 0 [1] = true ∧
      State.sameTracking s t ∧ State.sameOuter s t) ∧
  (∀ (e : Envelope) (s : State), s.admitsRequest (commandFrame e 1 []) = true → s.line.state = .config →
    s.mgmt.line.scale = 0 →
    exec (.modeRun e) s = .next (s.received.answered (commandFrame e 1 []) 8 [1, 1, 0, 0])) ∧
  (∀ (e : Envelope) (s : State) (x : CheckItem), s.admitsRequest (commandFrame e 1 []) = true →
    s.line.state = .config → s.failingItem = some x →
    exec (.modeRun e) s = .next (s.received.answered (commandFrame e 1 []) 8 (1 :: x.bytes))) ∧
  (∀ (e : Envelope) (s : State), s.admitsRequest (commandFrame e 1 []) = true → s.line.state = .config →
    s.mgmt.line.scale ≠ 0 → (∀ l, (s.lane l).cfg.enabled = false) →
    exec (.modeRun e) s = .next (s.received.answered (commandFrame e 1 []) 8 [1, 2, 0, 0])) ∧
  (∀ (e : Envelope) (s : State) (l : Lane) (k : Checkpoint), s.admitsRequest (commandFrame e 1 []) = true →
    s.line.state = .config → s.mgmt.line.scale ≠ 0 → (s.lane l).cfg.enabled = true →
    (∀ x ∈ s.eyes.map, ¬(x.cfg.role = .track ∧ x.cfg.kind = some k ∧ x.cfg.lane.toNat = l.number)) →
    (∀ (m : Lane) (j : Checkpoint), (s.lane m).cfg.enabled = true →
      (m.number < l.number ∨ (m = l ∧ j.number < k.number)) →
      ∃ x ∈ s.eyes.map, x.cfg.role = .track ∧ x.cfg.kind = some j ∧ x.cfg.lane.toNat = m.number) →
    exec (.modeRun e) s =
      .next (s.received.answered (commandFrame e 1 []) 8
        [1, 3, BitVec.ofNat 8 l.number, BitVec.ofNat 8 k.number])) ∧
  (∀ (e : Envelope) (s : State) (l : Lane) (w : Nat), s.admitsRequest (commandFrame e 1 []) = true →
    s.line.state = .config → s.mgmt.line.scale ≠ 0 → (s.lane l).cfg.enabled = true →
    (∀ (m : Lane) (j : Checkpoint), (s.lane m).cfg.enabled = true →
      ∃ x ∈ s.eyes.map, x.cfg.role = .track ∧ x.cfg.kind = some j ∧ x.cfg.lane.toNat = m.number) →
    1 ≤ w → w ≤ 4 → (s.lane l).cfg.widths.getLsbD (w - 1) = true →
    (5 < l.number + w ∨
      ∃ k : Lane, l.number ≤ k.number ∧ k.number < l.number + w ∧ (s.lane k).cfg.enabled = false) →
    (∀ (m : Lane) (v : Nat), (s.lane m).cfg.enabled = true → (m.number < l.number ∨ (m = l ∧ v < w)) →
      1 ≤ v → v ≤ 4 → (s.lane m).cfg.widths.getLsbD (v - 1) = true →
      m.number + v ≤ 5 ∧
        ∀ k : Lane, m.number ≤ k.number → k.number < m.number + v → (s.lane k).cfg.enabled = true) →
    exec (.modeRun e) s =
      .next (s.received.answered (commandFrame e 1 []) 8 [1, 4, BitVec.ofNat 8 l.number, BitVec.ofNat 8 w])) ∧
  (∀ s : State, s.mgmt.line.scale ≠ 0 → (∃ l, (s.lane l).cfg.enabled = true) →
    (∀ (l : Lane) (k : Checkpoint), (s.lane l).cfg.enabled = true →
      ∃ x ∈ s.eyes.map, x.cfg.role = .track ∧ x.cfg.kind = some k ∧ x.cfg.lane.toNat = l.number) →
    (∀ (l : Lane) (w : Nat), (s.lane l).cfg.enabled = true → 1 ≤ w → w ≤ 4 →
      (s.lane l).cfg.widths.getLsbD (w - 1) = true →
      l.number + w ≤ 5 ∧
        ∀ k : Lane, l.number ≤ k.number → k.number < l.number + w → (s.lane k).cfg.enabled = true) →
    s.failingItem = none) ∧
  ∀ (e : Envelope) (s : State), s.admitsRequest (commandFrame e 1 []) = true → s.line.state ≠ .config →
    exec (.modeRun e) s = .next (s.received.answered (commandFrame e 1 []) 6 [1])

/-- MODE STOP: a line in RUN enters DRAINING with its lanes' run states, requests and tails as they were, or with an
empty table goes on into CONFIG, where the lanes lose their requests, the block is clear and the current batch closes
with cause COMMAND (R117, R128); so does the removal that leaves the table of a DRAINING line empty, whatever its
outcome; in every other line state it answers REFUSED_MODE and changes nothing; the REPLY comes last (R152, R153,
R186). The entry to DRAINING queues a FEED_STATE HOLD LINE, in the place of the one that waits, and a LINE_STATE
report ahead of the REPLY, which stays owed when the place reserved for the REPLY is the only free one (R110, R149,
R174, R175); the entry to CONFIG behind it queues a second report, or owes it, and leaves the condition as it is. -/
def Obligations.ModeStopTaken : Prop :=
  (∀ (e : Envelope) (s : State), s.admitsRequest (commandFrame e 2 []) = true → s.line.state = .run →
    s.pieces.records ≠ [] →
    ∃ t : State, exec (.modeStop e) s = .next t ∧ t.line.state = .draining ∧ t.line.cause = none ∧
      t.line.tfault = false ∧ t.feed = { s.feed with condition := .hold .line } ∧ t.pieces = s.pieces ∧
      t.port.urgent =
        (if s.feed.condition = .hold .line then s.port.urgent
        else if s.port.urgent.any Queued.isFeedState then
          s.port.urgent.map fun q => if q.isFeedState then { q with msg := .feedState (.hold .line) } else q
        else s.port.urgent ++ [{ dest := 31, msg := .feedState (.hold .line), suspect := false }]) ∧
      (s.port.routine.length < 15 → t.line.owed = false ∧
        t.port.routine = s.port.routine ++
          [{ dest := 31, msg := .lineState .draining none, suspect := false },
           { dest := e.src, msg := .reply 4 0 [2], suspect := false }]) ∧
      (15 ≤ s.port.routine.length → t.line.owed = true ∧
        t.port.routine = s.port.routine ++ [{ dest := e.src, msg := .reply 4 0 [2], suspect := false }]) ∧
      t.batch = s.batch ∧ t.repliedLast (commandFrame e 2 []) 0 [2] = true ∧
      State.sameTracking s t ∧ State.sameOuter s t) ∧
  (∀ (e : Envelope) (s : State), s.admitsRequest (commandFrame e 2 []) = true → s.line.state = .run →
    s.pieces.records = [] →
    ∃ t : State, exec (.modeStop e) s = .next t ∧ t.line.state = .config ∧ t.pieces.records = [] ∧
      t.feed.order = [] ∧ (∀ l, (t.lane l).run ≠ .ready) ∧
      t.repliedLast (commandFrame e 2 []) 0 [2] = true ∧ State.sameTracking s t ∧ State.sameOuter s t ∧
      State.entersConfig s t .command ∧
      t.port.urgent =
        (if s.feed.condition = .hold .line then s.port.urgent
        else if s.port.urgent.any Queued.isFeedState then
          s.port.urgent.map fun q => if q.isFeedState then { q with msg := .feedState (.hold .line) } else q
        else s.port.urgent ++ [{ dest := 31, msg := .feedState (.hold .line), suspect := false }]) ∧
      t.line.owed = decide (14 ≤ s.port.routine.length) ∧
      (∃ new : List Queued, t.port.routine = s.port.routine ++
        (if s.port.routine.length < 15 then [{ dest := 31, msg := .lineState .draining none, suspect := false }]
        else []) ++
        (if s.port.routine.length < 14 then [{ dest := 31, msg := .lineState .config none, suspect := false }]
        else []) ++ new) ∧
      ∀ d : State, d = { s.received with
          line := { state := .draining, cause := none, tfault := false,
                    owed := decide (15 ≤ s.port.routine.length) }
          feed := { s.feed with condition := .hold .line }
          port := { s.received.port with
            reserved := true
            urgent := t.port.urgent
            routine := s.port.routine ++
              (if s.port.routine.length < 15 then [{ dest := 31, msg := .lineState .draining none, suspect := false }]
              else []) } } →
        t = (d.inConfig.closeCurrent .command).answered (commandFrame e 2 []) 0 [2]) ∧
  (∀ (s : State) (r : Piece) (o : Removal), s.line.state = .draining → s.pieces.records = [r] →
    ∃ v : State, v.line = s.line ∧ v.pieces.records = [] ∧ v.currentPlace = s.currentPlace ∧
      (∀ (i : Nat) (b : BatchEntry), s.currentPlace = some i → s.batchAt i = some b →
        ∃ c : BatchEntry, v.batchAt i = some c ∧ c.number = b.number ∧ c.state = .opened ∧
          (r.anonymous = true ∨ r.batch ≠ b.number → c = b) ∧
          (s.batchesSound = true → r.anonymous = false → r.batch = b.number → c.live = b.live - 1)) ∧
      s.removePiece r.number o = v.inConfig.closeCurrent .command ∧
      State.entersConfig s (s.removePiece r.number o) .command) ∧
  ∀ (e : Envelope) (s : State), s.admitsRequest (commandFrame e 2 []) = true → s.line.state ≠ .run →
    exec (.modeStop e) s = .next (s.received.answered (commandFrame e 2 []) 6 [2])

/-- RESTART FULL gives the power-on state of every block with the own address read from the straps as they
then stand, whatever the state was; the routine queue holds the LINE_STATE report and then the REPLY, and the
REQUEST stands alone in the transit buffer (R162, R164, R178, R186; the strap levels: log 6). -/
def Obligations.RestartFullTaken : Prop :=
  ∀ (e : Envelope) (straps : BitVec 5) (s : State), s.admitsRequest (commandFrame e 3 []) = true →
    exec (.restartFull { frame := e, straps := straps }) s =
      .next ({ State.reset with
        pins := { straps := straps, resetHeld := false }
        port := { State.reset.port with own := ownAddress straps }
        freeIndex := s.freeIndex
        pending := s.pending }.answered (commandFrame e 3 []) 0 [3])

/-- RESTART TRACKING empties the table, the batch list and the folder, puts every enabled lane to IDLE and
every other OFFLINE, removes the GRANT and TICKET frames that wait, clears the eyes' transitions and
keeps what R164 says is kept: of the Ring Port the transit buffer, Ring Out, the own-frame list, the waiting routine
frames and the rest of the urgent queue in their order, and the four counts (R172, R175 to R177, R179). The line is
CONFIG with no cause and TFAULT deasserted (R163). A LINE_STATE report is queued ahead of the REPLY, or stays owed when
the REPLY's place is the only free one, and a FEED_STATE HOLD LINE is queued, in the place of the one that waits if
there is one (R163, R164, R174, R175). -/
def Obligations.RestartTrackingTaken : Prop :=
  ∀ (e : Envelope) (s : State), s.admitsRequest (commandFrame e 4 []) = true →
    ∃ t : State, exec (.restartTracking e) s = .next t ∧
      t.line = { state := .config, cause := none, tfault := false, owed := decide (15 ≤ s.port.routine.length) } ∧
      t.port = { s.port with
        receiving := []
        reserved := false
        urgent :=
          (if (s.port.urgent.filter fun q => q.grantPiece.isNone && q.ticketPiece.isNone).any Queued.isFeedState then
            (s.port.urgent.filter fun q => q.grantPiece.isNone && q.ticketPiece.isNone).map fun q =>
              if q.isFeedState then { q with msg := .feedState (.hold .line) } else q
          else (s.port.urgent.filter fun q => q.grantPiece.isNone && q.ticketPiece.isNone) ++
            [{ dest := 31, msg := .feedState (.hold .line), suspect := false }])
        routine := s.port.routine ++
          (if s.port.routine.length < 15 then [{ dest := 31, msg := .lineState .config none, suspect := false }]
          else []) ++
          [{ dest := e.src, msg := .reply 4 0 [4], suspect := false }]
        transit := s.port.transit ++ [((commandFrame e 4 []).withMark markTaken).forwarded] } ∧
      t.pieces = { s.pieces with records := [] } ∧ t.batch = BatchCounter.powerOn ∧
      t.folder = FolderHandoff.powerOn ∧ t.travel = s.travel ∧ t.matcher = s.matcher ∧ t.faults = s.faults ∧
      (∀ l, (t.lane l).run = (if (s.lane l).cfg.enabled then .idle else .offline) ∧
        (t.lane l).request = none ∧ (t.lane l).tail = none ∧ (t.lane l).cfg = (s.lane l).cfg ∧
        (t.lane l).early = (s.lane l).early) ∧
      t.feed.order = [] ∧ t.feed.lastBatch = none ∧ t.feed.pointer = .l1 ∧ t.feed.occupancy = 0 ∧
      t.feed.hold = false ∧ t.feed.fhold = s.feed.fhold ∧ t.feed.fholdRead = s.feed.fholdRead ∧
      t.feed.condition = .hold .line ∧
      t.eyes.repeats = s.eyes.repeats ∧
      t.eyes.map = s.eyes.map.map (fun x => { x with
        dyn := { x.dyn with raw := .clear, filtered := .clear, pending := none, attributed := 0 } }) ∧
      (∀ q ∈ t.port.urgent, q.grantPiece = none ∧ q.ticketPiece = none) ∧
      t.port.ownList = s.port.ownList ∧ t.repliedLast (commandFrame e 4 []) 0 [4] = true ∧ State.sameOuter s t

/-- RECOVER: a SUSPECT line with an empty table enters CONFIG with no cause and TFAULT deasserted, READY lanes go to
IDLE, the faults and the hold-off are unchanged and the current batch is no longer open, with cause RESTART, which its
entry holds while it stands and every TALLY queued for it carries (R128, R131); a LINE_STATE report is queued, or owed
with the REPLY's place the only free one (R149); the REPLY comes last. With a record in the table it answers
NOT_EMPTY, outside SUSPECT REFUSED_MODE, and then changes nothing (R156). -/
def Obligations.RecoverTaken : Prop :=
  (∀ (e : Envelope) (s : State), s.admitsRequest (commandFrame e 5 []) = true → s.line.state = .suspect →
    s.pieces.records = [] →
    ∃ t : State, exec (.recover e) s = .next t ∧ t.line.state = .config ∧ t.line.cause = none ∧
      t.line.tfault = false ∧
      (s.port.routine.length < 15 → t.line.owed = false ∧
        { dest := 31, msg := .lineState .config none, suspect := false } ∈ t.port.routine) ∧
      (15 ≤ s.port.routine.length → t.line.owed = true) ∧
      t.faults = s.faults ∧ t.pieces = s.pieces ∧ t.feed.order = [] ∧
      (∀ l, (t.lane l).run = (if (s.lane l).run = .ready then .idle else (s.lane l).run)) ∧
      (∀ (i : Nat) (b : BatchEntry), s.currentPlace = some i → t.batchAt i = some b →
        b.state ≠ .opened ∧ b.cause = some .restart) ∧
      State.entersConfig s t .restart ∧
      t = ({ s.received with port := { s.received.port with reserved := true } }.inConfig.closeCurrent
        .restart).answered (commandFrame e 5 []) 0 [5] ∧
      t.repliedLast (commandFrame e 5 []) 0 [5] = true ∧ State.sameTracking s t ∧ State.sameOuter s t) ∧
  (∀ (e : Envelope) (s : State), s.admitsRequest (commandFrame e 5 []) = true → s.line.state = .suspect →
    s.pieces.records ≠ [] →
    exec (.recover e) s = .next (s.received.answered (commandFrame e 5 []) 9 [5])) ∧
  ∀ (e : Envelope) (s : State), s.admitsRequest (commandFrame e 5 []) = true → s.line.state ≠ .suspect →
    exec (.recover e) s = .next (s.received.answered (commandFrame e 5 []) 6 [5])

/-- PURGE of a piece: BAD_INDEX for 0 or a number of no record, BUSY for a record whose ticket is SENT or DELIVERED,
and otherwise the record is removed with the lost total counting one; outside RUN it is then in the table no more; a
record in GRANTED takes its waiting GRANT out of the urgent queue and brings its lane to IDLE, an evaluation event
(R57, R99, R176); the batch of a record that is not anonymous loses one live piece, counted as lost, the last of a
CLOSING entry taking it to SENDING (R54, R121, R122, R130), stated outside RUN and for RUN where the removal sets
nothing else going but that evaluation, whose grants are the only other change of the table; the last record of a
DRAINING line takes it to CONFIG, the current batch closed with cause COMMAND (R55, R56, R59, R128, R153). -/
def Obligations.PurgeTaken : Prop :=
  (∀ (e : Envelope) (piece : Half) (s : State), s.admitsRequest (commandFrame e 6 (bytes16 piece)) = true →
    piece = 0 ∨ s.findPiece piece = none →
    exec (.purge e piece) s = .next (s.received.answered (commandFrame e 6 (bytes16 piece)) 3 [6])) ∧
  (∀ (e : Envelope) (piece : Half) (s : State) (r : Piece),
    s.admitsRequest (commandFrame e 6 (bytes16 piece)) = true → piece ≠ 0 → s.findPiece piece = some r →
    r.state = .atFolder → r.ticket = .sent ∨ r.ticket = .delivered →
    exec (.purge e piece) s = .next (s.received.answered (commandFrame e 6 (bytes16 piece)) 7 [6])) ∧
  ∀ (e : Envelope) (piece : Half) (s : State) (r : Piece),
    s.admitsRequest (commandFrame e 6 (bytes16 piece)) = true → piece ≠ 0 → s.findPiece piece = some r →
    ¬(r.state = .atFolder ∧ (r.ticket = .sent ∨ r.ticket = .delivered)) →
    ∃ t : State, exec (.purge e piece) s = .next t ∧ t.pieces.lost = s.pieces.lost + 1 ∧
      t.pieces.discharged = s.pieces.discharged ∧ (s.line.state ≠ .run → t.findPiece piece = none) ∧
      t.repliedLast (commandFrame e 6 (bytes16 piece)) 0 [6] = true ∧
      (s.line.state = .draining → s.pieces.records = [r] → State.entersConfig s t .command) ∧
      (r.state = .granted → State.grantWithdrawn s t piece) ∧
      (r.state = .granted → r.anonymous = false →
        (t.lane r.lane).run = .idle ∧ (t.lane r.lane).request = none ∧ r.lane ∉ t.feed.order) ∧
      (s.line.state ≠ .run → t.pieces.records = s.pieces.records.filter (fun q => q.number != piece)) ∧
      (s.line.state ≠ .run ∨ s.removesQuietly r.batch = true →
        t.faults = s.faults ∧ (∀ q ∈ s.pieces.records, q.number ≠ piece → q ∈ t.pieces.records) ∧
        (∀ q ∈ t.pieces.records, (q ∈ s.pieces.records ∧ q.number ≠ piece) ∨
          (s.line.state = .run ∧ r.state = .granted ∧ q.state = .granted ∧ q.grantPos = some s.travel.position)) ∧
        (r.anonymous = false → s.line.state ≠ .run ∨ r.state ≠ .granted →
          t.feed.occupancy = s.feed.occupancy - 1)) ∧
      (∀ (i : Nat) (b : BatchEntry),
        s.line.state = .suspect ∨ (s.line.state = .run ∧ s.removesQuietly r.batch = true) ∨
          (s.line.state = .draining ∧ ∃ q ∈ s.pieces.records, q.number ≠ piece) →
        r.anonymous = false → s.placeOf r.batch = some i → s.batchAt i = some b →
        ¬(b.state = .closing ∧ b.live - 1 = 0) →
        ∃ again : Nat, (s.line.state ≠ .run ∨ r.state ≠ .granted → again = 0) ∧
          t.batchAt i = some { { b with live := b.live - 1 }.count r.article .lost with live := b.live - 1 + again }) ∧
      (∀ (i first : Nat) (b d : BatchEntry) (u : State), s.line.state = .suspect → r.anonymous = false →
        s.placeOf r.batch = some i → s.batchAt i = some b → b.state = .closing → b.live - 1 = 0 →
        d = { b with live := b.live - 1 }.count r.article .lost → d.firstSlot first →
        u = { s.received with port := { s.received.port with reserved := true } } →
        State.sendsEntry u t i { d with state := .sending, nextSlot := some first }) ∧
      State.sameTracking s t ∧ State.sameOuter s t

/-- PURGE ALL: in DRAINING and SUSPECT every record is removed, every slot is FREE with every pointer X, no GRANT or
TICKET waits, and the lost total counts every record; a DRAINING line is then in CONFIG if it held a record, the
current batch closed with cause COMMAND (R128, R153), a SUSPECT line stays SUSPECT. In RUN it answers REFUSED_MODE and
in CONFIG DONE, and changes nothing (R60). -/
def Obligations.PurgeAllTaken : Prop :=
  (∀ (e : Envelope) (s : State), s.admitsRequest (commandFrame e 7 []) = true →
    s.line.state = .draining ∨ s.line.state = .suspect →
    ∃ t : State, exec (.purgeAll e) s = .next t ∧ t.pieces.records = [] ∧ t.folder = FolderHandoff.powerOn ∧
      (∀ q ∈ t.port.urgent, q.grantPiece = none ∧ q.ticketPiece = none) ∧
      (s.recordsSound = true → t.pieces.lost = s.pieces.lost + BitVec.ofNat 32 s.pieces.records.length) ∧
      (s.line.state = .suspect → t.line.state = .suspect) ∧
      (s.line.state = .draining → s.pieces.records ≠ [] → t.line.state = .config) ∧
      (s.line.state = .draining → s.pieces.records ≠ [] → State.entersConfig s t .command) ∧
      t.repliedLast (commandFrame e 7 []) 0 [7] = true ∧
      t.travel = s.travel ∧ t.eyes = s.eyes ∧ t.matcher = s.matcher ∧ State.sameOuter s t) ∧
  (∀ (e : Envelope) (s : State), s.admitsRequest (commandFrame e 7 []) = true → s.line.state = .run →
    exec (.purgeAll e) s = .next (s.received.answered (commandFrame e 7 []) 6 [7])) ∧
  ∀ (e : Envelope) (s : State), s.admitsRequest (commandFrame e 7 []) = true → s.line.state = .config →
    exec (.purgeAll e) s = .next (s.received.answered (commandFrame e 7 []) 0 [7])

/-- CLOSE_BATCH: with a current batch its entry closes with cause COMMAND, staying CLOSING while it has live pieces
and going on to SENDING without, and the REPLY DONE comes last; with no current batch it answers NO_BATCH and changes
nothing (R127, R129, R130; the first clause for a batch list that is sound, R119). A closure of the current batch, of
whatever cause: the entry is CLOSING with the cause and the idle timer stopped, an evaluation is made (R99; log 12),
an entry without live pieces goes on to SENDING, and the next is chosen; it joins the back of the send order with its
lowest slot in use next, 0 for none, and alone there sends what finds a place (R129 to R131). The choice of the next
(R123, R124): in RUN with no current batch, the number of the front lane's request is opened at the lowest empty place
with the idle timer at 0 and the block clear, or the block is set, NUMBER_HELD while an entry holds the number, else
LIST_FULL with BATCH_LIST_FULL on its setting; an empty order clears it. -/
def Obligations.CloseBatchTaken : Prop :=
  (∀ (e : Envelope) (s : State) (i : Nat) (b : BatchEntry), s.admitsRequest (commandFrame e 8 []) = true →
    s.currentPlace = some i → s.batchAt i = some b →
    ∃ t : State, exec (.closeBatch e) s = .next t ∧
      (s.batchesSound = true → b.live ≠ 0 →
        t.batchAt i = some { b with state := .closing, cause := some .command }) ∧
      (b.live = 0 → s.line.state ≠ .run → ∀ c : BatchEntry, t.batchAt i = some c →
        c.state = .sending ∧ c.cause = some .command ∧ c.number = b.number) ∧
      t.repliedLast (commandFrame e 8 []) 0 [8] = true ∧ t.line = s.line ∧
      State.sameTracking s t ∧ State.sameOuter s t ∧ (s.line.state ≠ .run → t.batch.idle = .stopped) ∧
      ∀ u : State, u = { s.received with port := { s.received.port with reserved := true } } →
        t = (u.closeCurrent .command).answered (commandFrame e 8 []) 0 [8] ∧
        ∀ (c : BatchEntry) (first : Nat), s.batchesSound = true → b.live = 0 → b.firstSlot first →
          c = { b with state := .sending, cause := some .command, nextSlot := some first } →
          State.sendsEntry u t i c) ∧
  (∀ (s v w : State) (i : Nat) (b : BatchEntry) (cause : ClosureCause), s.currentPlace = some i →
    s.batchAt i = some b →
    v = State.evaluate { s with batch := { s.batch with
      places := s.batch.places.set i (some { b with state := .closing, cause := some cause })
      idle := .stopped } } →
    w = (if b.live = 0 then v.enterSending i else v) → s.closeCurrent cause = w.choose) ∧
  (∀ (s : State) (cause : ClosureCause), s.currentPlace = none → s.closeCurrent cause = s) ∧
  (∀ (s u : State) (i first : Nat) (b : BatchEntry), s.batchAt i = some b → b.firstSlot first →
    u = { s with batch := { s.batch with
      places := s.batch.places.set i (some { b with state := .sending, nextSlot := some first })
      sendOrder := s.batch.sendOrder ++ [i] } } →
    (s.batch.sendOrder ≠ [] → s.enterSending i = u) ∧
    (s.batch.sendOrder = [] → s.pins.resetHeld = false → exec .tallyQueue u = .next (s.enterSending i))) ∧
  (∀ (e : Envelope) (s : State), s.admitsRequest (commandFrame e 8 []) = true → s.currentBatch = none →
    exec (.closeBatch e) s = .next (s.received.answered (commandFrame e 8 []) 10 [8])) ∧
  (∀ (s : State) (l : Lane) (rest : List Lane) (r : LaneRequest) (i : Nat), s.line.state = .run →
    s.currentPlace = none → s.feed.order = l :: rest → (s.lane l).request = some r →
    (∀ (j : Nat) (b : BatchEntry), s.batchAt j = some b → b.number ≠ r.batch) →
    s.batch.places[i]? = some none → (∀ j : Nat, j < i → s.batch.places[j]? ≠ some none) →
    s.choose.currentBatch = some r.batch ∧ s.choose.batch.idle = .running 0 false ∧ s.choose.batch.block = none ∧
    ∃ b : BatchEntry, s.choose.batchAt i = some b ∧ b.number = r.batch ∧ b.state = .opened ∧ b.cause = none ∧
      b.nextSlot = none ∧ b.other = Tally.zero ∧
      b.slots = List.replicate 8 { code := none, counts := Tally.zero }) ∧
  (∀ (s : State) (l : Lane) (rest : List Lane) (r : LaneRequest) (j : Nat) (b : BatchEntry), s.line.state = .run →
    s.currentPlace = none → s.feed.order = l :: rest → (s.lane l).request = some r →
    s.batchAt j = some b → b.number = r.batch →
    s.choose.batch = { s.batch with block := some .numberHeld } ∧ s.choose.faults = s.faults ∧
      s.choose.pieces = s.pieces) ∧
  (∀ (s : State) (l : Lane) (rest : List Lane) (r : LaneRequest), s.line.state = .run →
    s.currentPlace = none → s.feed.order = l :: rest → (s.lane l).request = some r →
    (∀ (j : Nat) (b : BatchEntry), s.batchAt j = some b → b.number ≠ r.batch) →
    (∀ j : Nat, s.batch.places[j]? ≠ some none) →
    s.choose.batch = { s.batch with block := some .listFull } ∧ s.choose.pieces = s.pieces ∧
      (s.batch.block = some .listFull → s.choose.faults = s.faults) ∧
      (s.batch.block ≠ some .listFull →
        State.recorded s s.choose { code := .batchListFull, severity := .piece, piece := none, site := .lane l,
                                    position := none })) ∧
  (∀ s : State, s.line.state = .run → s.currentPlace = none → s.feed.order = [] →
    s.choose.batch = { s.batch with block := none } ∧ s.choose.pieces = s.pieces) ∧
  ∀ s : State, s.line.state ≠ .run ∨ s.currentPlace.isSome = true → s.choose = s

/-- CLEAR_FAULTS empties the fault list and the repeat-fault table and sets the overflow count to 0;
CLEAR_EYES sets the counts of every non-empty entry to 0 and brings degraded eyes back CLEAR; both answer
DONE in every line state and leave all else alone (R34, R36, R158). -/
def Obligations.ClearsTaken : Prop :=
  (∀ (e : Envelope) (s : State), s.admitsRequest (commandFrame e 9 []) = true →
    exec (.clearFaults e) s =
      .next ({ s.received with
        faults := { s.faults with list := [], overflow := 0 }
        eyes := { s.eyes with repeats := [] } }.answered (commandFrame e 9 []) 0 [9])) ∧
  ∀ (e : Envelope) (s : State), s.admitsRequest (commandFrame e 10 []) = true →
    exec (.clearEyes e) s =
      .next ({ s.received with
        eyes := { s.eyes with
          map := s.eyes.map.map fun (x : Eye) =>
            if x.cfg.role = Role.unused then x
            else { x with
              dyn := { x.dyn with
                glitches := 0
                sequence := 0
                degraded := false
                raw := if x.dyn.degraded = true then Edge.clear else x.dyn.raw
                filtered := if x.dyn.degraded = true then Edge.clear else x.dyn.filtered } } } }.answered
        (commandFrame e 10 []) 0 [10])

/-- A REQUEST whose body is none of SEEK, PUT, GET and a known COMMAND with operands of the right length is
answered BAD_REQUEST with no data, and nothing is performed (R180). -/
def Obligations.BadRequestRefused : Prop :=
  ∀ (e : Envelope) (code : Byte) (ops : List Byte) (s : State),
    s.admitsRequest (requestFrame e (code :: ops)) = true → knownRequest (code :: ops) = false →
    exec (.badRequest e (code :: ops)) s =
      .next (s.received.answered (requestFrame e (code :: ops)) 2 [])

/-! ### Operations -/

/-- A fault put into a full list takes the place of the oldest record of the lowest severity when that is
below its own, and is otherwise dropped with the overflow count raised to at most 255; with room it is
appended (R158). A fault recorded is built from the state and goes into the list (R157). Below the alert minimum it
goes no further; otherwise with the hold-off IDLE it queues an ALERT of its own and the hold-off runs from 0, or is
OWED with no place free, and with the hold-off RUNNING or OWED it is merged into the accumulator (R160). -/
def Obligations.FaultInsertion : Prop :=
  (∀ (m : FaultMonitor) (r : FaultRecord), m.list.length < 16 → m.insert r = { m with list := m.list ++ [r] }) ∧
  (∀ (m : FaultMonitor) (r x : FaultRecord) (pre post : List FaultRecord), m.list.length = 16 →
    m.list = pre ++ x :: post → x.severity.number < r.severity.number →
    (∀ y ∈ pre, x.severity.number < y.severity.number) → (∀ y ∈ post, x.severity.number ≤ y.severity.number) →
    m.insert r = { m with list := pre ++ post ++ [r] }) ∧
  (∀ (m : FaultMonitor) (r : FaultRecord), m.list.length = 16 →
    (∀ y ∈ m.list, r.severity.number ≤ y.severity.number) →
    m.insert r = { m with overflow := if m.overflow < 255 then m.overflow + 1 else 255 }) ∧
  (∀ (s : State) (f : Raised), f.severity ≠ .line ∨ s.line.state = .suspect → s.recordFault f = s.logFault f) ∧
  ∀ (s : State) (f : Raised) (r : FaultRecord) (alone : Merged),
    r = { code := f.code, severity := f.severity, stamp := s.travel.ringTime,
          position := (match f.position with | none => s.travel.position | some p => p), piece := f.piece,
          site := f.site, suspect := s.line.state == .suspect } →
    alone = { count := 1, highest := r.severity, code := r.code, piece := r.piece, position := r.position } →
    (r.severity.number < s.mgmt.flow.alertMin.number → s.logFault f = { s with faults := s.faults.insert r }) ∧
    (s.mgmt.flow.alertMin.number ≤ r.severity.number → s.faults.holdoff = .idle → s.freePlaces ≠ 0 →
      s.logFault f = { s with
        faults := { s.faults.insert r with acc := none, holdoff := .running 0 }
        port := { s.port with
          routine := s.port.routine ++ [{ dest := 0, msg := .alert alone, suspect := false }] } }) ∧
    (s.mgmt.flow.alertMin.number ≤ r.severity.number → s.faults.holdoff = .idle → s.freePlaces = 0 →
      s.logFault f = { s with faults := { s.faults.insert r with acc := some alone, holdoff := .owed } }) ∧
    (s.mgmt.flow.alertMin.number ≤ r.severity.number → s.faults.holdoff ≠ .idle →
      s.logFault f = { s with
        faults := { s.faults.insert r with
          acc := some (match s.faults.acc with
            | none => alone
            | some m =>
              { count := if m.count < 255 then m.count + 1 else 255
                highest := if m.highest.number < r.severity.number then r.severity else m.highest
                code := r.code
                piece := r.piece
                position := r.position }) } })

/-- A confirmed CLEAR at INLET is the taken trail of the oldest record in measurement whose span holds its lane and
whose inlet lead is before it; a stale one sets doubt; then comes the trail-final test. One that no such record
takes, or at another checkpoint, changes nothing (R20, R78). A final trail, one predicted at a blind INLET too,
moves the tail of each span lane that the record still owns, gap and owner kept; an anonymous record's takes the
tail of its lane where that is absent or lies before it; and a length outside the snapshot's range is recorded as
LENGTH_LONG or LENGTH_SHORT (R82, R83, R107). The inlet measurement. With no span eye BLOCKED a taken trail becomes
final; at the expected trail with none taken the trail is final by prediction, with doubt; past the measurement
limit it is final at the limit. The measured length is the trail minus the inlet lead, and a length outside the
snapshot's range gives the reason LONG or SHORT to a record that has none (R53, R80 to R82). Slip learning (R90):
with the doubt mark clear the estimate of the lead lane moves by one eighth of the difference to the raw slip,
truncated toward zero, and stays within the slip limit; with doubt it is unchanged; other lanes are unchanged. -/
def Obligations.SlipLearned : Prop :=
  (∀ (s : State) (t : Transition) (r : Piece) (pre post : List Piece) (m : Measurement) (lead : Pos),
    t.kind = .inlet → s.pieces.records = pre ++ r :: post → (∀ q ∈ pre, q.number ≠ r.number) →
    r.measurement = some m → r.inletLead = some lead → spanHas r.span t.lane = true → 0 < (t.pos - lead).toInt →
    (∀ q ∈ pre, q.measurement = none ∨ spanHas q.span t.lane = false ∨ q.inletLead = none ∨
      ∃ x : Pos, q.inletLead = some x ∧ (t.pos - x).toInt ≤ 0) →
    ∃ v : State, s.takeClear t = v.testClearing r.number ∧
      v.findPiece r.number = some { r with
        inletTrail := some t.pos
        measurement := some { m with taken := some t.pos }
        doubt := r.doubt || t.stale } ∧
      (∀ k : Half, k ≠ r.number → v.findPiece k = s.findPiece k) ∧
      (t.stale = true → r.doubt = false →
        State.recorded s v { code := .staleTime, severity := .doubt, piece := some r.number,
                             site := .eye t.node t.channel, position := some t.pos }) ∧
      (t.stale = false ∨ r.doubt = true → v.faults = s.faults) ∧
      v.feed = s.feed ∧ v.line = s.line ∧ v.batch = s.batch ∧ State.sameTracking s v ∧ State.sameOuter s v) ∧
  (∀ (s : State) (t : Transition),
    (t.kind ≠ .inlet ∨ ∀ q ∈ s.pieces.records, q.measurement = none ∨ spanHas q.span t.lane = false ∨
      q.inletLead = none ∨ ∃ x : Pos, q.inletLead = some x ∧ (t.pos - x).toInt ≤ 0) →
    s.takeClear t = s) ∧
  (∀ (s u : State) (n : Half) (r : Piece) (lead trail : Pos), s.findPiece n = some r →
    ((∃ m : Measurement, r.measurement = some m ∧ r.inletLead = some lead ∧
      ((m.taken = some trail ∧ (∀ l, spanHas r.span l = true → s.eyeBlocked .inlet l = false) ∧
          u = s.testClearing n) ∨
        (m.taken = none ∧ (∀ l, spanHas r.span l = true → s.eyeBlocked .inlet l = false) ∧
          trail = lead + BitVec.ofNat 32 (s.lengthBasis r) ∧ 0 ≤ (s.travel.position - trail).toInt ∧
          u = s.testLimit n) ∨
        ((m.taken ≠ none ∨ (∃ l, spanHas r.span l = true ∧ s.eyeBlocked .inlet l = true) ∨
            (s.travel.position - (lead + BitVec.ofNat 32 (s.lengthBasis r))).toInt < 0) ∧
          trail = m.limit ∧ 0 < (s.travel.position - m.limit).toInt ∧ u = s.testLimit n))) ∨
      (∃ w : Window, r.window = some w ∧ w.kind = .inlet ∧ s.blind .inlet r.span = true ∧
        0 ≤ (s.travel.position - w.expected).toInt ∧ lead = w.expected ∧
        trail = lead + BitVec.ofNat 32 (s.lengthBasis r) ∧ u = s.testWindow n)) →
    (r.anonymous = false → ∀ k : Lane,
      u.lane k = { s.lane k with
        tail := (s.lane k).tail.map fun x =>
          if spanHas r.span k = true ∧ x.owner = n then { x with pos := trail } else x }) ∧
    (r.anonymous = true → ∀ k : Lane,
      u.lane k = { s.lane k with
        tail :=
          if k = r.lane ∧ (s.lane k).tail.all (fun x => decide (0 < (trail - x.pos).toInt)) = true then
            some { pos := trail, gap := s.mgmt.flow.trailGap, owner := n }
          else (s.lane k).tail }) ∧
    (∀ a : ArticleData, r.snapshot = some a →
      ((a.maximum : Int) < (trail - lead).toInt →
        State.recorded s u { code := .lengthLong, severity := .piece, piece := some n, site := .lane r.lane,
                             position := some trail }) ∧
      ((trail - lead).toInt ≤ (a.maximum : Int) → (trail - lead).toInt < (a.minimum : Int) →
        State.recorded s u { code := .lengthShort, severity := .piece, piece := some n, site := .lane r.lane,
                             position := some trail }) ∧
      ((trail - lead).toInt ≤ (a.maximum : Int) → (a.minimum : Int) ≤ (trail - lead).toInt →
        u.faults = s.faults)) ∧
    (r.snapshot = none → u.faults = s.faults) ∧ u.line = s.line ∧ u.batch = s.batch ∧
    State.sameTracking s u ∧ State.sameOuter s u) ∧
  (∀ (s : State) (n : Half) (r : Piece) (m : Measurement) (lead trail : Pos), s.findPiece n = some r →
    r.measurement = some m → r.inletLead = some lead →
    (∀ l, spanHas r.span l = true → s.eyeBlocked .inlet l = false) →
    (m.taken = some trail →
      ∃ q : Piece, (s.testClearing n).findPiece n = some q ∧ q.inletTrail = some trail ∧ q.trailFinal = true ∧
        q.measured = some (trail - lead).toInt ∧ q.measurement = none ∧ q.doubt = r.doubt ∧
        q.reject = (if r.reject ≠ .none then r.reject
          else match r.snapshot with
            | none => .none
            | some a =>
              if (a.maximum : Int) < (trail - lead).toInt then .long
              else if (trail - lead).toInt < (a.minimum : Int) then .short else .none)) ∧
    (m.taken = none → s.testClearing n = s) ∧
    (m.taken = none → trail = lead + BitVec.ofNat 32 (s.lengthBasis r) →
      0 ≤ (s.travel.position - trail).toInt →
      ∃ q : Piece, (s.testLimit n).findPiece n = some q ∧ q.inletTrail = some trail ∧ q.trailFinal = true ∧
        q.measured = some (trail - lead).toInt ∧ q.measurement = none ∧ q.doubt = true)) ∧
  (∀ (s : State) (n : Half) (r : Piece) (m : Measurement) (lead : Pos), s.findPiece n = some r →
    r.measurement = some m → r.inletLead = some lead →
    (m.taken ≠ none ∨ (∃ l, spanHas r.span l = true ∧ s.eyeBlocked .inlet l = true) ∨
      (s.travel.position - (lead + BitVec.ofNat 32 (s.lengthBasis r))).toInt < 0) →
    (0 < (s.travel.position - m.limit).toInt →
      ∃ q : Piece, (s.testLimit n).findPiece n = some q ∧ q.inletTrail = some m.limit ∧ q.trailFinal = true ∧
        q.measured = some (m.limit - lead).toInt ∧ q.measurement = none ∧ q.doubt = r.doubt) ∧
    ((s.travel.position - m.limit).toInt ≤ 0 → s.testLimit n = s)) ∧
  (∀ (s : State) (n : Half) (r : Piece) (x i : Pos), s.findPiece n = some r → r.doubt = false →
    r.exitLead = some x → r.inletLead = some i →
    ((s.learnSlip n).matcher.slip.get r.lane =
      max (-(s.mgmt.windows.slipLimit : Int)) (min (s.mgmt.windows.slipLimit : Int)
        (s.matcher.slip.get r.lane +
          Int.tdiv ((x - (i + BitVec.ofNat 32 s.mgmt.windows.ironer)).toInt - s.matcher.slip.get r.lane) 8))) ∧
    |(s.learnSlip n).matcher.slip.get r.lane| ≤ s.mgmt.windows.slipLimit ∧
    ∀ l, l ≠ r.lane → (s.learnSlip n).matcher.slip.get l = s.matcher.slip.get l) ∧
  ∀ (s : State) (n : Half) (r : Piece), s.findPiece n = some r → r.doubt = true → s.learnSlip n = s
end

