-- ==== Sys2Proof/Laws/State.lean ====
section
/-! SUPPORT. What each update of one block leaves of every field of State: one lemma per field per update, all true by unfolding. -/

namespace Sys2Proof.Machine

open Sys2Proof

/-! ### `State.onPins` -/

@[simp] theorem State.onPins_pins (s : State) (f : Pins → Pins) : (s.onPins f).pins = f s.pins := rfl
@[simp] theorem State.onPins_port (s : State) (f : Pins → Pins) : (s.onPins f).port = s.port := rfl
@[simp] theorem State.onPins_travel (s : State) (f : Pins → Pins) : (s.onPins f).travel = s.travel := rfl
@[simp] theorem State.onPins_eyes (s : State) (f : Pins → Pins) : (s.onPins f).eyes = s.eyes := rfl
@[simp] theorem State.onPins_pieces (s : State) (f : Pins → Pins) : (s.onPins f).pieces = s.pieces := rfl
@[simp] theorem State.onPins_matcher (s : State) (f : Pins → Pins) : (s.onPins f).matcher = s.matcher := rfl
@[simp] theorem State.onPins_feed (s : State) (f : Pins → Pins) : (s.onPins f).feed = s.feed := rfl
@[simp] theorem State.onPins_batch (s : State) (f : Pins → Pins) : (s.onPins f).batch = s.batch := rfl
@[simp] theorem State.onPins_folder (s : State) (f : Pins → Pins) : (s.onPins f).folder = s.folder := rfl
@[simp] theorem State.onPins_faults (s : State) (f : Pins → Pins) : (s.onPins f).faults = s.faults := rfl
@[simp] theorem State.onPins_line (s : State) (f : Pins → Pins) : (s.onPins f).line = s.line := rfl
@[simp] theorem State.onPins_mgmt (s : State) (f : Pins → Pins) : (s.onPins f).mgmt = s.mgmt := rfl
@[simp] theorem State.onPins_freeIndex (s : State) (f : Pins → Pins) : (s.onPins f).freeIndex = s.freeIndex := rfl
@[simp] theorem State.onPins_pending (s : State) (f : Pins → Pins) : (s.onPins f).pending = s.pending := rfl

/-! ### `State.onPort` -/

@[simp] theorem State.onPort_pins (s : State) (f : RingPort → RingPort) : (s.onPort f).pins = s.pins := rfl
@[simp] theorem State.onPort_port (s : State) (f : RingPort → RingPort) : (s.onPort f).port = f s.port := rfl
@[simp] theorem State.onPort_travel (s : State) (f : RingPort → RingPort) : (s.onPort f).travel = s.travel := rfl
@[simp] theorem State.onPort_eyes (s : State) (f : RingPort → RingPort) : (s.onPort f).eyes = s.eyes := rfl
@[simp] theorem State.onPort_pieces (s : State) (f : RingPort → RingPort) : (s.onPort f).pieces = s.pieces := rfl
@[simp] theorem State.onPort_matcher (s : State) (f : RingPort → RingPort) : (s.onPort f).matcher = s.matcher := rfl
@[simp] theorem State.onPort_feed (s : State) (f : RingPort → RingPort) : (s.onPort f).feed = s.feed := rfl
@[simp] theorem State.onPort_batch (s : State) (f : RingPort → RingPort) : (s.onPort f).batch = s.batch := rfl
@[simp] theorem State.onPort_folder (s : State) (f : RingPort → RingPort) : (s.onPort f).folder = s.folder := rfl
@[simp] theorem State.onPort_faults (s : State) (f : RingPort → RingPort) : (s.onPort f).faults = s.faults := rfl
@[simp] theorem State.onPort_line (s : State) (f : RingPort → RingPort) : (s.onPort f).line = s.line := rfl
@[simp] theorem State.onPort_mgmt (s : State) (f : RingPort → RingPort) : (s.onPort f).mgmt = s.mgmt := rfl
@[simp] theorem State.onPort_freeIndex (s : State) (f : RingPort → RingPort) : (s.onPort f).freeIndex = s.freeIndex := rfl
@[simp] theorem State.onPort_pending (s : State) (f : RingPort → RingPort) : (s.onPort f).pending = s.pending := rfl

/-! ### `State.onTravel` -/

@[simp] theorem State.onTravel_pins (s : State) (f : TravelUnit → TravelUnit) : (s.onTravel f).pins = s.pins := rfl
@[simp] theorem State.onTravel_port (s : State) (f : TravelUnit → TravelUnit) : (s.onTravel f).port = s.port := rfl
@[simp] theorem State.onTravel_travel (s : State) (f : TravelUnit → TravelUnit) : (s.onTravel f).travel = f s.travel := rfl
@[simp] theorem State.onTravel_eyes (s : State) (f : TravelUnit → TravelUnit) : (s.onTravel f).eyes = s.eyes := rfl
@[simp] theorem State.onTravel_pieces (s : State) (f : TravelUnit → TravelUnit) : (s.onTravel f).pieces = s.pieces := rfl
@[simp] theorem State.onTravel_matcher (s : State) (f : TravelUnit → TravelUnit) : (s.onTravel f).matcher = s.matcher := rfl
@[simp] theorem State.onTravel_feed (s : State) (f : TravelUnit → TravelUnit) : (s.onTravel f).feed = s.feed := rfl
@[simp] theorem State.onTravel_batch (s : State) (f : TravelUnit → TravelUnit) : (s.onTravel f).batch = s.batch := rfl
@[simp] theorem State.onTravel_folder (s : State) (f : TravelUnit → TravelUnit) : (s.onTravel f).folder = s.folder := rfl
@[simp] theorem State.onTravel_faults (s : State) (f : TravelUnit → TravelUnit) : (s.onTravel f).faults = s.faults := rfl
@[simp] theorem State.onTravel_line (s : State) (f : TravelUnit → TravelUnit) : (s.onTravel f).line = s.line := rfl
@[simp] theorem State.onTravel_mgmt (s : State) (f : TravelUnit → TravelUnit) : (s.onTravel f).mgmt = s.mgmt := rfl
@[simp] theorem State.onTravel_freeIndex (s : State) (f : TravelUnit → TravelUnit) : (s.onTravel f).freeIndex = s.freeIndex := rfl
@[simp] theorem State.onTravel_pending (s : State) (f : TravelUnit → TravelUnit) : (s.onTravel f).pending = s.pending := rfl

/-! ### `State.onEyes` -/

@[simp] theorem State.onEyes_pins (s : State) (f : EyeFilter → EyeFilter) : (s.onEyes f).pins = s.pins := rfl
@[simp] theorem State.onEyes_port (s : State) (f : EyeFilter → EyeFilter) : (s.onEyes f).port = s.port := rfl
@[simp] theorem State.onEyes_travel (s : State) (f : EyeFilter → EyeFilter) : (s.onEyes f).travel = s.travel := rfl
@[simp] theorem State.onEyes_eyes (s : State) (f : EyeFilter → EyeFilter) : (s.onEyes f).eyes = f s.eyes := rfl
@[simp] theorem State.onEyes_pieces (s : State) (f : EyeFilter → EyeFilter) : (s.onEyes f).pieces = s.pieces := rfl
@[simp] theorem State.onEyes_matcher (s : State) (f : EyeFilter → EyeFilter) : (s.onEyes f).matcher = s.matcher := rfl
@[simp] theorem State.onEyes_feed (s : State) (f : EyeFilter → EyeFilter) : (s.onEyes f).feed = s.feed := rfl
@[simp] theorem State.onEyes_batch (s : State) (f : EyeFilter → EyeFilter) : (s.onEyes f).batch = s.batch := rfl
@[simp] theorem State.onEyes_folder (s : State) (f : EyeFilter → EyeFilter) : (s.onEyes f).folder = s.folder := rfl
@[simp] theorem State.onEyes_faults (s : State) (f : EyeFilter → EyeFilter) : (s.onEyes f).faults = s.faults := rfl
@[simp] theorem State.onEyes_line (s : State) (f : EyeFilter → EyeFilter) : (s.onEyes f).line = s.line := rfl
@[simp] theorem State.onEyes_mgmt (s : State) (f : EyeFilter → EyeFilter) : (s.onEyes f).mgmt = s.mgmt := rfl
@[simp] theorem State.onEyes_freeIndex (s : State) (f : EyeFilter → EyeFilter) : (s.onEyes f).freeIndex = s.freeIndex := rfl
@[simp] theorem State.onEyes_pending (s : State) (f : EyeFilter → EyeFilter) : (s.onEyes f).pending = s.pending := rfl

/-! ### `State.onPieces` -/

@[simp] theorem State.onPieces_pins (s : State) (f : PieceTable → PieceTable) : (s.onPieces f).pins = s.pins := rfl
@[simp] theorem State.onPieces_port (s : State) (f : PieceTable → PieceTable) : (s.onPieces f).port = s.port := rfl
@[simp] theorem State.onPieces_travel (s : State) (f : PieceTable → PieceTable) : (s.onPieces f).travel = s.travel := rfl
@[simp] theorem State.onPieces_eyes (s : State) (f : PieceTable → PieceTable) : (s.onPieces f).eyes = s.eyes := rfl
@[simp] theorem State.onPieces_pieces (s : State) (f : PieceTable → PieceTable) : (s.onPieces f).pieces = f s.pieces := rfl
@[simp] theorem State.onPieces_matcher (s : State) (f : PieceTable → PieceTable) : (s.onPieces f).matcher = s.matcher := rfl
@[simp] theorem State.onPieces_feed (s : State) (f : PieceTable → PieceTable) : (s.onPieces f).feed = s.feed := rfl
@[simp] theorem State.onPieces_batch (s : State) (f : PieceTable → PieceTable) : (s.onPieces f).batch = s.batch := rfl
@[simp] theorem State.onPieces_folder (s : State) (f : PieceTable → PieceTable) : (s.onPieces f).folder = s.folder := rfl
@[simp] theorem State.onPieces_faults (s : State) (f : PieceTable → PieceTable) : (s.onPieces f).faults = s.faults := rfl
@[simp] theorem State.onPieces_line (s : State) (f : PieceTable → PieceTable) : (s.onPieces f).line = s.line := rfl
@[simp] theorem State.onPieces_mgmt (s : State) (f : PieceTable → PieceTable) : (s.onPieces f).mgmt = s.mgmt := rfl
@[simp] theorem State.onPieces_freeIndex (s : State) (f : PieceTable → PieceTable) : (s.onPieces f).freeIndex = s.freeIndex := rfl
@[simp] theorem State.onPieces_pending (s : State) (f : PieceTable → PieceTable) : (s.onPieces f).pending = s.pending := rfl

/-! ### `State.onMatcher` -/

@[simp] theorem State.onMatcher_pins (s : State) (f : Matcher → Matcher) : (s.onMatcher f).pins = s.pins := rfl
@[simp] theorem State.onMatcher_port (s : State) (f : Matcher → Matcher) : (s.onMatcher f).port = s.port := rfl
@[simp] theorem State.onMatcher_travel (s : State) (f : Matcher → Matcher) : (s.onMatcher f).travel = s.travel := rfl
@[simp] theorem State.onMatcher_eyes (s : State) (f : Matcher → Matcher) : (s.onMatcher f).eyes = s.eyes := rfl
@[simp] theorem State.onMatcher_pieces (s : State) (f : Matcher → Matcher) : (s.onMatcher f).pieces = s.pieces := rfl
@[simp] theorem State.onMatcher_matcher (s : State) (f : Matcher → Matcher) : (s.onMatcher f).matcher = f s.matcher := rfl
@[simp] theorem State.onMatcher_feed (s : State) (f : Matcher → Matcher) : (s.onMatcher f).feed = s.feed := rfl
@[simp] theorem State.onMatcher_batch (s : State) (f : Matcher → Matcher) : (s.onMatcher f).batch = s.batch := rfl
@[simp] theorem State.onMatcher_folder (s : State) (f : Matcher → Matcher) : (s.onMatcher f).folder = s.folder := rfl
@[simp] theorem State.onMatcher_faults (s : State) (f : Matcher → Matcher) : (s.onMatcher f).faults = s.faults := rfl
@[simp] theorem State.onMatcher_line (s : State) (f : Matcher → Matcher) : (s.onMatcher f).line = s.line := rfl
@[simp] theorem State.onMatcher_mgmt (s : State) (f : Matcher → Matcher) : (s.onMatcher f).mgmt = s.mgmt := rfl
@[simp] theorem State.onMatcher_freeIndex (s : State) (f : Matcher → Matcher) : (s.onMatcher f).freeIndex = s.freeIndex := rfl
@[simp] theorem State.onMatcher_pending (s : State) (f : Matcher → Matcher) : (s.onMatcher f).pending = s.pending := rfl

/-! ### `State.onFeed` -/

@[simp] theorem State.onFeed_pins (s : State) (f : FeedSequencer → FeedSequencer) : (s.onFeed f).pins = s.pins := rfl
@[simp] theorem State.onFeed_port (s : State) (f : FeedSequencer → FeedSequencer) : (s.onFeed f).port = s.port := rfl
@[simp] theorem State.onFeed_travel (s : State) (f : FeedSequencer → FeedSequencer) : (s.onFeed f).travel = s.travel := rfl
@[simp] theorem State.onFeed_eyes (s : State) (f : FeedSequencer → FeedSequencer) : (s.onFeed f).eyes = s.eyes := rfl
@[simp] theorem State.onFeed_pieces (s : State) (f : FeedSequencer → FeedSequencer) : (s.onFeed f).pieces = s.pieces := rfl
@[simp] theorem State.onFeed_matcher (s : State) (f : FeedSequencer → FeedSequencer) : (s.onFeed f).matcher = s.matcher := rfl
@[simp] theorem State.onFeed_feed (s : State) (f : FeedSequencer → FeedSequencer) : (s.onFeed f).feed = f s.feed := rfl
@[simp] theorem State.onFeed_batch (s : State) (f : FeedSequencer → FeedSequencer) : (s.onFeed f).batch = s.batch := rfl
@[simp] theorem State.onFeed_folder (s : State) (f : FeedSequencer → FeedSequencer) : (s.onFeed f).folder = s.folder := rfl
@[simp] theorem State.onFeed_faults (s : State) (f : FeedSequencer → FeedSequencer) : (s.onFeed f).faults = s.faults := rfl
@[simp] theorem State.onFeed_line (s : State) (f : FeedSequencer → FeedSequencer) : (s.onFeed f).line = s.line := rfl
@[simp] theorem State.onFeed_mgmt (s : State) (f : FeedSequencer → FeedSequencer) : (s.onFeed f).mgmt = s.mgmt := rfl
@[simp] theorem State.onFeed_freeIndex (s : State) (f : FeedSequencer → FeedSequencer) : (s.onFeed f).freeIndex = s.freeIndex := rfl
@[simp] theorem State.onFeed_pending (s : State) (f : FeedSequencer → FeedSequencer) : (s.onFeed f).pending = s.pending := rfl

/-! ### `State.onBatch` -/

@[simp] theorem State.onBatch_pins (s : State) (f : BatchCounter → BatchCounter) : (s.onBatch f).pins = s.pins := rfl
@[simp] theorem State.onBatch_port (s : State) (f : BatchCounter → BatchCounter) : (s.onBatch f).port = s.port := rfl
@[simp] theorem State.onBatch_travel (s : State) (f : BatchCounter → BatchCounter) : (s.onBatch f).travel = s.travel := rfl
@[simp] theorem State.onBatch_eyes (s : State) (f : BatchCounter → BatchCounter) : (s.onBatch f).eyes = s.eyes := rfl
@[simp] theorem State.onBatch_pieces (s : State) (f : BatchCounter → BatchCounter) : (s.onBatch f).pieces = s.pieces := rfl
@[simp] theorem State.onBatch_matcher (s : State) (f : BatchCounter → BatchCounter) : (s.onBatch f).matcher = s.matcher := rfl
@[simp] theorem State.onBatch_feed (s : State) (f : BatchCounter → BatchCounter) : (s.onBatch f).feed = s.feed := rfl
@[simp] theorem State.onBatch_batch (s : State) (f : BatchCounter → BatchCounter) : (s.onBatch f).batch = f s.batch := rfl
@[simp] theorem State.onBatch_folder (s : State) (f : BatchCounter → BatchCounter) : (s.onBatch f).folder = s.folder := rfl
@[simp] theorem State.onBatch_faults (s : State) (f : BatchCounter → BatchCounter) : (s.onBatch f).faults = s.faults := rfl
@[simp] theorem State.onBatch_line (s : State) (f : BatchCounter → BatchCounter) : (s.onBatch f).line = s.line := rfl
@[simp] theorem State.onBatch_mgmt (s : State) (f : BatchCounter → BatchCounter) : (s.onBatch f).mgmt = s.mgmt := rfl
@[simp] theorem State.onBatch_freeIndex (s : State) (f : BatchCounter → BatchCounter) : (s.onBatch f).freeIndex = s.freeIndex := rfl
@[simp] theorem State.onBatch_pending (s : State) (f : BatchCounter → BatchCounter) : (s.onBatch f).pending = s.pending := rfl

/-! ### `State.onFolder` -/

@[simp] theorem State.onFolder_pins (s : State) (f : FolderHandoff → FolderHandoff) : (s.onFolder f).pins = s.pins := rfl
@[simp] theorem State.onFolder_port (s : State) (f : FolderHandoff → FolderHandoff) : (s.onFolder f).port = s.port := rfl
@[simp] theorem State.onFolder_travel (s : State) (f : FolderHandoff → FolderHandoff) : (s.onFolder f).travel = s.travel := rfl
@[simp] theorem State.onFolder_eyes (s : State) (f : FolderHandoff → FolderHandoff) : (s.onFolder f).eyes = s.eyes := rfl
@[simp] theorem State.onFolder_pieces (s : State) (f : FolderHandoff → FolderHandoff) : (s.onFolder f).pieces = s.pieces := rfl
@[simp] theorem State.onFolder_matcher (s : State) (f : FolderHandoff → FolderHandoff) : (s.onFolder f).matcher = s.matcher := rfl
@[simp] theorem State.onFolder_feed (s : State) (f : FolderHandoff → FolderHandoff) : (s.onFolder f).feed = s.feed := rfl
@[simp] theorem State.onFolder_batch (s : State) (f : FolderHandoff → FolderHandoff) : (s.onFolder f).batch = s.batch := rfl
@[simp] theorem State.onFolder_folder (s : State) (f : FolderHandoff → FolderHandoff) : (s.onFolder f).folder = f s.folder := rfl
@[simp] theorem State.onFolder_faults (s : State) (f : FolderHandoff → FolderHandoff) : (s.onFolder f).faults = s.faults := rfl
@[simp] theorem State.onFolder_line (s : State) (f : FolderHandoff → FolderHandoff) : (s.onFolder f).line = s.line := rfl
@[simp] theorem State.onFolder_mgmt (s : State) (f : FolderHandoff → FolderHandoff) : (s.onFolder f).mgmt = s.mgmt := rfl
@[simp] theorem State.onFolder_freeIndex (s : State) (f : FolderHandoff → FolderHandoff) : (s.onFolder f).freeIndex = s.freeIndex := rfl
@[simp] theorem State.onFolder_pending (s : State) (f : FolderHandoff → FolderHandoff) : (s.onFolder f).pending = s.pending := rfl

/-! ### `State.onFaults` -/

@[simp] theorem State.onFaults_pins (s : State) (f : FaultMonitor → FaultMonitor) : (s.onFaults f).pins = s.pins := rfl
@[simp] theorem State.onFaults_port (s : State) (f : FaultMonitor → FaultMonitor) : (s.onFaults f).port = s.port := rfl
@[simp] theorem State.onFaults_travel (s : State) (f : FaultMonitor → FaultMonitor) : (s.onFaults f).travel = s.travel := rfl
@[simp] theorem State.onFaults_eyes (s : State) (f : FaultMonitor → FaultMonitor) : (s.onFaults f).eyes = s.eyes := rfl
@[simp] theorem State.onFaults_pieces (s : State) (f : FaultMonitor → FaultMonitor) : (s.onFaults f).pieces = s.pieces := rfl
@[simp] theorem State.onFaults_matcher (s : State) (f : FaultMonitor → FaultMonitor) : (s.onFaults f).matcher = s.matcher := rfl
@[simp] theorem State.onFaults_feed (s : State) (f : FaultMonitor → FaultMonitor) : (s.onFaults f).feed = s.feed := rfl
@[simp] theorem State.onFaults_batch (s : State) (f : FaultMonitor → FaultMonitor) : (s.onFaults f).batch = s.batch := rfl
@[simp] theorem State.onFaults_folder (s : State) (f : FaultMonitor → FaultMonitor) : (s.onFaults f).folder = s.folder := rfl
@[simp] theorem State.onFaults_faults (s : State) (f : FaultMonitor → FaultMonitor) : (s.onFaults f).faults = f s.faults := rfl
@[simp] theorem State.onFaults_line (s : State) (f : FaultMonitor → FaultMonitor) : (s.onFaults f).line = s.line := rfl
@[simp] theorem State.onFaults_mgmt (s : State) (f : FaultMonitor → FaultMonitor) : (s.onFaults f).mgmt = s.mgmt := rfl
@[simp] theorem State.onFaults_freeIndex (s : State) (f : FaultMonitor → FaultMonitor) : (s.onFaults f).freeIndex = s.freeIndex := rfl
@[simp] theorem State.onFaults_pending (s : State) (f : FaultMonitor → FaultMonitor) : (s.onFaults f).pending = s.pending := rfl

/-! ### `State.onLine` -/

@[simp] theorem State.onLine_pins (s : State) (f : LineControl → LineControl) : (s.onLine f).pins = s.pins := rfl
@[simp] theorem State.onLine_port (s : State) (f : LineControl → LineControl) : (s.onLine f).port = s.port := rfl
@[simp] theorem State.onLine_travel (s : State) (f : LineControl → LineControl) : (s.onLine f).travel = s.travel := rfl
@[simp] theorem State.onLine_eyes (s : State) (f : LineControl → LineControl) : (s.onLine f).eyes = s.eyes := rfl
@[simp] theorem State.onLine_pieces (s : State) (f : LineControl → LineControl) : (s.onLine f).pieces = s.pieces := rfl
@[simp] theorem State.onLine_matcher (s : State) (f : LineControl → LineControl) : (s.onLine f).matcher = s.matcher := rfl
@[simp] theorem State.onLine_feed (s : State) (f : LineControl → LineControl) : (s.onLine f).feed = s.feed := rfl
@[simp] theorem State.onLine_batch (s : State) (f : LineControl → LineControl) : (s.onLine f).batch = s.batch := rfl
@[simp] theorem State.onLine_folder (s : State) (f : LineControl → LineControl) : (s.onLine f).folder = s.folder := rfl
@[simp] theorem State.onLine_faults (s : State) (f : LineControl → LineControl) : (s.onLine f).faults = s.faults := rfl
@[simp] theorem State.onLine_line (s : State) (f : LineControl → LineControl) : (s.onLine f).line = f s.line := rfl
@[simp] theorem State.onLine_mgmt (s : State) (f : LineControl → LineControl) : (s.onLine f).mgmt = s.mgmt := rfl
@[simp] theorem State.onLine_freeIndex (s : State) (f : LineControl → LineControl) : (s.onLine f).freeIndex = s.freeIndex := rfl
@[simp] theorem State.onLine_pending (s : State) (f : LineControl → LineControl) : (s.onLine f).pending = s.pending := rfl

/-! ### `State.onMgmt` -/

@[simp] theorem State.onMgmt_pins (s : State) (f : Management → Management) : (s.onMgmt f).pins = s.pins := rfl
@[simp] theorem State.onMgmt_port (s : State) (f : Management → Management) : (s.onMgmt f).port = s.port := rfl
@[simp] theorem State.onMgmt_travel (s : State) (f : Management → Management) : (s.onMgmt f).travel = s.travel := rfl
@[simp] theorem State.onMgmt_eyes (s : State) (f : Management → Management) : (s.onMgmt f).eyes = s.eyes := rfl
@[simp] theorem State.onMgmt_pieces (s : State) (f : Management → Management) : (s.onMgmt f).pieces = s.pieces := rfl
@[simp] theorem State.onMgmt_matcher (s : State) (f : Management → Management) : (s.onMgmt f).matcher = s.matcher := rfl
@[simp] theorem State.onMgmt_feed (s : State) (f : Management → Management) : (s.onMgmt f).feed = s.feed := rfl
@[simp] theorem State.onMgmt_batch (s : State) (f : Management → Management) : (s.onMgmt f).batch = s.batch := rfl
@[simp] theorem State.onMgmt_folder (s : State) (f : Management → Management) : (s.onMgmt f).folder = s.folder := rfl
@[simp] theorem State.onMgmt_faults (s : State) (f : Management → Management) : (s.onMgmt f).faults = s.faults := rfl
@[simp] theorem State.onMgmt_line (s : State) (f : Management → Management) : (s.onMgmt f).line = s.line := rfl
@[simp] theorem State.onMgmt_mgmt (s : State) (f : Management → Management) : (s.onMgmt f).mgmt = f s.mgmt := rfl
@[simp] theorem State.onMgmt_freeIndex (s : State) (f : Management → Management) : (s.onMgmt f).freeIndex = s.freeIndex := rfl
@[simp] theorem State.onMgmt_pending (s : State) (f : Management → Management) : (s.onMgmt f).pending = s.pending := rfl

/-! ### Lanes -/

@[simp] theorem PerLane.get_set_self {α : Type} (p : PerLane α) (l : Lane) (a : α) : (p.set l a).get l = a := by
  cases l <;> rfl

theorem PerLane.get_set_other {α : Type} (p : PerLane α) {l k : Lane} (a : α) (h : k ≠ l) :
    (p.set l a).get k = p.get k := by
  cases l <;> cases k <;> first | rfl | exact absurd rfl h

@[simp] theorem PerLane.get_map {α : Type} (p : PerLane α) (f : α → α) (l : Lane) : (p.map f).get l = f (p.get l) := by
  cases l <;> rfl

@[simp] theorem State.onLane_lane_self (s : State) (l : Lane) (f : LaneEntry → LaneEntry) :
    (s.onLane l f).lane l = f (s.lane l) := by
  simp [State.onLane, State.lane]

theorem State.onLane_lane_other (s : State) {l k : Lane} (f : LaneEntry → LaneEntry) (h : k ≠ l) :
    (s.onLane l f).lane k = s.lane k := by
  simp [State.onLane, State.lane, PerLane.get_set_other _ _ h]

/-- The number of a lane names it, and only numbers 1 to 4 name one. -/
theorem Lane.ofNumber_eq_some {n : Nat} {l : Lane} : Lane.ofNumber n = some l ↔ n = l.number := by
  constructor
  · intro h
    unfold Lane.ofNumber at h
    split at h <;> simp_all [Lane.number] <;> subst h <;> rfl
  · rintro rfl
    cases l <;> rfl

theorem Lane.ofNumber_eq_none {n : Nat} : Lane.ofNumber n = none ↔ n = 0 ∨ 4 < n := by
  unfold Lane.ofNumber
  split <;> simp_all <;> omega

end Sys2Proof.Machine
end

