-- ==== Sys2Proof/Laws/Frame.lean ====
section
/-! SUPPORT. What the shared operations leave alone: four relations between the state before and after, from the narrowest to the widest, and one lemma per operation. -/

namespace Sys2Proof.Machine

open Sys2Proof

/-! ### The relations -/

/-- Of the Ring Port, nothing but the two insertion queues changed. -/
def RingPort.queuesOnly (p q : RingPort) : Prop := q = { p with urgent := q.urgent, routine := q.routine }

/-- What the Feed Sequencer's operations can change: records, lanes, batches and the urgent queue. -/
structure State.FeedOnly (s t : State) : Prop where
  pins : t.pins = s.pins
  port : s.port.queuesOnly t.port
  routine : t.port.routine = s.port.routine
  travel : t.travel = s.travel
  eyes : t.eyes = s.eyes
  matcher : t.matcher = s.matcher
  folder : t.folder = s.folder
  faults : t.faults = s.faults
  line : t.line = s.line
  mgmt : t.mgmt = s.mgmt
  freeIndex : t.freeIndex = s.freeIndex
  pending : t.pending = s.pending

/-- What the Batch Counter's and the Fault Monitor's operations can change: beside these, the faults and
the routine queue. -/
structure State.LotsOnly (s t : State) : Prop where
  pins : t.pins = s.pins
  port : s.port.queuesOnly t.port
  travel : t.travel = s.travel
  eyes : t.eyes = s.eyes
  matcher : t.matcher = s.matcher
  folder : t.folder = s.folder
  line : t.line = s.line
  mgmt : t.mgmt = s.mgmt
  freeIndex : t.freeIndex = s.freeIndex
  pending : t.pending = s.pending

/-- What Line Control's operations can change: beside these, the line state. -/
structure State.LineOnly (s t : State) : Prop where
  pins : t.pins = s.pins
  port : s.port.queuesOnly t.port
  travel : t.travel = s.travel
  eyes : t.eyes = s.eyes
  matcher : t.matcher = s.matcher
  folder : t.folder = s.folder
  mgmt : t.mgmt = s.mgmt
  freeIndex : t.freeIndex = s.freeIndex
  pending : t.pending = s.pending

/-- What a taken frame or an applied sample can change: everything but the pins, the rest of the Ring
Port, the travel state, the tables, the free-value counter and the waiting commands. -/
structure State.TrackOnly (s t : State) : Prop where
  pins : t.pins = s.pins
  port : s.port.queuesOnly t.port
  travel : t.travel = s.travel
  mgmt : t.mgmt = s.mgmt
  freeIndex : t.freeIndex = s.freeIndex
  pending : t.pending = s.pending

theorem RingPort.queuesOnly_rfl (p : RingPort) : p.queuesOnly p := rfl

theorem RingPort.queuesOnly_trans {p q r : RingPort} (h : p.queuesOnly q) (k : q.queuesOnly r) : p.queuesOnly r := by
  unfold RingPort.queuesOnly at *
  rw [k, h]

theorem State.FeedOnly.rfl' (s : State) : s.FeedOnly s :=
  ⟨rfl, rfl, rfl, rfl, rfl, rfl, rfl, rfl, rfl, rfl, rfl, rfl⟩

theorem State.LotsOnly.rfl' (s : State) : s.LotsOnly s := ⟨rfl, rfl, rfl, rfl, rfl, rfl, rfl, rfl, rfl, rfl⟩

theorem State.LineOnly.rfl' (s : State) : s.LineOnly s := ⟨rfl, rfl, rfl, rfl, rfl, rfl, rfl, rfl, rfl⟩

theorem State.TrackOnly.rfl' (s : State) : s.TrackOnly s := ⟨rfl, rfl, rfl, rfl, rfl, rfl⟩

theorem State.FeedOnly.trans {s t u : State} (h : s.FeedOnly t) (k : t.FeedOnly u) : s.FeedOnly u :=
  ⟨k.pins.trans h.pins, RingPort.queuesOnly_trans h.port k.port, k.routine.trans h.routine,
   k.travel.trans h.travel, k.eyes.trans h.eyes, k.matcher.trans h.matcher, k.folder.trans h.folder,
   k.faults.trans h.faults, k.line.trans h.line, k.mgmt.trans h.mgmt, k.freeIndex.trans h.freeIndex,
   k.pending.trans h.pending⟩

theorem State.LotsOnly.trans {s t u : State} (h : s.LotsOnly t) (k : t.LotsOnly u) : s.LotsOnly u :=
  ⟨k.pins.trans h.pins, RingPort.queuesOnly_trans h.port k.port, k.travel.trans h.travel, k.eyes.trans h.eyes,
   k.matcher.trans h.matcher, k.folder.trans h.folder, k.line.trans h.line, k.mgmt.trans h.mgmt,
   k.freeIndex.trans h.freeIndex, k.pending.trans h.pending⟩

theorem State.LineOnly.trans {s t u : State} (h : s.LineOnly t) (k : t.LineOnly u) : s.LineOnly u :=
  ⟨k.pins.trans h.pins, RingPort.queuesOnly_trans h.port k.port, k.travel.trans h.travel, k.eyes.trans h.eyes,
   k.matcher.trans h.matcher, k.folder.trans h.folder, k.mgmt.trans h.mgmt, k.freeIndex.trans h.freeIndex,
   k.pending.trans h.pending⟩

theorem State.TrackOnly.trans {s t u : State} (h : s.TrackOnly t) (k : t.TrackOnly u) : s.TrackOnly u :=
  ⟨k.pins.trans h.pins, RingPort.queuesOnly_trans h.port k.port, k.travel.trans h.travel, k.mgmt.trans h.mgmt,
   k.freeIndex.trans h.freeIndex, k.pending.trans h.pending⟩

theorem State.FeedOnly.lots {s t : State} (h : s.FeedOnly t) : s.LotsOnly t :=
  ⟨h.pins, h.port, h.travel, h.eyes, h.matcher, h.folder, h.line, h.mgmt, h.freeIndex, h.pending⟩

theorem State.LotsOnly.lineOnly {s t : State} (h : s.LotsOnly t) : s.LineOnly t :=
  ⟨h.pins, h.port, h.travel, h.eyes, h.matcher, h.folder, h.mgmt, h.freeIndex, h.pending⟩

theorem State.LineOnly.track {s t : State} (h : s.LineOnly t) : s.TrackOnly t :=
  ⟨h.pins, h.port, h.travel, h.mgmt, h.freeIndex, h.pending⟩

/-- A fold keeps a relation that holds for nothing done, composes, and holds of each of its steps. -/
theorem foldl_keeps {α : Type} {R : State → State → Prop} (hr : ∀ s, R s s)
    (ht : ∀ {s t u}, R s t → R t u → R s u) {f : State → α → State} (hf : ∀ s a, R s (f s a)) :
    ∀ (l : List α) (s : State), R s (l.foldl f s) := by
  intro l
  induction l with
  | nil => exact hr
  | cons a rest ih => exact fun s => ht (hf s a) (ih (f s a))

/-! ### Single updates -/

theorem State.onFeed_feedOnly (s : State) (f : FeedSequencer → FeedSequencer) : s.FeedOnly (s.onFeed f) :=
  ⟨rfl, rfl, rfl, rfl, rfl, rfl, rfl, rfl, rfl, rfl, rfl, rfl⟩

theorem State.onBatch_feedOnly (s : State) (f : BatchCounter → BatchCounter) : s.FeedOnly (s.onBatch f) :=
  ⟨rfl, rfl, rfl, rfl, rfl, rfl, rfl, rfl, rfl, rfl, rfl, rfl⟩

theorem State.onPieces_feedOnly (s : State) (f : PieceTable → PieceTable) : s.FeedOnly (s.onPieces f) :=
  ⟨rfl, rfl, rfl, rfl, rfl, rfl, rfl, rfl, rfl, rfl, rfl, rfl⟩

theorem State.pushUrgent_feedOnly (s : State) (q : Queued) : s.FeedOnly (s.pushUrgent q) :=
  ⟨rfl, rfl, rfl, rfl, rfl, rfl, rfl, rfl, rfl, rfl, rfl, rfl⟩

theorem State.onFaults_lotsOnly (s : State) (f : FaultMonitor → FaultMonitor) : s.LotsOnly (s.onFaults f) :=
  ⟨rfl, rfl, rfl, rfl, rfl, rfl, rfl, rfl, rfl, rfl⟩

theorem State.pushRoutine_lotsOnly (s : State) (d : Byte) (m : Message) : s.LotsOnly (s.pushRoutine d m) :=
  ⟨rfl, rfl, rfl, rfl, rfl, rfl, rfl, rfl, rfl, rfl⟩

theorem State.onLine_lineOnly (s : State) (f : LineControl → LineControl) : s.LineOnly (s.onLine f) :=
  ⟨rfl, rfl, rfl, rfl, rfl, rfl, rfl, rfl, rfl⟩

theorem State.onEyes_trackOnly (s : State) (f : EyeFilter → EyeFilter) : s.TrackOnly (s.onEyes f) :=
  ⟨rfl, rfl, rfl, rfl, rfl, rfl⟩

theorem State.onMatcher_trackOnly (s : State) (f : Matcher → Matcher) : s.TrackOnly (s.onMatcher f) :=
  ⟨rfl, rfl, rfl, rfl, rfl, rfl⟩

theorem State.onFolder_trackOnly (s : State) (f : FolderHandoff → FolderHandoff) : s.TrackOnly (s.onFolder f) :=
  ⟨rfl, rfl, rfl, rfl, rfl, rfl⟩

/-! ### Queues -/

theorem State.queueFeedState_feedOnly (s : State) (c : FeedCondition) : s.FeedOnly (s.queueFeedState c) := by
  unfold State.queueFeedState
  split
  · exact ⟨rfl, rfl, rfl, rfl, rfl, rfl, rfl, rfl, rfl, rfl, rfl, rfl⟩
  · exact s.pushUrgent_feedOnly _

theorem State.withdrawGrant_feedOnly (s : State) (n : Half) : s.FeedOnly (s.withdrawGrant n) :=
  ⟨rfl, rfl, rfl, rfl, rfl, rfl, rfl, rfl, rfl, rfl, rfl, rfl⟩

theorem State.withdrawTicket_feedOnly (s : State) (n : Half) : s.FeedOnly (s.withdrawTicket n) :=
  ⟨rfl, rfl, rfl, rfl, rfl, rfl, rfl, rfl, rfl, rfl, rfl, rfl⟩

theorem State.withdrawGrants_feedOnly (s : State) : s.FeedOnly s.withdrawGrants :=
  ⟨rfl, rfl, rfl, rfl, rfl, rfl, rfl, rfl, rfl, rfl, rfl, rfl⟩

theorem State.withdrawGrantsAndTickets_feedOnly (s : State) : s.FeedOnly s.withdrawGrantsAndTickets :=
  ⟨rfl, rfl, rfl, rfl, rfl, rfl, rfl, rfl, rfl, rfl, rfl, rfl⟩

theorem State.markTickets_feedOnly (s : State) : s.FeedOnly s.markTickets :=
  ⟨rfl, rfl, rfl, rfl, rfl, rfl, rfl, rfl, rfl, rfl, rfl, rfl⟩

/-! ### The Feed Sequencer -/

theorem State.refreshFeed_feedOnly (s : State) : s.FeedOnly s.refreshFeed := by
  unfold State.refreshFeed
  split
  · exact .rfl' s
  · exact (s.onFeed_feedOnly _).trans (State.queueFeedState_feedOnly _ _)

theorem State.testHold_feedOnly (s : State) : s.FeedOnly s.testHold :=
  (s.onFeed_feedOnly _).trans (State.refreshFeed_feedOnly _)

theorem State.onLane_feedOnly (s : State) (l : Lane) (f : LaneEntry → LaneEntry) : s.FeedOnly (s.onLane l f) :=
  s.onFeed_feedOnly _

theorem State.setTails_feedOnly (s : State) (sp : Span) (t : Tail) : s.FeedOnly (s.setTails sp t) :=
  foldl_keeps State.FeedOnly.rfl' State.FeedOnly.trans (fun u k => u.onLane_feedOnly k _) _ s

theorem State.batchGranted_feedOnly (s : State) (n : Half) : s.FeedOnly (s.batchGranted n) := by
  unfold State.batchGranted State.restartIdle State.onBatchNumber
  exact (s.onBatch_feedOnly _).trans (State.onBatch_feedOnly _ _)

theorem State.leaveOrder_feedOnly (s : State) (l : Lane) : s.FeedOnly (s.leaveOrder l) := s.onFeed_feedOnly _

theorem State.restLane_feedOnly (s : State) (l : Lane) (run : LaneRun) : s.FeedOnly (s.restLane l run) :=
  (s.onLane_feedOnly l _).trans (State.leaveOrder_feedOnly _ _)

theorem State.joinFront_feedOnly (s : State) (l : Lane) : s.FeedOnly (s.joinFront l) := s.onFeed_feedOnly _

theorem State.grantLane_feedOnly (s : State) (l : Lane) (p : Piece) : s.FeedOnly (s.grantLane l p) :=
  ((s.restLane_feedOnly l _).trans (State.setTails_feedOnly _ _ _)).trans (State.onFeed_feedOnly _ _)

theorem State.grant_feedOnly (s : State) (l : Lane) (r : LaneRequest) : s.FeedOnly (s.grant l r) := by
  unfold State.grant
  split
  · exact .rfl' s
  · exact ((((((s.onPieces_feedOnly _).trans (State.onPieces_feedOnly _ _)).trans
      (State.grantLane_feedOnly _ _ _)).trans (State.onFeed_feedOnly _ _)).trans
      (State.testHold_feedOnly _)).trans (State.batchGranted_feedOnly _ _)).trans
      (State.pushUrgent_feedOnly _ _)

theorem State.tryLane_feedOnly (s : State) (l : Lane) : s.FeedOnly (s.tryLane l) := by
  unfold State.tryLane
  split
  · split
    · exact s.grant_feedOnly _ _
    · exact .rfl' s
  · exact .rfl' s

theorem State.dropTails_feedOnly (s : State) : s.FeedOnly s.dropTails := s.onFeed_feedOnly _

theorem State.evaluate_feedOnly (s : State) : s.FeedOnly s.evaluate :=
  s.dropTails_feedOnly.trans (foldl_keeps State.FeedOnly.rfl' State.FeedOnly.trans State.tryLane_feedOnly _ _)

theorem State.retestHold_feedOnly (s : State) : s.FeedOnly s.retestHold := by
  unfold State.retestHold
  split
  · exact s.testHold_feedOnly.trans (State.evaluate_feedOnly _)
  · exact s.testHold_feedOnly

theorem State.laneToIdle_feedOnly (s : State) (l : Lane) : s.FeedOnly (s.laneToIdle l) :=
  (s.restLane_feedOnly l _).trans (State.evaluate_feedOnly _)

/-! ### The Fault Monitor -/

theorem State.queueAlert_lotsOnly (s : State) : s.LotsOnly s.queueAlert := by
  unfold State.queueAlert
  split
  · exact .rfl' s
  · split
    · exact s.onFaults_lotsOnly _
    · exact (s.pushRoutine_lotsOnly _ _).trans (State.onFaults_lotsOnly _ _)

theorem State.offerAlert_lotsOnly (s : State) (r : FaultRecord) : s.LotsOnly (s.offerAlert r) := by
  unfold State.offerAlert
  split
  · exact .rfl' s
  · split
    · exact (s.onFaults_lotsOnly _).trans (State.queueAlert_lotsOnly _)
    · exact s.onFaults_lotsOnly _
    · exact s.onFaults_lotsOnly _

theorem State.logFault_lotsOnly (s : State) (f : Raised) : s.LotsOnly (s.logFault f) :=
  (s.onFaults_lotsOnly _).trans (State.offerAlert_lotsOnly _ _)

theorem State.logRepeating_trackOnly (s : State) (k : RepeatKey) (f : Raised) : s.TrackOnly (s.logRepeating k f) := by
  unfold State.logRepeating
  split
  · exact .rfl' s
  · split
    · exact (s.onEyes_trackOnly _).trans (State.logFault_lotsOnly _ _).lineOnly.track
    · exact (s.logFault_lotsOnly f).lineOnly.track

theorem State.queueLineState_lineOnly (s : State) : s.LineOnly s.queueLineState := by
  unfold State.queueLineState
  split
  · exact (s.pushRoutine_lotsOnly _ _).lineOnly.trans (State.onLine_lineOnly _ _)
  · exact .rfl' s

theorem State.oweLineState_lineOnly (s : State) : s.LineOnly s.oweLineState :=
  (s.onLine_lineOnly _).trans (State.queueLineState_lineOnly _)

/-! ### The Batch Counter -/

theorem State.clearBlock_feedOnly (s : State) : s.FeedOnly s.clearBlock := by
  unfold State.clearBlock
  split
  · exact .rfl' s
  · exact (s.onBatch_feedOnly _).trans (State.refreshFeed_feedOnly _)

theorem State.setBlock_lotsOnly (s : State) (c : BlockCause) (l : Lane) : s.LotsOnly (s.setBlock c l) := by
  unfold State.setBlock
  split
  · exact .rfl' s
  · split
    · exact ((s.onBatch_feedOnly _).trans (State.refreshFeed_feedOnly _)).lots
    · exact ((s.onBatch_feedOnly _).trans (State.refreshFeed_feedOnly _)).lots.trans (State.logFault_lotsOnly _ _)

theorem State.openBatch_feedOnly (s : State) (i : Nat) (n : Half) : s.FeedOnly (s.openBatch i n) :=
  (((s.onBatch_feedOnly _).trans (State.onBatch_feedOnly _ _)).trans (State.refreshFeed_feedOnly _)).trans
    (State.evaluate_feedOnly _)

theorem State.choose_lotsOnly (s : State) : s.LotsOnly s.choose := by
  unfold State.choose
  split
  · exact .rfl' s
  · split
    · exact s.clearBlock_feedOnly.lots
    · split
      · exact .rfl' s
      · split
        · exact s.setBlock_lotsOnly _ _
        · split
          · exact (s.openBatch_feedOnly _ _).lots
          · exact s.setBlock_lotsOnly _ _

theorem State.orderChanged_lotsOnly (s : State) : s.LotsOnly s.orderChanged := by
  unfold State.orderChanged
  split
  · exact s.clearBlock_feedOnly.lots.trans (State.choose_lotsOnly _)
  · exact s.choose_lotsOnly

theorem State.freeEntry_lotsOnly (s : State) (i : Nat) : s.LotsOnly (s.freeEntry i) :=
  ((s.onBatch_feedOnly _).trans (State.onBatch_feedOnly _ _)).lots.trans (State.choose_lotsOnly _)

theorem State.sendOne_lotsOnly (s : State) : s.LotsOnly s.sendOne := by
  unfold State.sendOne
  split
  · exact .rfl' s
  · split
    · exact (s.onBatch_feedOnly _).lots
    · dsimp only
      split
      · exact (s.pushRoutine_lotsOnly _ _).trans (State.freeEntry_lotsOnly _ _)
      · exact (s.pushRoutine_lotsOnly _ _).trans (State.onBatch_feedOnly _ _).lots

theorem State.sendLoop_lotsOnly (n : Nat) : ∀ s : State, s.LotsOnly (State.sendLoop n s) := by
  induction n with
  | zero => exact State.LotsOnly.rfl'
  | succ n ih =>
    intro s
    unfold State.sendLoop
    split
    · exact .rfl' s
    · exact s.sendOne_lotsOnly.trans (ih _)

theorem State.sendTallies_lotsOnly (s : State) : s.LotsOnly s.sendTallies := State.sendLoop_lotsOnly _ s

theorem State.enterSending_lotsOnly (s : State) (i : Nat) : s.LotsOnly (s.enterSending i) := by
  unfold State.enterSending
  split
  · exact .rfl' s
  · dsimp only
    split
    · exact ((s.onBatch_feedOnly _).trans (State.onBatch_feedOnly _ _)).lots.trans (State.sendTallies_lotsOnly _)
    · exact ((s.onBatch_feedOnly _).trans (State.onBatch_feedOnly _ _)).lots

theorem State.batchRemoved_lotsOnly (s : State) (n : Half) (a : Byte) (d : Bool) (o : Removal) :
    s.LotsOnly (s.batchRemoved n a d o) := by
  unfold State.batchRemoved
  split
  · exact .rfl' s
  · split
    · exact .rfl' s
    · dsimp only
      split <;> split
      · exact (s.onBatch_feedOnly _).lots.trans (State.enterSending_lotsOnly _ _)
      · exact (s.onBatch_feedOnly _).lots
      · exact (s.onBatch_feedOnly _).lots.trans (State.enterSending_lotsOnly _ _)
      · exact (s.onBatch_feedOnly _).lots

theorem State.closeEntry_feedOnly (s : State) (i : Nat) (b : BatchEntry) (c : ClosureCause) :
    s.FeedOnly (s.closeEntry i b c) :=
  ((s.onBatch_feedOnly _).trans (State.onBatch_feedOnly _ _)).trans (State.evaluate_feedOnly _)

theorem State.closeCurrent_lotsOnly (s : State) (c : ClosureCause) : s.LotsOnly (s.closeCurrent c) := by
  unfold State.closeCurrent
  split
  · exact .rfl' s
  · split
    · exact .rfl' s
    · dsimp only
      split
      · exact ((s.closeEntry_feedOnly _ _ _).lots.trans (State.enterSending_lotsOnly _ _)).trans
          (State.choose_lotsOnly _)
      · exact (s.closeEntry_feedOnly _ _ _).lots.trans (State.choose_lotsOnly _)

/-! ### Line Control and removal -/

theorem State.enterLine_lineOnly (s : State) (l : LineState) (c : Option FaultCode) : s.LineOnly (s.enterLine l c) :=
  ((s.onLine_lineOnly _).trans (State.oweLineState_lineOnly _)).trans (State.refreshFeed_feedOnly _).lots.lineOnly

theorem State.enterConfig_lineOnly (s : State) (c : ClosureCause) : s.LineOnly (s.enterConfig c) :=
  (s.enterLine_lineOnly _ _).trans
    (((State.onFeed_feedOnly _ _).lots.trans (State.orderChanged_lotsOnly _)).trans
      (State.closeCurrent_lotsOnly _ _)).lineOnly

theorem State.laneAfterRemoval_lotsOnly (s : State) (r : Piece) (o : Removal) : s.LotsOnly (s.laneAfterRemoval r o) := by
  unfold State.laneAfterRemoval
  split
  · exact (s.laneToIdle_feedOnly _).lots
  · exact (s.laneToIdle_feedOnly _).lots
  · exact (s.restLane_feedOnly _ _).lots
  · exact ((s.onLane_feedOnly _ _).trans (State.joinFront_feedOnly _ _)).lots.trans (State.orderChanged_lotsOnly _)
  · exact (s.onLane_feedOnly _ _).lots
  all_goals exact .rfl' s

theorem State.reportRemoval_lotsOnly (s : State) (r : Piece) (o : Removal) : s.LotsOnly (s.reportRemoval r o) := by
  unfold State.reportRemoval
  split
  · exact .rfl' s
  · exact (s.batchRemoved_lotsOnly _ _ _ _).trans
      ((State.onFeed_feedOnly _ _).trans (State.retestHold_feedOnly _)).lots

theorem State.tableEmptied_lineOnly (s : State) : s.LineOnly s.tableEmptied := by
  unfold State.tableEmptied
  split
  · exact s.enterConfig_lineOnly _
  · exact .rfl' s

theorem State.withdrawRemoved_feedOnly (s : State) (r : Piece) (o : Removal) : s.FeedOnly (s.withdrawRemoved r o) := by
  unfold State.withdrawRemoved
  split
  · exact s.withdrawGrant_feedOnly _
  · exact .rfl' s

theorem State.removePiece_lineOnly (s : State) (n : Half) (o : Removal) : s.LineOnly (s.removePiece n o) := by
  unfold State.removePiece
  split
  · exact .rfl' s
  · dsimp only
    refine State.LineOnly.trans (State.LotsOnly.lineOnly ?_) (State.tableEmptied_lineOnly _)
    split
    · exact (((s.withdrawRemoved_feedOnly _ _).trans (State.onPieces_feedOnly _ _)).lots.trans
        (State.reportRemoval_lotsOnly _ _ _)).trans (State.laneAfterRemoval_lotsOnly _ _ _)
    · exact ((s.withdrawRemoved_feedOnly _ _).trans (State.onPieces_feedOnly _ _)).lots.trans
        (State.reportRemoval_lotsOnly _ _ _)

theorem State.returnLanes_feedOnly (s : State) (lanes : List Lane) : s.FeedOnly (s.returnLanes lanes) := by
  unfold State.returnLanes
  induction lanes.filter fun l => (s.lane l).run == .ready with
  | nil => exact .rfl' s
  | cons l rest ih => exact ih.trans (State.joinFront_feedOnly _ l)

theorem State.cancelGrants_lineOnly (s : State) : s.LineOnly s.cancelGrants :=
  ((s.withdrawGrants_feedOnly.lots.lineOnly.trans
    (foldl_keeps State.LineOnly.rfl' State.LineOnly.trans (fun u n => u.removePiece_lineOnly n _) _ _)).trans
    (State.returnLanes_feedOnly _ _).lots.lineOnly).trans (State.orderChanged_lotsOnly _).lineOnly

theorem State.enterSuspect_lineOnly (s : State) (c : FaultCode) : s.LineOnly (s.enterSuspect c) :=
  (((s.enterLine_lineOnly _ _).trans (State.onPieces_feedOnly _ _).lots.lineOnly).trans
    (State.cancelGrants_lineOnly _)).trans (State.markTickets_feedOnly _).lots.lineOnly

theorem State.recordFault_lineOnly (s : State) (f : Raised) : s.LineOnly (s.recordFault f) := by
  unfold State.recordFault
  split
  · exact (s.logFault_lotsOnly f).lineOnly.trans (State.enterSuspect_lineOnly _ _)
  · exact (s.logFault_lotsOnly f).lineOnly

theorem State.onPiece_feedOnly (s : State) (n : Half) (f : Piece → Piece) : s.FeedOnly (s.onPiece n f) :=
  s.onPieces_feedOnly _

theorem State.doubtWith_lineOnly (s : State) (n : Half) (f : Raised) : s.LineOnly (s.doubtWith n f) := by
  unfold State.doubtWith
  split
  · exact .rfl' s
  · split
    · exact .rfl' s
    · exact (s.onPiece_feedOnly _ _).lots.lineOnly.trans (State.recordFault_lineOnly _ _)

/-! ### Requests and grants -/

theorem State.batchReady_feedOnly (s : State) (n : Half) : s.FeedOnly (s.batchReady n) := by
  unfold State.batchReady
  split
  · exact s.onBatch_feedOnly _
  · exact .rfl' s

theorem State.acceptReady_lotsOnly (s : State) (l : Lane) (r : LaneRequest) : s.LotsOnly (s.acceptReady l r) :=
  (((s.onLane_feedOnly _ _).trans (State.onFeed_feedOnly _ _)).lots.trans (State.orderChanged_lotsOnly _)).trans
    ((State.batchReady_feedOnly _ _).trans (State.evaluate_feedOnly _)).lots

theorem State.dropRequest_lotsOnly (s : State) (l : Lane) : s.LotsOnly (s.dropRequest l) :=
  ((s.onLane_feedOnly _ _).trans (State.onFeed_feedOnly _ _)).lots.trans (State.orderChanged_lotsOnly _)

theorem State.readyFor_lineOnly (s : State) (l : Lane) (span article : Byte) (batch : Half) :
    s.LineOnly (s.readyFor l span article batch) := by
  unfold State.readyFor
  split
  · exact .rfl' s
  · exact (s.onLane_feedOnly _ _).lots.lineOnly
  · split
    · exact (s.acceptReady_lotsOnly _ _).lineOnly
    · exact s.recordFault_lineOnly _
  · split
    · exact (s.acceptReady_lotsOnly _ _).lineOnly
    · exact (s.dropRequest_lotsOnly _).lineOnly.trans (State.recordFault_lineOnly _ _)

theorem State.takeReady_lineOnly (s : State) (lane span article : Byte) (batch : Half) :
    s.LineOnly (s.takeReady lane span article batch) := by
  unfold State.takeReady
  split
  · exact .rfl' s
  · split
    · exact .rfl' s
    · split
      · exact .rfl' s
      · exact s.readyFor_lineOnly _ _ _ _

theorem State.takeWithdraw_lineOnly (s : State) (lane : Byte) : s.LineOnly (s.takeWithdraw lane) := by
  unfold State.takeWithdraw
  split
  · exact .rfl' s
  · split
    · exact (s.dropRequest_lotsOnly _).lineOnly
    · exact s.recordFault_lineOnly _
    · exact .rfl' s
    · exact .rfl' s

theorem State.grantReturned_lineOnly (s : State) (marks : Byte) (n : Half) : s.LineOnly (s.grantReturned marks n) := by
  unfold State.grantReturned
  split
  · exact .rfl' s
  · split
    · split
      · exact (s.removePiece_lineOnly _ _).trans (State.recordFault_lineOnly _ _)
      · exact s.recordFault_lineOnly _
    · split
      · exact .rfl' s
      · split
        · exact (s.removePiece_lineOnly _ _).trans (State.recordFault_lineOnly _ _)
        · exact s.recordFault_lineOnly _

/-! ### The Folder Hand-off -/

theorem State.onChannel_trackOnly (s : State) (c : Lane) (f : Channel → Channel) : s.TrackOnly (s.onChannel c f) :=
  s.onFolder_trackOnly _

theorem State.onPiece_trackOnly (s : State) (n : Half) (f : Piece → Piece) : s.TrackOnly (s.onPiece n f) :=
  (s.onPiece_feedOnly n f).lots.lineOnly.track

theorem State.recordFault_trackOnly (s : State) (f : Raised) : s.TrackOnly (s.recordFault f) :=
  (s.recordFault_lineOnly f).track

theorem State.removePiece_trackOnly (s : State) (n : Half) (o : Removal) : s.TrackOnly (s.removePiece n o) :=
  (s.removePiece_lineOnly n o).track

theorem State.doubtWith_trackOnly (s : State) (n : Half) (f : Raised) : s.TrackOnly (s.doubtWith n f) :=
  (s.doubtWith_lineOnly n f).track

theorem State.laneToIdle_trackOnly (s : State) (l : Lane) : s.TrackOnly (s.laneToIdle l) :=
  (s.laneToIdle_feedOnly l).lots.lineOnly.track

theorem State.assignSlot_trackOnly (s : State) (c : Lane) (n : SlotName) (r : Piece) :
    s.TrackOnly (s.assignSlot c n r) :=
  ((s.onChannel_trackOnly _ _).trans (State.onPiece_trackOnly _ _ _)).trans
    (State.pushUrgent_feedOnly _ _).lots.lineOnly.track

theorem State.servePending_trackOnly (s : State) (c : Lane) (n : SlotName) : s.TrackOnly (s.servePending c n) := by
  unfold State.servePending
  split
  · exact .rfl' s
  · exact s.assignSlot_trackOnly _ _ _

theorem State.handOver_trackOnly (s : State) (n : Half) : s.TrackOnly (s.handOver n) := by
  unfold State.handOver
  split
  · exact .rfl' s
  · dsimp only
    split
    · exact s.assignSlot_trackOnly _ _ _
    · split
      · exact s.assignSlot_trackOnly _ _ _
      · exact s.onPiece_trackOnly _ _

theorem State.overrun_trackOnly (s : State) (r : Piece) : s.TrackOnly (s.overrun r) :=
  ((s.recordFault_trackOnly _).trans (State.onPiece_trackOnly _ _ _)).trans (State.removePiece_trackOnly _ _ _)

theorem State.testDeadline_trackOnly (s : State) (r : Piece) : s.TrackOnly (s.testDeadline r) := by
  unfold State.testDeadline
  split
  · split
    · exact s.overrun_trackOnly _
    · exact .rfl' s
  · exact .rfl' s

theorem State.testDeadlines_trackOnly (s : State) (before : List Piece) : s.TrackOnly (s.testDeadlines before) :=
  foldl_keeps State.TrackOnly.rfl' State.TrackOnly.trans
    (fun _ _ => foldl_keeps State.TrackOnly.rfl' State.TrackOnly.trans State.testDeadline_trackOnly _ _) _ s

theorem State.ticketReturned_trackOnly (s : State) (marks : Byte) (c : Lane) (n : SlotName) (p : Half) :
    s.TrackOnly (s.ticketReturned marks c n p) := by
  unfold State.ticketReturned
  split
  · exact .rfl' s
  · split
    · exact s.onPiece_trackOnly _ _
    · exact ((((s.recordFault_trackOnly _).trans (State.onChannel_trackOnly _ _ _)).trans
        (State.onPiece_trackOnly _ _ _)).trans (State.removePiece_trackOnly _ _ _)).trans
        (State.servePending_trackOnly _ _ _)

theorem State.noteMismatch_lineOnly (s : State) (c : Lane) (o k : Half) : s.LineOnly (s.noteMismatch c o k) := by
  unfold State.noteMismatch
  split
  · exact .rfl' s
  · exact s.recordFault_lineOnly _

theorem State.noteJam_lineOnly (s : State) (c : Lane) (n : Half) (o : Removal) : s.LineOnly (s.noteJam c n o) := by
  unfold State.noteJam
  split
  · exact s.recordFault_lineOnly _
  · exact .rfl' s

theorem State.discharge_trackOnly (s : State) (c : Lane) (n : SlotName) (owner carried : Half) (o : Removal) :
    s.TrackOnly (s.discharge c n owner carried o) :=
  ((((((s.noteMismatch_lineOnly _ _ _).trans (State.noteJam_lineOnly _ _ _ _)).trans
    (State.withdrawTicket_feedOnly _ _).lots.lineOnly).track.trans (State.onChannel_trackOnly _ _ _)).trans
    (State.removePiece_trackOnly _ _ _)).trans (State.servePending_trackOnly _ _ _))

theorem State.slotFreed_trackOnly (s : State) (channel slot : Byte) (p : Half) (outcome : Byte) :
    s.TrackOnly (s.slotFreed channel slot p outcome) := by
  unfold State.slotFreed
  split
  · split
    · exact s.recordFault_trackOnly _
    · exact s.discharge_trackOnly _ _ _ _ _
  · exact .rfl' s

/-! ### The Checkpoint Matcher -/

theorem State.settleStale_trackOnly (s : State) (n : Half) (t : Transition) : s.TrackOnly (s.settleStale n t) := by
  unfold State.settleStale
  split
  · exact s.doubtWith_trackOnly _ _
  · exact .rfl' s

theorem State.settleAmbiguity_trackOnly (s : State) (n : Half) (b : Bool) (t : Transition) :
    s.TrackOnly (s.settleAmbiguity n b t) := by
  unfold State.settleAmbiguity
  split
  · exact s.doubtWith_trackOnly _ _
  · exact .rfl' s

theorem State.updateTails_feedOnly (s : State) (r : Piece) (t : Pos) : s.FeedOnly (s.updateTails r t) := by
  unfold State.updateTails
  split
  · exact s.onLane_feedOnly _ _
  · exact foldl_keeps State.FeedOnly.rfl' State.FeedOnly.trans (fun u k => u.onLane_feedOnly k _) _ s

theorem State.lengthCheck_trackOnly (s : State) (r : Piece) (len : Int) (t : Pos) :
    s.TrackOnly (s.lengthCheck r len t) := by
  unfold State.lengthCheck
  split
  · exact .rfl' s
  · split
    · exact (s.onPiece_trackOnly _ _).trans (State.recordFault_trackOnly _ _)
    · split
      · exact (s.onPiece_trackOnly _ _).trans (State.recordFault_trackOnly _ _)
      · exact .rfl' s

theorem State.finalTrail_trackOnly (s : State) (r : Piece) (t : Pos) : s.TrackOnly (s.finalTrail r t) :=
  ((s.onPiece_trackOnly _ _).trans (State.lengthCheck_trackOnly _ _ _ _)).trans
    (State.updateTails_feedOnly _ _ _).lots.lineOnly.track

theorem State.testClearing_trackOnly (s : State) (n : Half) : s.TrackOnly (s.testClearing n) := by
  unfold State.testClearing
  split
  · exact .rfl' s
  · split
    · exact .rfl' s
    · split
      · exact .rfl' s
      · split
        · exact s.finalTrail_trackOnly _ _
        · exact .rfl' s

theorem State.testLimit_trackOnly (s : State) (n : Half) : s.TrackOnly (s.testLimit n) := by
  unfold State.testLimit
  split
  · exact .rfl' s
  · split
    · dsimp only
      split
      · exact (s.onPiece_trackOnly _ _).trans (State.finalTrail_trackOnly _ _ _)
      · split
        · exact s.finalTrail_trackOnly _ _
        · exact .rfl' s
    · exact .rfl' s

theorem State.learnSlip_trackOnly (s : State) (n : Half) : s.TrackOnly (s.learnSlip n) := by
  unfold State.learnSlip
  split
  · exact .rfl' s
  · split
    · exact .rfl' s
    · split
      · exact s.onMatcher_trackOnly _
      · exact .rfl' s

theorem State.matchTo_trackOnly (s : State) (r : Piece) (b : Bool) (t : Transition) : s.TrackOnly (s.matchTo r b t) := by
  unfold State.matchTo
  split
  · exact ((((s.onPiece_trackOnly _ _).trans (State.settleAmbiguity_trackOnly _ _ _ _)).trans
      (State.settleStale_trackOnly _ _ _)).trans (State.onPiece_trackOnly _ _ _)).trans
      (State.laneToIdle_trackOnly _ _)
  · exact (((s.onPiece_trackOnly _ _).trans (State.settleAmbiguity_trackOnly _ _ _ _)).trans
      (State.settleStale_trackOnly _ _ _)).trans (State.onPiece_trackOnly _ _ _)
  · exact (((((s.onPiece_trackOnly _ _).trans (State.settleAmbiguity_trackOnly _ _ _ _)).trans
      (State.settleStale_trackOnly _ _ _)).trans (State.onPiece_trackOnly _ _ _)).trans
      (State.learnSlip_trackOnly _ _)).trans (State.handOver_trackOnly _ _)

theorem State.absorb_trackOnly (s : State) (r : Piece) (t : Transition) : s.TrackOnly (s.absorb r t) := by
  unfold State.absorb
  split
  · dsimp only
    refine State.TrackOnly.trans ?_ (State.settleStale_trackOnly _ _ _)
    split
    · exact (s.onPiece_trackOnly _ _).trans (State.doubtWith_trackOnly _ _ _)
    · exact s.onPiece_trackOnly _ _
  · exact s.settleStale_trackOnly _ _

theorem State.countOrphan_trackOnly (s : State) (k : Checkpoint) : s.TrackOnly (s.countOrphan k) := by
  unfold State.countOrphan
  split <;> exact s.onMatcher_trackOnly _

theorem State.addRecord_trackOnly (s : State) (r : Piece) : s.TrackOnly (s.addRecord r) :=
  (s.onPieces_feedOnly _).lots.lineOnly.track

theorem State.orphan_trackOnly (s : State) (t : Transition) : s.TrackOnly (s.orphan t).1 := by
  refine (s.countOrphan_trackOnly t.kind).trans ?_
  unfold State.orphan
  dsimp only
  split
  · dsimp only
    exact State.recordFault_trackOnly _ _
  · split <;> dsimp only
    · exact State.recordFault_trackOnly _ _
    · exact (State.addRecord_trackOnly _ _).trans (State.recordFault_trackOnly _ _)
  · split <;> dsimp only
    · exact State.recordFault_trackOnly _ _
    · exact ((State.addRecord_trackOnly _ _).trans (State.recordFault_trackOnly _ _)).trans
        (State.handOver_trackOnly _ _)

theorem State.takeBlock_trackOnly (s : State) (t : Transition) : s.TrackOnly (s.takeBlock t).1 := by
  unfold State.takeBlock
  split
  · exact s.matchTo_trackOnly _ _ _
  · split
    · exact s.absorb_trackOnly _ _
    · exact s.orphan_trackOnly _

theorem State.takeClear_trackOnly (s : State) (t : Transition) : s.TrackOnly (s.takeClear t) := by
  unfold State.takeClear
  split
  · exact .rfl' s
  · exact .rfl' s
  · split
    · exact .rfl' s
    · exact ((s.onPiece_trackOnly _ _).trans (State.settleStale_trackOnly _ _ _)).trans
        (State.testClearing_trackOnly _ _)

theorem State.predictPass_trackOnly (s : State) (r : Piece) (w : Window) : s.TrackOnly (s.predictPass r w) := by
  unfold State.predictPass
  split
  · exact (s.onPiece_trackOnly _ _).trans (State.laneToIdle_trackOnly _ _)
  · exact (s.onPiece_trackOnly _ _).trans (State.handOver_trackOnly _ _)
  · exact .rfl' s

theorem State.predictInlet_trackOnly (s : State) (r : Piece) (w : Window) : s.TrackOnly (s.predictInlet r w) :=
  (s.onPiece_trackOnly _ _).trans (State.finalTrail_trackOnly _ _ _)

theorem State.testWindow_trackOnly (s : State) (n : Half) : s.TrackOnly (s.testWindow n) := by
  unfold State.testWindow
  split
  · exact .rfl' s
  · split
    · exact .rfl' s
    · split
      · split
        · split
          · exact s.predictInlet_trackOnly _ _
          · exact s.predictPass_trackOnly _ _
          · exact s.predictPass_trackOnly _ _
        · exact .rfl' s
      · split
        · exact (s.recordFault_trackOnly _).trans (State.removePiece_trackOnly _ _ _)
        · exact .rfl' s

theorem State.testAbsorption_trackOnly (s : State) (n : Half) : s.TrackOnly (s.testAbsorption n) := by
  unfold State.testAbsorption
  split
  · exact .rfl' s
  · split
    · exact .rfl' s
    · split
      · exact s.onPiece_trackOnly _ _
      · exact .rfl' s

theorem State.testRecord_trackOnly (s : State) (b : Piece) : s.TrackOnly (s.testRecord b) := by
  unfold State.testRecord
  dsimp only
  refine (s.testClearing_trackOnly b.number).trans ?_
  generalize s.testClearing b.number = v
  refine State.TrackOnly.trans (t := if b.measurement.isSome = true then v.testLimit b.number else v) ?_ ?_
  · split
    · exact v.testLimit_trackOnly _
    · exact .rfl' v
  · generalize (if b.measurement.isSome = true then v.testLimit b.number else v) = u
    split <;> split
    · exact (u.testAbsorption_trackOnly _).trans (State.testWindow_trackOnly _ _)
    · exact u.testWindow_trackOnly _
    · exact u.testAbsorption_trackOnly _
    · exact .rfl' u

theorem State.testRecords_trackOnly (s : State) (before : List Piece) : s.TrackOnly (s.testRecords before) :=
  foldl_keeps State.TrackOnly.rfl' State.TrackOnly.trans State.testRecord_trackOnly before s

/-! ### The Eye Filter -/

theorem State.onEye_trackOnly (s : State) (i : Nat) (f : EyeDynamic → EyeDynamic) : s.TrackOnly (s.onEye i f) :=
  s.onEyes_trackOnly _

theorem State.handTransition_trackOnly (s : State) (i : Nat) (t : Transition) : s.TrackOnly (s.handTransition i t) := by
  unfold State.handTransition
  split
  · exact .rfl' s
  · split
    · exact (s.takeBlock_trackOnly _).trans (State.onEye_trackOnly _ _ _)
    · exact s.takeClear_trackOnly _

theorem State.confirm_trackOnly (s : State) (i : Nat) (c : EyeConfig) (p : PendingTransition) :
    s.TrackOnly (s.confirm i c p) := by
  unfold State.confirm
  dsimp only
  split
  · exact s.onEye_trackOnly _ _
  · exact (s.onEye_trackOnly _ _).trans (State.handTransition_trackOnly _ _ _)

theorem State.startPending_trackOnly (s : State) (i : Nat) (c : EyeConfig) (p : PendingTransition) :
    s.TrackOnly (s.startPending i c p) := by
  unfold State.startPending
  split
  · exact s.confirm_trackOnly _ _ _
  · exact s.onEye_trackOnly _ _

theorem State.degrade_trackOnly (s : State) (i : Nat) (c : EyeConfig) (n : Nat) : s.TrackOnly (s.degrade i c n) := by
  unfold State.degrade
  split
  · exact (s.onEye_trackOnly _ _).trans (State.recordFault_trackOnly _ _)
  · exact .rfl' s

theorem State.glitch_trackOnly (s : State) (i : Nat) (c : EyeConfig) (n : Nat) : s.TrackOnly (s.glitch i c n) :=
  ((s.onEye_trackOnly _ _).trans (State.logRepeating_trackOnly _ _ _)).trans (State.degrade_trackOnly _ _ _ _)

theorem State.takeEdge_trackOnly (s : State) (i : Nat) (e : Eye) (p : PendingTransition) : s.TrackOnly (s.takeEdge i e p) := by
  unfold State.takeEdge
  dsimp only
  split
  · exact (s.onEye_trackOnly _ _).trans (State.startPending_trackOnly _ _ _ _)
  · split
    · exact (s.onEye_trackOnly _ _).trans (State.glitch_trackOnly _ _ _ _)
    · exact ((s.onEye_trackOnly _ _).trans (State.confirm_trackOnly _ _ _ _)).trans
        (State.startPending_trackOnly _ _ _ _)

theorem State.trackEdge_trackOnly (s : State) (i : Nat) (e : Eye) (k : Edge) (t : Stamp) :
    s.TrackOnly (s.trackEdge i e k t).1 := by
  unfold State.trackEdge
  split
  · exact (s.onEye_trackOnly _ _).trans (State.logRepeating_trackOnly _ _ _)
  · exact s.takeEdge_trackOnly _ _ _

theorem State.classifyEdge_trackOnly (s : State) (src channel edge : Byte) (t : Stamp) :
    s.TrackOnly (s.classifyEdge src channel edge t).1 := by
  unfold State.classifyEdge
  split
  · exact .rfl' s
  · split
    · split
      · exact .rfl' s
      · split
        · exact .rfl' s
        · exact .rfl' s
        · exact .rfl' s
        · split
          · exact .rfl' s
          · exact s.trackEdge_trackOnly _ _ _ _
    · exact .rfl' s

theorem State.confirmEye_trackOnly (s : State) (i : Nat) : s.TrackOnly (s.confirmEye i) := by
  unfold State.confirmEye
  split
  · exact .rfl' s
  · split
    · exact .rfl' s
    · exact s.confirm_trackOnly _ _ _

theorem State.actOnSample_trackOnly (s : State) : s.TrackOnly s.actOnSample := by
  unfold State.actOnSample
  refine (State.TrackOnly.trans ?_ (State.evaluate_feedOnly _).lots.lineOnly.track).trans
    (State.testDeadlines_trackOnly _ _)
  refine State.TrackOnly.trans (t := s.confirmDue)
    (foldl_keeps State.TrackOnly.rfl' State.TrackOnly.trans State.confirmEye_trackOnly _ s) ?_
  unfold State.matcherSample
  split
  · exact .rfl' _
  · exact State.testRecords_trackOnly _ _

/-- An applied sample leaves the Travel Unit's state but for the record of the sample itself (R6). -/
theorem State.appliedSample_travel (s : State) (x : AppliedSample) :
    (s.appliedSample x).travel = { s.travel with sample := some x } :=
  (State.actOnSample_trackOnly _).travel

end Sys2Proof.Machine
end

