-- ==== Sys2Proof/Laws/Operations.lean ====
section
/-! SUPPORT. What the shared operations answer: piece numbers and the table order, the fault list, the feed-permitted condition, evaluations and choices outside RUN, the entry to CONFIG, the segment around a stamp, the tests of a record, and the bounds of the queues. -/

namespace Sys2Proof.Machine

open Sys2Proof

/-! ### Piece numbers and table order -/

theorem nextNumber_ne_zero (n : Half) : nextNumber n ≠ 0 := by
  unfold nextNumber
  split <;> bv_omega

theorem insertRecord_length (r : Piece) (l : List Piece) : (insertRecord r l).length = l.length + 1 := by
  induction l with
  | nil => rfl
  | cons q rest ih =>
    unfold insertRecord
    split <;> simp [ih]

theorem mem_insertRecord {r q : Piece} {l : List Piece} : q ∈ insertRecord r l ↔ q = r ∨ q ∈ l := by
  induction l with
  | nil => simp [insertRecord]
  | cons p rest ih =>
    unfold insertRecord
    split
    · simp
    · simp [ih, or_left_comm]

theorem insertRecord_perm (r : Piece) (l : List Piece) : (insertRecord r l).Perm (r :: l) := by
  induction l with
  | nil => exact .refl _
  | cons p rest ih =>
    unfold insertRecord
    split
    · exact .refl _
    · exact (ih.cons p).trans (List.Perm.swap r p rest)

/-- A record is placed behind those whose key is at or before its own and before the next (R45). -/
theorem insertRecord_split (r : Piece) (l : List Piece) :
    ∃ pre post : List Piece, l = pre ++ post ∧ insertRecord r l = pre ++ r :: post ∧
      (∀ q ∈ pre, posDiff q.orderKey r.orderKey ≤ 0) ∧ ∀ q ∈ post.head?, 0 < posDiff q.orderKey r.orderKey := by
  induction l with
  | nil => exact ⟨[], [], rfl, rfl, by simp, by simp⟩
  | cons p rest ih =>
    unfold insertRecord
    split
    · next h => exact ⟨[], p :: rest, rfl, rfl, by simp, by simpa using h⟩
    · next h =>
      obtain ⟨pre, post, rfl, e, hpre, hpost⟩ := ih
      exact ⟨p :: pre, post, rfl, by rw [e]; rfl, by simpa using ⟨by omega, hpre⟩, hpost⟩

/-- The number found is one the counter comes to, and every number passed over is held (R43). -/
theorem freeNumber_first (records : List Piece) :
    ∀ (fuel : Nat) (n : Half), ∃ k ≤ fuel, freeNumber records fuel n = nextNumber^[k] n ∧
      ∀ j < k, ∃ q ∈ records, q.number = nextNumber^[j] n := by
  intro fuel
  induction fuel with
  | zero => exact fun n => ⟨0, le_refl _, rfl, fun j hj => absurd hj (Nat.not_lt_zero j)⟩
  | succ fuel ih =>
    intro n
    unfold freeNumber
    split
    · next h =>
      obtain ⟨k, hk, e, hheld⟩ := ih (nextNumber n)
      refine ⟨k + 1, Nat.succ_le_succ hk, e, fun j hj => ?_⟩
      cases j with
      | zero =>
        obtain ⟨q, hq, he⟩ := List.any_eq_true.mp h
        exact ⟨q, hq, by simpa using he⟩
      | succ j => exact hheld j (by omega)
    · exact ⟨0, Nat.zero_le _, rfl, fun j hj => absurd hj (Nat.not_lt_zero j)⟩

/-- The counter's number after k steps (R43). -/
theorem nextNumber_iterate_toNat (n : Half) (k : Nat) (hn : n ≠ 0) :
    (nextNumber^[k] n).toNat = (n.toNat - 1 + k) % 65535 + 1 := by
  have h0 : 1 ≤ n.toNat := by
    rcases Nat.eq_zero_or_pos n.toNat with h | h
    · exact absurd (BitVec.eq_of_toNat_eq h) hn
    · exact h
  induction k with
  | zero =>
    have := n.isLt
    simp only [Function.iterate_zero, id_eq, Nat.add_zero]
    omega
  | succ k ih =>
    rw [Function.iterate_succ_apply']
    generalize nextNumber^[k] n = m at ih
    unfold nextNumber
    split
    · next h =>
      subst h
      simp only [BitVec.toNat_ofNat] at ih
      simp only [BitVec.toNat_ofNat]
      omega
    · next h =>
      have hm : m.toNat ≠ 65535 := fun e => h (BitVec.eq_of_toNat_eq e)
      have := m.isLt
      simp only [BitVec.toNat_add, BitVec.toNat_ofNat]
      omega

/-- Where the search has a number to find within its fuel, the number it answers is free (R43). -/
theorem freeNumber_free (records : List Piece) :
    ∀ (fuel : Nat) (n : Half),
      (∃ k < fuel, ∀ r ∈ records, r.number ≠ nextNumber^[k] n) →
      ∀ r ∈ records, r.number ≠ freeNumber records fuel n := by
  intro fuel
  induction fuel with
  | zero => rintro n ⟨k, hk, _⟩; omega
  | succ fuel ih =>
    rintro n ⟨k, hk, hfree⟩
    unfold freeNumber
    split
    · next h =>
      apply ih
      cases k with
      | zero =>
        obtain ⟨r, hr, he⟩ := List.any_eq_true.mp h
        exact absurd (by simpa using he) (hfree r hr)
      | succ k => exact ⟨k, by omega, fun r hr => by simpa [Function.iterate_succ_apply] using hfree r hr⟩
    · next h =>
      intro r hr he
      exact h (List.any_eq_true.mpr ⟨r, hr, by simpa using he⟩)

/-! ### The fault list -/

@[simp] theorem State.queueAlert_list (s : State) : s.queueAlert.faults.list = s.faults.list := by
  unfold State.queueAlert
  split
  · rfl
  · split <;> rfl

@[simp] theorem State.queueAlert_overflow (s : State) : s.queueAlert.faults.overflow = s.faults.overflow := by
  unfold State.queueAlert
  split
  · rfl
  · split <;> rfl

@[simp] theorem State.offerAlert_list (s : State) (r : FaultRecord) : (s.offerAlert r).faults.list = s.faults.list := by
  unfold State.offerAlert
  split
  · rfl
  · split <;> simp

@[simp] theorem State.offerAlert_overflow (s : State) (r : FaultRecord) :
    (s.offerAlert r).faults.overflow = s.faults.overflow := by
  unfold State.offerAlert
  split
  · rfl
  · split <;> simp

/-- The fault list after a fault was recorded (R157, R158). -/
theorem State.logFault_list (s : State) (f : Raised) :
    (s.logFault f).faults.list = (s.faults.insert (s.faultRecord f)).list := by
  simp [State.logFault]

theorem State.logFault_overflow (s : State) (f : Raised) :
    (s.logFault f).faults.overflow = (s.faults.insert (s.faultRecord f)).overflow := by
  simp [State.logFault]

theorem State.queueAlert_blocks (s : State) :
    s.queueAlert.pieces = s.pieces ∧ s.queueAlert.feed = s.feed ∧ s.queueAlert.batch = s.batch ∧
      s.queueAlert.port.urgent = s.port.urgent := by
  unfold State.queueAlert
  split
  · exact ⟨rfl, rfl, rfl, rfl⟩
  · split <;> exact ⟨rfl, rfl, rfl, rfl⟩

/-- Recording a fault leaves the records, the lanes, the batches and the urgent queue alone. -/
theorem State.logFault_blocks (s : State) (f : Raised) :
    (s.logFault f).pieces = s.pieces ∧ (s.logFault f).feed = s.feed ∧ (s.logFault f).batch = s.batch ∧
      (s.logFault f).port.urgent = s.port.urgent := by
  unfold State.logFault State.offerAlert
  split
  · exact ⟨rfl, rfl, rfl, rfl⟩
  · split
    · exact State.queueAlert_blocks _
    · exact ⟨rfl, rfl, rfl, rfl⟩
    · exact ⟨rfl, rfl, rfl, rfl⟩

/-- A fault below LINE, or one in SUSPECT, is only recorded (R155, R157). -/
theorem State.recordFault_eq_logFault (s : State) (f : Raised) (h : f.severity ≠ .line ∨ s.line.state = .suspect) :
    s.recordFault f = s.logFault f := by
  unfold State.recordFault
  rw [if_neg]
  rintro ⟨h1, h2⟩
  rcases h with h | h
  · exact h h1
  · exact h2 h

/-! ### The feed-permitted condition -/

/-- After a re-evaluation the held condition is the one that the state gives, and the rest of the Feed
Sequencer's state is as it was (R110). -/
theorem State.refreshFeed_feed (s : State) : s.refreshFeed.feed = { s.feed with condition := s.feedCondition } := by
  unfold State.refreshFeed
  split
  · next h => rw [h]
  · unfold State.queueFeedState
    split <;> rfl

theorem State.refreshFeed_blocks (s : State) : s.refreshFeed.pieces = s.pieces ∧ s.refreshFeed.batch = s.batch := by
  unfold State.refreshFeed
  split
  · exact ⟨rfl, rfl⟩
  · unfold State.queueFeedState
    split <;> exact ⟨rfl, rfl⟩

theorem State.refreshFeed_sound (s : State) : s.refreshFeed.feedCondition = s.refreshFeed.feed.condition := by
  have hf := s.refreshFeed_feed
  have hb := s.refreshFeed_blocks.2
  have hl := s.refreshFeed_feedOnly.line
  unfold State.feedCondition
  rw [hf, hb, hl]
  rfl

/-! ### Outside RUN -/

theorem State.qualifies_notRun (s : State) (l : Lane) (r : LaneRequest) (h : s.line.state ≠ .run) :
    s.qualifies l r = false := by
  simp [State.qualifies, h]

theorem State.tryLane_notRun (s : State) (l : Lane) (h : s.line.state ≠ .run) : s.tryLane l = s := by
  unfold State.tryLane
  split
  · rw [State.qualifies_notRun s l _ h]
    rfl
  · rfl

/-- Outside RUN an evaluation only drops the tails that are not live (R99, R103). -/
theorem State.evaluate_notRun (s : State) (h : s.line.state ≠ .run) : s.evaluate = s.dropTails := by
  unfold State.evaluate
  have hd : s.dropTails.line.state ≠ .run := h
  generalize s.dropTails.arbitration = l
  induction l with
  | nil => rfl
  | cons a rest ih => rw [List.foldl_cons, State.tryLane_notRun _ _ hd, ih]

/-- Outside RUN no batch is chosen (R123). -/
theorem State.choose_notRun (s : State) (h : s.line.state ≠ .run) : s.choose = s := by
  unfold State.choose
  rw [if_pos (Or.inl h)]

/-! ### The entry to CONFIG -/

/-- The entry to CONFIG is the closure of the current batch in the state that R117, R149 and R153 give. -/
theorem State.enterConfig_eq (s : State) (cause : ClosureCause) :
    s.enterConfig cause = s.inConfig.closeCurrent cause := by
  suffices h : (s.enterLine .config none).dropRequests.orderChanged = s.inConfig by rw [State.enterConfig, h]
  have hd (u : State) (hu : u.line.state = .config) (hf : u.feed.condition = .hold .line) :
      u.dropRequests.orderChanged = { u.dropRequests with batch := { u.batch with block := none } } := by
    have hx : u.dropRequests.clearBlock = { u.dropRequests with batch := { u.batch with block := none } } := by
      unfold State.clearBlock
      split
      · next hb =>
        have hb : u.batch.block = none := by simpa [State.dropRequests, State.onFeed] using hb
        rw [← hb]
        rfl
      · unfold State.refreshFeed
        rw [if_pos (by simp [State.feedCondition, State.onBatch, State.dropRequests, State.onFeed, hu, hf])]
        rfl
    have ho : u.dropRequests.feed.order.isEmpty = true := rfl
    unfold State.orderChanged
    rw [if_pos ho, hx]
    exact State.choose_notRun _ (by simp [State.dropRequests, State.onFeed, hu])
  have ho : (s.setLine .config none).oweLineState =
      { s with
        line := { state := .config, cause := none, tfault := false, owed := decide (s.freePlaces = 0) }
        port := { s.port with
          routine := s.port.routine ++
            (if s.freePlaces = 0 then [] else [{ dest := 31, msg := .lineState .config none, suspect := false }]) } } := by
    unfold State.oweLineState State.queueLineState
    by_cases h : s.freePlaces = 0
    · rw [if_neg (fun k => k.2 h)]
      simp [State.setLine, State.onLine, h]
    · rw [if_pos ⟨rfl, h⟩]
      simp [State.setLine, State.onLine, State.pushRoutine, State.onPort, h]
  have hc : (s.setLine .config none).oweLineState.feedCondition = .hold .line := by
    rw [ho]; simp [State.feedCondition]
  rw [hd _ _ _]
  · unfold State.enterLine State.refreshFeed State.queueFeedState State.inConfig
    rw [hc, ho]
    by_cases h : s.feed.condition = .hold .line
    · simp [h, State.dropRequests, State.onFeed]
    · by_cases hu : s.port.urgent.any Queued.isFeedState = true
      · simp [h, Ne.symm h, hu, State.dropRequests, State.onFeed, State.onPort]
      · simp [h, Ne.symm h, hu, State.dropRequests, State.onFeed, State.onPort, State.pushUrgent]
  · rw [State.enterLine, (State.refreshFeed_feedOnly _).line, ho]
  · rw [State.enterLine, State.refreshFeed_feed, hc]

/-- A lane put to IDLE has lost its request (R95, R97, R98). -/
theorem State.restLane_idle (s : State) (l : Lane) : s.restLane l .idle = s.withoutRequest l := rfl

/-- Without a current batch a closure does nothing (R128, R129). -/
theorem State.closeCurrent_none (s : State) (cause : ClosureCause) (h : s.currentPlace = none) :
    s.closeCurrent cause = s := by
  unfold State.closeCurrent
  rw [h]

/-! ### Segments and tests -/

/-- A stamp after the oldest sample and before the newest, and on none, has a segment around it (R17). -/
theorem segmentAround_exists (t : Stamp) :
    ∀ (l : List Sample) (x n : Sample), l.head? = some x → l.getLast? = some n → 0 < timeDiff t x.stamp →
      timeDiff t n.stamp < 0 → (∀ q ∈ l, q.stamp ≠ t) → ∃ a b : Sample, segmentAround t l = some (a, b)
  | [], _, _, hx, _, _, _, _ => by simp at hx
  | [a], x, n, hx, hn, h0, h1, _ => by
    simp only [List.head?_cons, List.getLast?_singleton, Option.some.injEq] at hx hn
    subst hx hn
    omega
  | a :: b :: rest, x, n, hx, hn, h0, h1, hne => by
    unfold segmentAround
    split
    · exact ⟨a, b, rfl⟩
    · next h =>
      simp only [List.head?_cons, Option.some.injEq] at hx
      subst hx
      refine segmentAround_exists t (b :: rest) b n rfl (by simpa using hn) ?_ h1
        (fun q hq => hne q (List.mem_cons_of_mem _ hq))
      have hb : timeDiff t b.stamp ≠ 0 := by
        intro e
        have : t - b.stamp = 0 := BitVec.eq_of_toInt_eq e
        exact hne b (by simp) (by bv_omega)
      have := fun g => h ⟨h0, g⟩
      omega

/-- A test of a record that is gone does nothing (R68). -/
theorem State.testRecord_gone (s : State) (b : Piece) (h : s.findPiece b.number = none) : s.testRecord b = s := by
  simp [State.testRecord, State.testClearing, State.testLimit, State.testAbsorption, State.testWindow, h]

/-! ### Places of the routine queue -/

/-- An alert that is due takes a place only where one is free (R160, R175). -/
theorem State.queueAlert_routine (s : State) :
    s.queueAlert.port.routine = s.port.routine ∨
      (s.freePlaces ≠ 0 ∧ ∃ q, s.queueAlert.port.routine = s.port.routine ++ [q]) := by
  unfold State.queueAlert
  split
  · exact .inl rfl
  · split
    · exact .inl rfl
    · next h => exact .inr ⟨h, _, rfl⟩

/-- An owed report takes a place only where one is free (R149, R175). -/
theorem State.queueLineState_routine (s : State) :
    s.queueLineState.port.routine = s.port.routine ∨
      (s.freePlaces ≠ 0 ∧ ∃ q, s.queueLineState.port.routine = s.port.routine ++ [q]) := by
  unfold State.queueLineState
  split
  · next h => exact .inr ⟨h.2, _, rfl⟩
  · exact .inl rfl

/-! ### The sending of tallies -/

theorem State.refreshFeed_batch (s : State) : s.refreshFeed.batch = s.batch := s.refreshFeed_blocks.2

theorem State.setTails_batch (s : State) (sp : Span) (t : Tail) : (s.setTails sp t).batch = s.batch :=
  foldl_keeps (R := fun a b => b.batch = a.batch) (f := fun u k => u.onLane k fun e => { e with tail := some t })
    (fun _ => rfl) (fun h k => k.trans h) (fun _ _ => rfl) _ s

theorem State.grant_sendOrder (s : State) (l : Lane) (r : LaneRequest) :
    (s.grant l r).batch.sendOrder = s.batch.sendOrder := by
  unfold State.grant
  split
  · rfl
  · dsimp only [State.pushUrgent, State.onPort, State.batchGranted, State.restartIdle, State.onBatchNumber,
      State.onBatch, State.testHold]
    rw [State.refreshFeed_batch]
    exact congrArg BatchCounter.sendOrder (State.setTails_batch _ _ _)

theorem State.tryLane_sendOrder (s : State) (l : Lane) : (s.tryLane l).batch.sendOrder = s.batch.sendOrder := by
  unfold State.tryLane
  split
  · split
    · exact s.grant_sendOrder _ _
    · rfl
  · rfl

theorem State.evaluate_sendOrder (s : State) : s.evaluate.batch.sendOrder = s.batch.sendOrder :=
  foldl_keeps (R := fun a b => b.batch.sendOrder = a.batch.sendOrder) (fun _ => rfl) (fun h k => k.trans h)
    State.tryLane_sendOrder _ s.dropTails

/-- A queued routine frame takes a place (R175). -/
theorem State.pushRoutine_freePlaces (s : State) (d : Byte) (m : Message) :
    (s.pushRoutine d m).freePlaces = s.freePlaces - 1 := by
  change Config.routineCapacity - ((s.port.routine ++ [_]).length + if s.port.reserved then 1 else 0) = Config.routineCapacity - (_ + _) - 1
  rw [List.length_append, List.length_singleton]
  omega

/-- A fault recorded takes a place at most (R160, R175). -/
theorem State.logFault_freePlaces (s : State) (f : Raised) : (s.logFault f).freePlaces ≤ s.freePlaces := by
  have hq : ∀ t : State, t.queueAlert.freePlaces ≤ t.freePlaces := by
    intro t
    unfold State.queueAlert
    split
    · exact le_refl _
    · split
      · exact le_refl _
      · exact (le_of_eq (t.pushRoutine_freePlaces 0 _)).trans (Nat.sub_le _ _)
  unfold State.logFault State.offerAlert
  split
  · exact le_refl _
  · split
    · exact hq _
    · exact le_refl _
    · exact le_refl _

theorem State.FeedOnly.freePlaces {s t : State} (h : s.FeedOnly t) : t.freePlaces = s.freePlaces := by
  unfold State.freePlaces
  rw [h.routine, h.port]

/-- A choice of a batch leaves the send order, and frees no place (R123). -/
theorem State.choose_sending (s : State) :
    s.choose.batch.sendOrder = s.batch.sendOrder ∧ s.choose.freePlaces ≤ s.freePlaces := by
  have hset : ∀ c l, (s.setBlock c l).batch.sendOrder = s.batch.sendOrder ∧
      (s.setBlock c l).freePlaces ≤ s.freePlaces := by
    intro c l
    unfold State.setBlock
    split
    · exact ⟨rfl, le_refl _⟩
    · split
      · exact ⟨by rw [State.refreshFeed_batch]; rfl,
          le_of_eq ((s.onBatch_feedOnly _).trans (State.refreshFeed_feedOnly _)).freePlaces⟩
      · refine ⟨?_, (State.logFault_freePlaces _ _).trans
          (le_of_eq ((s.onBatch_feedOnly _).trans (State.refreshFeed_feedOnly _)).freePlaces)⟩
        rw [(State.logFault_blocks _ _).2.2.1, State.refreshFeed_batch]
        rfl
  unfold State.choose
  split
  · exact ⟨rfl, le_refl _⟩
  · split
    · refine ⟨?_, le_of_eq s.clearBlock_feedOnly.freePlaces⟩
      unfold State.clearBlock
      split
      · rfl
      · rw [State.refreshFeed_batch]
        rfl
    · split
      · exact ⟨rfl, le_refl _⟩
      · split
        · exact hset _ _
        · split
          · refine ⟨?_, le_of_eq (s.openBatch_feedOnly _ _).freePlaces⟩
            unfold State.openBatch
            rw [State.evaluate_sendOrder, State.refreshFeed_batch]
            rfl
          · exact hset _ _

/-- How many rounds of sending a state has left at most: its free places and the entries of its send order. -/
def State.rounds (s : State) : Nat := s.freePlaces + s.batch.sendOrder.length

theorem State.sendOne_rounds (s : State) (ho : s.batch.sendOrder ≠ []) (hp : s.freePlaces ≠ 0) :
    s.sendOne.rounds < s.rounds := by
  have hpush : ∀ q, (s.pushRoutine 0 q).freePlaces < s.freePlaces := by
    intro q
    rw [State.pushRoutine_freePlaces]
    omega
  unfold State.sendOne
  split
  · next h => exact absurd h ho
  · next i rest h =>
    split
    · simp only [State.rounds, State.onBatch, h, List.tail_cons, List.length_cons]
      exact Nat.lt_succ_self _
    · next b _ =>
      dsimp only
      split
      · unfold State.freeEntry
        obtain ⟨h1, h2⟩ := State.choose_sending
          ((((s.pushRoutine 0 (.tally b.report)).setPlace i none).onBatch
            fun q => { q with sendOrder := q.sendOrder.tail }))
        unfold State.rounds
        rw [h1]
        have h3 : ((((s.pushRoutine 0 (.tally b.report)).setPlace i none).onBatch
            fun q => { q with sendOrder := q.sendOrder.tail })).freePlaces <  s.freePlaces := hpush _
        have h4 : ((((s.pushRoutine 0 (.tally b.report)).setPlace i none).onBatch
            fun q => { q with sendOrder := q.sendOrder.tail })).batch.sendOrder = rest := by
          simp only [State.onBatch, State.setPlace, State.pushRoutine, State.onPort, h, List.tail_cons]
        rw [h4, h, List.length_cons]
        omega
      · exact Nat.add_lt_add_right (hpush _) _

theorem State.sendLoop_enough (n : Nat) :
    ∀ s : State, s.rounds ≤ n → State.sendLoop (n + 1) s = State.sendLoop n s := by
  induction n with
  | zero =>
    intro s h
    have : s.freePlaces = 0 := by unfold State.rounds at h; omega
    simp [State.sendLoop, this]
  | succ n ih =>
    intro s h
    by_cases hc : s.batch.sendOrder.isEmpty = true ∨ s.freePlaces = 0
    · simp only [State.sendLoop, if_pos hc]
    · rw [State.sendLoop.eq_2 s (n + 1), State.sendLoop.eq_2 s n, if_neg hc, if_neg hc]
      simp only [List.isEmpty_iff, not_or] at hc
      exact ih _ (by have := s.sendOne_rounds hc.1 hc.2; omega)

theorem State.sendLoop_more (s : State) (n : Nat) (h : s.rounds ≤ n) (k : Nat) :
    State.sendLoop (n + k) s = State.sendLoop n s := by
  induction k with
  | zero => rfl
  | succ k ih => rw [← Nat.add_assoc, State.sendLoop_enough _ _ (by omega), ih]

theorem State.rounds_le (s : State) : s.rounds ≤ Config.routineCapacity + s.batch.sendOrder.length := by
  unfold State.rounds State.freePlaces
  omega

/-- While a place is free and an entry is in the send order, the sending is one TALLY and then the sending of
what the state then holds (R131). -/
theorem State.sendTallies_step (s : State) (ho : s.batch.sendOrder ≠ []) (hp : s.freePlaces ≠ 0) :
    s.sendTallies = s.sendOne.sendTallies := by
  have hr := s.sendOne_rounds ho hp
  have hs := s.rounds_le
  have ht := s.sendOne.rounds_le
  unfold State.sendTallies
  obtain ⟨n, hn⟩ : ∃ n, Config.routineCapacity + s.batch.sendOrder.length = n + 1 := ⟨_, (Nat.succ_pred (by omega)).symm⟩
  rw [hn, State.sendLoop, if_neg (by simp [ho, hp])]
  have more := State.sendLoop_more s.sendOne _ (le_refl _)
  rw [show n = s.sendOne.rounds + (n - s.sendOne.rounds) by omega, more, ← Nat.add_sub_cancel' ht, more]

/-- With no place free or no entry in the send order nothing is sent (R131). -/
theorem State.sendTallies_none (s : State) (h : s.batch.sendOrder = [] ∨ s.freePlaces = 0) : s.sendTallies = s := by
  unfold State.sendTallies
  cases Config.routineCapacity + s.batch.sendOrder.length with
  | zero => rfl
  | succ n =>
    rw [State.sendLoop, if_pos]
    simpa using h

end Sys2Proof.Machine
end

