-- ==== Sys2Proof/Laws/Reception.lean ====
section
/-! SUPPORT. What a reception comes to: the row of R168 that an admitted frame, a request and an own frame take, and the parsing of a frame's own bytes. -/

namespace Sys2Proof.Machine

open Sys2Proof

/-! ### Fields of a body -/

@[simp] theorem halfAt_bytes16 (v : Half) (rest : List Byte) : halfAt (bytes16 v ++ rest) 0 = v := by
  simp only [halfAt, byteAt, bytes16]
  ext i hi
  simp only [List.cons_append, List.nil_append, List.getD_cons_zero, Nat.zero_add, List.getD_cons_succ,
    BitVec.getElem_append, BitVec.getElem_extractLsb']
  split
  · simpa using BitVec.getLsbD_eq_getElem (x := v) (by omega)
  · rw [BitVec.getLsbD_eq_getElem (by omega)]
    congr 1
    omega

theorem halfAt_cons (b : Byte) (rest : List Byte) (i : Nat) : halfAt (b :: rest) (i + 1) = halfAt rest i := rfl

theorem byteAt_cons (b : Byte) (rest : List Byte) (i : Nat) : byteAt (b :: rest) (i + 1) = byteAt rest i := rfl

theorem halfAt_append (l r : List Byte) : halfAt (l ++ r) l.length = halfAt r 0 := by
  induction l with
  | nil => rfl
  | cons b rest ih => simpa [halfAt_cons] using ih

/-- A frame whose body length lies in 0..24 is what its own bytes make (R166). -/
theorem parseFrame_wire (f : Frame) (h : f.body.length ≤ 24) : parseFrame f.wire = some f := by
  have hl : (byteOf f.body.length).toNat = f.body.length := by
    simp only [byteOf, BitVec.toNat_ofNat]
    omega
  have hc : halfAt (f.body ++ bytes16 f.check) f.body.length = f.check := by
    rw [halfAt_append]
    simpa using halfAt_bytes16 f.check []
  have hr : f.wire =
      f.dest :: f.src :: f.kind :: f.marks :: byteOf f.body.length :: (f.body ++ bytes16 f.check) := by
    simp [Frame.wire, Frame.covered]
  rw [hr]
  simp only [parseFrame, hl, Config.maxBody]
  rw [if_pos]
  · rw [hc, List.take_left']
    rfl
  · refine ⟨h, ?_⟩
    simp [bytes16]

/-! ### Rows of R168 -/

theorem State.receive_eq (s : State) (f : Frame) : s.receive f = s.received.sortFrame f := rfl

/-- An admitted frame is handled by the last three rows of R168. -/
theorem State.receive_admits (s : State) (f : Frame) (h : s.admits f = true) :
    s.receive f = s.received.passing f := by
  simp only [State.admits, Bool.and_eq_true, Bool.not_eq_true', bne_iff_ne, decide_eq_true_eq] at h
  obtain ⟨⟨⟨⟨_, hi⟩, hs⟩, hm⟩, ht⟩ := h
  rw [State.receive_eq]
  unfold State.sortFrame
  have hs' : f.src ≠ s.received.port.own := hs
  rw [if_neg (by simp [hi]), if_neg hs', hm, if_neg (by simp), if_neg (by simpa [State.received] using ht)]

/-- RESET is not held where a frame is admitted. -/
theorem State.admits_held (s : State) (f : Frame) (h : s.admits f = true) : s.pins.resetHeld = false := by
  simp only [State.admits, Bool.and_eq_true, Bool.not_eq_true'] at h
  exact h.1.1.1.1

theorem State.admitsOwn_admits (s : State) (f : Frame) (h : s.admitsOwn f = true) : s.admits f = true := by
  simp only [State.admitsOwn, Bool.and_eq_true] at h
  exact h.1

theorem State.admitsRequest_admitsOwn (s : State) (f : Frame) (h : s.admitsRequest f = true) : s.admitsOwn f = true := by
  simp only [State.admitsRequest, Bool.and_eq_true] at h
  exact h.1.1

/-- An admitted frame of known kind addressed to the part is taken by kind (R170). -/
theorem State.receive_admitsOwn (s : State) (f : Frame) (h : s.admitsOwn f = true)
    (hk : knownKind f.kind f.body.length = true) : s.receive f = s.received.addressed f := by
  rw [State.receive_admits s f (s.admitsOwn_admits f h)]
  simp only [State.admitsOwn, Bool.and_eq_true, beq_iff_eq] at h
  have hd : f.dest = s.received.port.own := h.2
  unfold State.passing
  rw [if_pos hd, if_pos hk]

/-- An admitted frame of unknown kind addressed to the part is counted and forwarded (R170). -/
theorem State.receive_unhandled (s : State) (f : Frame) (h : s.admitsOwn f = true)
    (hk : knownKind f.kind f.body.length = false) : s.receive f = s.received.unhandledFrame f := by
  rw [State.receive_admits s f (s.admitsOwn_admits f h)]
  simp only [State.admitsOwn, Bool.and_eq_true, beq_iff_eq] at h
  have hd : f.dest = s.received.port.own := h.2
  unfold State.passing
  rw [if_pos hd, if_neg (by simp [hk])]

/-- A frame that comes home leaves the own-frame list and is reported (R169). -/
theorem State.receive_home (s : State) (f : Frame) (h : s.comesHome f = true) :
    s.receive f = (s.home f).reportReturn f := by
  simp only [State.comesHome, Bool.and_eq_true, Bool.not_eq_true', beq_iff_eq] at h
  obtain ⟨⟨⟨_, hi⟩, hs⟩, ha⟩ := h
  rw [State.receive_eq]
  unfold State.sortFrame
  rw [if_neg (by simp [hi]), if_pos (by simpa [State.received] using hs)]
  unfold State.ownReturn
  rw [if_pos (by simpa [State.received] using ha)]
  rfl

/-- A REQUEST that finds a place is performed with the place reserved, answered, and forwarded taken
(R170, R175, R180). -/
theorem State.receive_request (s : State) (e : Envelope) (code : Byte) (ops : List Byte)
    (h : s.admitsRequest (requestFrame e (code :: ops)) = true) :
    s.receive (requestFrame e (code :: ops)) =
      ((((s.received.onPort fun p => { p with reserved := true }).perform code ops).reply e.src code).forward
        ((requestFrame e (code :: ops)).withMark markTaken)) := by
  have ho := s.admitsRequest_admitsOwn _ h
  have hi : (requestFrame e (code :: ops)).intact = true := by
    have := s.admitsOwn_admits _ ho
    simp only [State.admits, Bool.and_eq_true] at this
    exact this.1.1.1.2
  have hlen : (code :: ops).length ≤ 24 := by
    simp only [Frame.intact, Bool.and_eq_true, decide_eq_true_eq] at hi
    exact hi.1
  have hk : knownKind (requestFrame e (code :: ops)).kind (requestFrame e (code :: ops)).body.length = true := by
    have : knownKind (requestFrame e (code :: ops)).kind (requestFrame e (code :: ops)).body.length =
        (decide (1 ≤ (code :: ops).length) && decide ((code :: ops).length ≤ 24)) := rfl
    rw [this]
    simp only [Bool.and_eq_true, decide_eq_true_eq]
    exact ⟨by simp, hlen⟩
  rw [State.receive_admitsOwn s _ ho hk]
  have hf : s.received.freePlaces ≠ 0 := by
    simp only [State.admitsRequest, Bool.and_eq_true, Bool.not_eq_true', decide_eq_true_eq] at h
    obtain ⟨⟨_, hr⟩, hl⟩ := h
    have : s.received.freePlaces = 16 - (s.port.routine.length + 0) := by
      simp [State.freePlaces, State.received, hr, Config.routineCapacity]
    rw [this]
    have : s.port.routine.length < 16 := hl
    omega
  show s.received.takeRequestFrame _ = _
  unfold State.takeRequestFrame
  rw [if_neg hf]
  rfl

end Sys2Proof.Machine
end

