-- ==== Sys2Proof/Tests/Slice0.lean ====
section
/-! SUPPORT. Tests: ill-formed commands that WellFormed refuses, worked examples of the manual, and for every statement of Certificates/Slice0/Obligations.lean with hypotheses a state and operands that meet them, clause by clause. -/

namespace Sys2Proof.Tests

-- one theorem at a time: each kernel evaluation would else hold a thread while it waits for the one before it
set_option Elab.async false

open Sys2Proof Sys2Proof.Machine

/-! ### Helpers -/

/-- An envelope whose check fits the frame built from it. -/
def env (dest src marks : Byte) (b : Envelope → Frame) : Envelope :=
  { dest := dest, src := src, marks := marks,
    check := crc (b { dest := dest, src := src, marks := marks, check := 0 }).covered }

/-- The state after a command that answers a next state. -/
def run (c : Instr) (s : State) : State :=
  match exec c s with
  | .next t => t
  | .fault _ => s
  | .refused _ => s

/-- The address of the part in these tests: what straps at 0 give. -/
def me : Byte := 1

/-- A request's envelope from the supervisor. -/
def req (body : List Byte) : Envelope := env me 0 0 fun e => requestFrame e body

/-- A command's envelope. -/
def cmd (code : Byte) (operand : List Byte := []) : Envelope := req ([4, code] ++ operand)

/-- A TRAVEL of node 20. -/
def travelOf (delta : Half) (stamp : Stamp) : Instr :=
  .travel (env me 20 0 fun e => travelFrame e delta stamp 1) delta stamp 1

/-- An EDGE envelope of node 16. -/
def edgeEnv (channel edge : Byte) (stamp : Stamp) : Envelope := env 31 16 0 fun e => edgeFrame e channel edge stamp 0

/-- The power-on state in another line state, with these records. -/
def stateIn (l : LineState) (records : List Piece) : State :=
  { State.reset with
    line := { state := l, cause := if l = .suspect then some .ringBreak else none, tfault := l == .suspect, owed := false }
    pieces := { records := records, counter := 100, granted := 7, discharged := 3, lost := 1 }
    feed := { State.reset.feed with condition := if l = .run then .hold .fhold else .hold .line } }

/-- An enabled lane of node 11 with widths 1 and 2. -/
def laneCfg : LaneConfig :=
  { enabled := true, node := 11, level := 0, widths := 3, release := 60, grantDist := 600, feedDist := 3000, arming := 1500 }

/-- A state with lane 1 enabled, in this run state and with this request. -/
def withLane (s : State) (r : LaneRun) (q : Option LaneRequest) : State :=
  { s with
    feed := { s.feed with
      lanes := { s.feed.lanes with l1 := { cfg := laneCfg, run := r, request := q, early := 0, tail := none } }
      order := if r = .ready then [.l1] else [] } }

/-- A held request of lane 1. -/
def request1 : LaneRequest := { span := 1, article := 12, batch := 5001 }

/-- Piece 1 of lane 1, in GRANTED. -/
def piece1 : Piece :=
  { Piece.blank 1 .l1 1 123060 with
    article := 12
    batch := 5001
    reject := .unknownArticle
    window := some { kind := .laneExit, openPt := 120000, expected := 120060, closePt := 120600 } }

/-- Piece 1 at the folder with a ticket for slot X of channel 1. -/
def ticketed1 : Piece := { piece1 with state := .atFolder, window := none, ticket := .sent, ticketSlot := some (.l1, .x) }

/-- A state whose channel 1 slot X is owned by piece 1. -/
def slotState (l : LineState) : State :=
  { stateIn l [ticketed1] with
    folder := { channels := { FolderHandoff.powerOn.channels with l1 := { x := some 1, y := none, next := .y } } } }

/-- An eye of node 16 at index 0. -/
def eye (role : Role) (raw : Edge) (p : Option PendingTransition) (degraded : Bool := false) : Eye :=
  { cfg := { node := 16, channel := 7, role := role, kind := some .inlet, lane := 1, minLength := 40, threshold := 3 }
    dyn := { EyeDynamic.start with raw := raw, pending := p, degraded := degraded, glitches := 2 } }

/-- A state with this eye at index 0 and a two-sample history, in RUN. -/
def eyeState (x : Eye) (repeats : List RepeatKey := []) : State :=
  { stateIn .run [] with
    travel := { State.reset.travel with
      position := 50033, history := [{ stamp := 1000, pos := 50000 }, { stamp := 1200, pos := 50033 }] }
    eyes := { map := State.reset.eyes.map.set 0 x, repeats := repeats } }

/-- A fault record of a severity. -/
def faultOf (v : Severity) : FaultRecord :=
  { code := .glitch, severity := v, stamp := 0, position := 0, piece := none, site := .absent, suspect := false }

/-- A full fault list: ten NOTED, four PIECE, two DOUBT (the example of section 8.7). -/
def fullList : FaultMonitor :=
  { FaultMonitor.powerOn with
    list := List.replicate 10 (faultOf .noted) ++ List.replicate 4 (faultOf .piece) ++ List.replicate 2 (faultOf .doubt) }

/-- A state with a current batch 5001 of this live count at place 0. -/
def lotState (l : LineState) (live : Nat) : State :=
  { stateIn l [] with
    batch := { BatchCounter.powerOn with
      places := some { BatchEntry.fresh 5001 with live := live } :: List.replicate 7 none
      idle := .running 3000 true } }

/-- A state with a full routine queue. -/
def fullQueue (s : State) : State :=
  { s with
    port := { s.port with
      routine := List.replicate 16 { dest := 31, msg := .lineState .config none, suspect := false } } }

/-- A queued SYNC. -/
def sync0 : Queued := { dest := 31, msg := .sync 0, suspect := false }

/-- A state with this frame on the own-frame list. -/
def ownState (s : State) (e : OwnEntry) : State := { s with port := { s.port with ownList := [e] } }

/-! ### Ill-formed commands -/

theorem test_wellFormed_envelope :
    (Instr.withdraw { dest := 32, src := 0, marks := 0, check := 0 } 1).wellFormed = false ∧
      (Instr.withdraw { dest := 31, src := 31, marks := 0, check := 0 } 1).wellFormed = false ∧
      (Instr.withdraw { dest := 31, src := 30, marks := 32, check := 0 } 1).wellFormed = false ∧
      (Instr.withdraw { dest := 31, src := 30, marks := 31, check := 0 } 1).wellFormed = true := by decide

theorem test_wellFormed_span :
    (Instr.ready { dest := 1, src := 0, marks := 0, check := 0 } 1 16 12 1).wellFormed = false ∧
      (Instr.grantReturn { dest := 1, src := 0, marks := 0, check := 0 } 1 16 1).wellFormed = false ∧
      (Instr.ticketReturn { dest := 1, src := 0, marks := 0, check := 0 }
        { channel := 1, slot := 0, piece := 1, article := 0, program := 0, span := 16, length := 0, batch := 0,
          doubt := 0, reason := 0 }).wellFormed = false := by decide

theorem test_wellFormed_bodies :
    (Instr.frameReceive (List.replicate 32 0)).wellFormed = false ∧
      (Instr.ownFrameReturn { dest := 1, src := 0, marks := 0, check := 0 } 6 [0, 0, 0, 0]).wellFormed = false ∧
      (Instr.ownFrameReturn { dest := 1, src := 0, marks := 0, check := 0 } 1 [0, 0]).wellFormed = false ∧
      (Instr.put { dest := 1, src := 0, marks := 0, check := 0 } (List.replicate 24 0)).wellFormed = false ∧
      (Instr.badRequest { dest := 1, src := 0, marks := 0, check := 0 } []).wellFormed = false ∧
      (Instr.badRequest { dest := 1, src := 0, marks := 0, check := 0 } (List.replicate 25 9)).wellFormed = false ∧
      (Instr.badRequest { dest := 1, src := 0, marks := 0, check := 0 } [4, 9]).wellFormed = false ∧
      (Instr.badRequest { dest := 1, src := 0, marks := 0, check := 0 } [5]).wellFormed = true := by decide

theorem test_no_word_spells_a_command :
    decodeTableWord 8 0 = none ∧ (State.reset.withFetchWord 8 0).pending = [] := by decide

/-! ### Worked examples of the manual -/

/-- The example of section 1.3: K = 1300, max step 200, from 100000 with r = 0. -/
def travelExample : State :=
  { stateIn .config [] with
    mgmt := { State.reset.mgmt with line := { State.reset.mgmt.line with scale := 1300, maxStep := 200 } }
    travel := { State.reset.travel with
      ringTime := 5100, position := 100000, history := [{ stamp := 4900, pos := 99990 }, { stamp := 5000, pos := 100000 }] } }

/-- The travel state of a row of the example. -/
def travelAt (position : Pos) (r : Nat) (newest : Stamp) : State :=
  { travelExample with
    travel := { travelExample.travel with
      position := position, remainder := r,
      history := [{ stamp := 4900, pos := 99990 }, { stamp := newest, pos := position }] } }

/-- Rows 2, 4 and 5 of the example of section 1.3. -/
theorem test_travel_rows :
    ((run (travelOf 20 5200) (travelAt 100025 400 5100)).travel.position,
      (run (travelOf 20 5200) (travelAt 100025 400 5100)).travel.remainder) = (100050, 800) ∧
    (run (travelOf 20 5290) (travelAt 100076 176 5300)).travel.history =
      [{ stamp := 4900, pos := 99990 }, { stamp := 5300, pos := 100101 }] ∧
    ((run (travelOf 200 5400) (travelAt 100101 576 5300)).travel.position,
      (run (travelOf 200 5400) (travelAt 100101 576 5300)).travel.remainder) = (100301, 0) := by decide +kernel

/-- The history of the example of section 1.6. -/
def interpolationHistory : TravelUnit :=
  { TravelUnit.powerOn with history := [{ stamp := 1000, pos := 50000 }, { stamp := 1200, pos := 50033 }] }

/-- The table at the end of section 1.6, and its rounding of an exact half. -/
theorem test_conversion_table :
    interpolationHistory.convert 400 900 = (50000, true) ∧ interpolationHistory.convert 400 1130 = (50021, false) ∧
      interpolationHistory.convert 400 1200 = (50033, false) ∧
      interpolationHistory.convert 400 1300 = (50050, false) ∧
      interpolationHistory.convert 400 1700 = (50099, true) ∧
      ({ TravelUnit.powerOn with history := [{ stamp := 0, pos := 100 }, { stamp := 4, pos := 101 }] } : TravelUnit).convert
        400 2 = (101, false) := by decide +kernel

/-- The slip update of section 4.9 and the one of the example of section 4. -/
theorem test_slip_examples : slipAfter 400 (-40) (-100) = -47 ∧ slipAfter 400 20 (-10) = 17 := by decide

/-- The first row of the example of section 8: the oldest NOTED record gives way. -/
theorem test_fault_list_example :
    ((fullList.insert (faultOf .piece)).list.map fun r => r.severity) =
        List.replicate 9 .noted ++ List.replicate 4 .piece ++ List.replicate 2 .doubt ++ [.piece] ∧
      (fullList.insert (faultOf .noted)).overflow = 1 := by decide

/-- The numbering of the example of section 3: with 65535 and 1 held, 65535 is followed by 2. -/
theorem test_number_example :
    freeNumber [Piece.blank 65535 .l1 1 410000, Piece.blank 1 .l2 2 412300] 3 65534 = 65534 ∧
      freeNumber [Piece.blank 65535 .l1 1 410000, Piece.blank 1 .l2 2 412300] 3 65535 = 2 := by decide

/-- The table order of the example of section 3. -/
theorem test_order_example :
    ((insertRecord (Piece.blank 2 .l4 8 412260)
      (insertRecord (Piece.blank 65534 .l3 4 412260)
        [Piece.blank 65535 .l1 1 410000, Piece.blank 1 .l2 2 412300])).map fun r => r.number) =
      [65535, 65534, 2, 1] := by decide

/-- The line of section 11.1 before the READY: lane 1 IDLE, article 12, position 120000, in RUN. -/
def bringUp : State :=
  { withLane (stateIn .run []) .idle none with
    pieces := PieceTable.powerOn
    travel := { State.reset.travel with position := 120000 }
    mgmt := { State.reset.mgmt with
      articles := some { code := 12, data := { nominal := 1000, minimum := 950, maximum := 1050, leadGap := 60,
                                               trailGap := 80, program := 7, policy := .reject } } ::
        List.replicate 63 none } }

/-- FHOLD released in that state. -/
def bringUpGo : State := { bringUp with feed := { bringUp.feed with fhold := false, condition := .go } }

/-- The READY of section 11.1 for lane 1, span {1}, article 12, batch 5001. -/
def readyExample : Instr := .ready (env me 11 0 fun e => readyFrame e 1 1 12 5001) 1 1 12 5001

/-- The row "Evaluation" of the table of section 11.1. -/
theorem test_ready_granted :
    (((run readyExample bringUpGo).lane .l1).run, ((run readyExample bringUpGo).lane .l1).tail) =
        (.granted, some { pos := 124060, gap := 80, owner := 1 }) ∧
      ((run readyExample bringUpGo).pieces.records.map fun r => (r.number, r.orderKey)) = [(1, 123060)] ∧
      (run readyExample bringUpGo).feed.pointer = .l2 ∧ (run readyExample bringUpGo).feed.occupancy = 1 ∧
      (run readyExample bringUpGo).currentBatch = some 5001 := by decide +kernel

/-- The GRANT of section 11.1 goes to node 11 with lane 1, span {1}, piece 1. -/
theorem test_grant_queued :
    ((run readyExample bringUpGo).port.urgent.getLast?.map fun q => (q.dest, q.msg.kind, q.msg.body)) =
      some (11, 6, [1, 1, 0, 1]) := by decide +kernel

/-- The lane-2 requirement of section 5.5: not at 203180, met from 203240. -/
theorem test_release_gap :
    let s := { stateIn .run [] with
      feed := { State.reset.feed with
        lanes := { State.reset.feed.lanes with
          l2 := { State.reset.feed.lanes.l2 with tail := some { pos := 203100, gap := 80, owner := 9 } } } }
      travel := { State.reset.travel with position := 200000 } }
    s.gapOk 203180 60 .l2 = false ∧ s.gapOk 203239 60 .l2 = false ∧ s.gapOk 203240 60 .l2 = true := by decide +kernel

/-- The PUT of path entry 2 of section 11.1: HALT 120 is stored as 112, the answer is DONE_CLAMPED. -/
theorem test_put_clamped :
    let f : List Byte := [4, 120, 64] ++ bytes16 2000 ++ bytes16 150 ++ bytes16 150 ++ bytes16 2000 ++ bytes16 3000 ++ [1]
    let s := { State.reset with mgmt := { State.reset.mgmt with table := .path, index := 2 } }
    (run (.put (req (2 :: f)) f) s).mgmt.flow.halt = 112 ∧ (run (.put (req (2 :: f)) f) s).mgmt.index = 3 ∧
      ((run (.put (req (2 :: f)) f) s).port.routine.getLast?.map fun q => q.msg.body) = some [2, 1, 4, 2] := by
  decide +kernel

/-- The inlet match of the example of section 4: piece 41 of lanes 1 and 2, deviation and EXIT window. -/
theorem test_inlet_match :
    let r : Piece :=
      { Piece.blank 41 .l1 3 103060 with
        state := .onFeed
        snapshot := some { nominal := 2400, minimum := 2300, maximum := 2500, leadGap := 60, trailGap := 80,
                           program := 7, policy := .reject }
        window := some { kind := .inlet, openPt := 102890, expected := 103040, closePt := 103190 } }
    let s := { stateIn .run [r] with matcher := { Matcher.powerOn with slip := { Matcher.powerOn.slip with l1 := 20 } } }
    let t : Transition :=
      { node := 14, channel := 0, kind := .inlet, lane := .l1, edge := .block, pos := 103010, stale := false }
    ((s.takeBlock t).1.pieces.records.map fun q =>
        (q.window, q.devInlet, q.measurement.map fun m => (m.owed, m.limit))) =
        [(some { kind := .exit, openPt := 126730, expected := 127030, closePt := 127330 }, some (-30),
          some (2, 105610))] ∧
      (s.takeBlock t).2 = 41 := by decide +kernel

/-- The first glitch of the example of section 2: BLOCK at 204275 cancels CLEAR at 204260 with m = 40. -/
theorem test_glitch_example :
    (eye .track .clear (some { kind := .clear, pos := 204260, stale := false })).isGlitch 204275 = true ∧
      (eye .track .clear (some { kind := .clear, pos := 204260, stale := false })).isGlitch 204300 = false := by
  decide

/-- The example of section 7: with X freed and piece 72 pending before 73, slot X serves 72 and the pointer names Y. -/
theorem test_slot_served :
    let p (n : Half) (d : Pos) : Piece :=
      { Piece.blank n .l3 4 n.toNat with state := .atFolder, ticket := .pending, deadline := some d }
    let u := State.servePending (stateIn .run [p 72 303300, p 73 304200]) .l3 .x
    ((u.channel .l3).x, (u.channel .l3).next) = (some 72, .y) ∧
      (u.pieces.records.map fun r => r.ticket) = [.sent, .pending] := by decide +kernel

/-- A check covers the bytes of its frame, and the frame's bytes parse back to it. -/
theorem test_wire_parses :
    parseFrame (travelFrame (env me 20 0 fun e => travelFrame e 20 5100 1) 20 5100 1).wire =
      some (travelFrame (env me 20 0 fun e => travelFrame e 20 5100 1) 20 5100 1) := by decide +kernel

/-- An empty queue idles, and the front command is taken with the rest left waiting. -/
theorem test_step_takes_front :
    (step { State.reset with pending := [.ringTick true, .transitForward] } =
      exec (.ringTick true) { State.reset with pending := [.transitForward] }) ∧ step State.reset = .next State.reset :=
  ⟨rfl, rfl⟩

/-- MODE RUN of section 11.1 with K = 0 answers BAD_TABLES with item 1. -/
theorem test_mode_run_bad_tables :
    ((run (.modeRun (cmd 1)) State.reset).port.routine.getLast?.map fun q => q.msg.body) =
      some [4, 8, 1, 1, 0, 0] := by decide +kernel

/-! ### The hypotheses of the statements are met -/

/-- A state that meets every invariant, with a record, a READY lane and a TRAVEL waiting. -/
def soundState : State :=
  { withLane (stateIn .run [piece1]) .ready (some request1) with pending := [travelOf 200 5400, .ringBreak] }

theorem witness_invariants :
    soundState.lineSound = true ∧ soundState.faultsSound = true ∧ soundState.repeatsSound = true ∧
      soundState.travelSound = true ∧ soundState.portSound = true ∧ soundState.recordsSound = true ∧
      soundState.numbersSound = true ∧ soundState.requestsSound = true ∧ soundState.conditionSound = true ∧
      soundState.doubtSound = true ∧ (stateIn .suspect [{ piece1 with doubt := true }]).doubtSound = true ∧
      soundState.orderSound = true ∧ soundState.addressSound = true ∧ soundState.batchesSound = true := by
  decide +kernel

theorem witness_step_answers : ∃ t, step soundState = .next t := ⟨_, rfl⟩

/-- A TICKET of a piece for slot X of channel 1. -/
def queuedTicket (n : Half) : Queued :=
  { dest := 30
    msg := .ticket { channel := .l1, slot := .x, piece := n, article := 12, program := 0, span := 1, length := none,
                     batch := 5001, doubt := false, reason := .unknownArticle }
    suspect := false }

/-- The line of section 11.1 after the grant with the next command waiting, and a line with a TICKET waiting while another is out. -/
def trackedStates : List State :=
  [{ run readyExample bringUpGo with pending := [travelOf 20 5100] },
   { slotState .run with
     pending := [.frameInsert]
     feed := { (slotState .run).feed with occupancy := 1 }
     port := { (slotState .run).port with
       urgent := [queuedTicket 1]
       ownList := [{ dest := 30, kind := 8, body := [1, 0, 0, 2, 12, 0, 1, 255, 255, 19, 137, 0, 3], age := 4 }] } }]

theorem witness_LanesAndSlotsKept :
    (∀ s ∈ trackedStates, s.trackingSound = true ∧ s.urgentSound = true ∧ s.ticketsApart = true ∧ s.pieces.records ≠ []) ∧
      ∀ s ∈ trackedStates, (match step s with | .next _ => true | _ => false) = true := by decide +kernel

theorem witness_PowerOnAndReset :
    State.reset.pins.resetHeld = false ∧ (run .resetAssert State.reset).pins.resetHeld = true := by decide +kernel

theorem witness_HeldResetIgnores :
    (run .resetAssert State.reset).pins.resetHeld = true ∧ (∀ x, Instr.frameInsert ≠ .powerOn x) ∧
      Instr.frameInsert ≠ .resetAssert ∧ ∀ x, Instr.frameInsert ≠ .resetRelease x :=
  ⟨by decide +kernel, (by intro x h; cases h), (by intro h; cases h), (by intro x h; cases h)⟩

theorem witness_RingTickCounts :
    soundState.pins.resetHeld = false ∧
      (run (.ringTick true) { soundState with travel := { soundState.travel with syncCount := 99 } }).travel.periodEnds =
        [1] := by decide +kernel

theorem witness_SyncPeriodEnds :
    let s := { soundState with travel := { soundState.travel with periodEnds := [100, 200] } }
    s.pins.resetHeld = false ∧ s.travel.periodEnds = [100, 200] ∧ soundState.travel.periodEnds = [] := by
  decide +kernel

theorem witness_HistoryAgesOut :
    let s := { soundState with
      travel := { soundState.travel with
        ringTime := 4194304, history := [{ stamp := 0, pos := 1 }, { stamp := 1, pos := 2 }] } }
    s.pins.resetHeld = false ∧ (run .historyAgeOut s).travel.history = [{ stamp := 1, pos := 2 }] := by decide +kernel

/-- The travel-loss timer of a state marked expired. -/
def lossDue (s : State) : State := { s with travel := { s.travel with loss := .running 1000 true } }

theorem witness_TravelLossTaken :
    ((lossDue (stateIn .config [])).pins.resetHeld = false ∧
      (lossDue (stateIn .config [])).travel.loss = .running 1000 true ∧
      (lossDue (stateIn .config [])).pieces.records = []) ∧
    ((lossDue soundState).pins.resetHeld = false ∧ (lossDue soundState).travel.loss = .running 1000 true ∧
      (lossDue soundState).pieces.records ≠ [] ∧ (lossDue soundState).line.state ≠ .suspect) ∧
    ((lossDue (stateIn .suspect [piece1])).pins.resetHeld = false ∧
      (lossDue (stateIn .suspect [piece1])).pieces.records ≠ [] ∧
      (lossDue (stateIn .suspect [piece1])).line.state = .suspect) := by decide +kernel

theorem witness_TravelLossTaken_notDue : ∀ n, soundState.travel.loss ≠ .running n true := fun _ h => nomatch h

theorem witness_IdleTimeoutCloses :
    ((lotState .run 2).pins.resetHeld = false ∧ (lotState .run 2).batch.idle = .running 3000 true ∧
      (lotState .run 2).currentPlace = some 0 ∧ (lotState .run 2).batchesSound = true ∧
      (lotState .run 2).batchAt 0 = some { BatchEntry.fresh 5001 with live := 2 }) ∧
    ((lotState .draining 0).currentPlace = some 0 ∧
      (lotState .draining 0).batchAt 0 = some { BatchEntry.fresh 5001 with live := 0 } ∧
      (lotState .draining 0).line.state ≠ .run) := by decide +kernel

theorem witness_IdleTimeoutCloses_notDue : ∀ n, soundState.batch.idle ≠ .running n true := fun _ h => nomatch h

/-- A state with this hold-off and accumulator. -/
def holdoffState (s : State) (h : Holdoff) (acc : Option Merged) : State :=
  { s with faults := { s.faults with holdoff := h, acc := acc } }

/-- An accumulator of one fault. -/
def merged1 : Merged := { count := 1, highest := .piece, code := .lengthLong, piece := some 88, position := 512300 }

theorem witness_HoldoffEnds :
    ((holdoffState State.reset (.running 10) none).pins.resetHeld = false ∧
      (holdoffState State.reset (.running 10) none).faults.holdoff = .running 10 ∧
      (holdoffState State.reset (.running 10) none).faults.acc = none) ∧
    ((holdoffState State.reset (.running 10) (some merged1)).faults.acc = some merged1 ∧
      (holdoffState State.reset (.running 10) (some merged1)).freePlaces ≠ 0) ∧
    ((holdoffState (fullQueue State.reset) (.running 10) (some merged1)).faults.acc = some merged1 ∧
      (holdoffState (fullQueue State.reset) (.running 10) (some merged1)).freePlaces = 0) := by decide +kernel

theorem witness_HoldoffEnds_notYet :
    ∀ n, (holdoffState State.reset (.running 9) none).faults.holdoff = .running n → n < 10 := by
  rintro n h
  cases h
  decide

/-- An own-frame list entry of an age: the GRANT of piece 1 to node 11. -/
def entryAged (age : Nat) : OwnEntry := { dest := 11, kind := 6, body := [1, 1, 0, 1], age := age }

theorem witness_RingBreakTaken :
    ((ownState (stateIn .run [piece1]) (entryAged 500)).pins.resetHeld = false ∧
      (ownState (stateIn .run [piece1]) (entryAged 500)).port.ownList = [] ++ entryAged 500 :: [] ∧
      (∀ x ∈ ([] : List OwnEntry), x.age < 500) ∧ 500 ≤ (entryAged 500).age ∧
      (ownState (stateIn .run [piece1]) (entryAged 500)).line.state ≠ .suspect) ∧
    (ownState (stateIn .suspect [piece1]) (entryAged 500)).line.state = .suspect ∧
    (∀ x ∈ (ownState (stateIn .run [piece1]) (entryAged 499)).port.ownList, x.age < 500) := by decide +kernel

/-- A state with this held level of FHOLD and this read. -/
def fholdState (s : State) (held : Bool) (read : Option Bool) : State :=
  { s with feed := { s.feed with fhold := held, fholdRead := read } }

theorem witness_FholdTaken :
    ((fholdState soundState false (some true)).pins.resetHeld = false ∧
      (fholdState soundState false (some true)).feed.fholdRead = some true ∧
      (fholdState soundState false (some true)).feed.fhold = false) ∧
    ((fholdState soundState true (some false)).feed.fholdRead = some false ∧
      (fholdState soundState true (some false)).feed.fhold = true) ∧
    ((fholdState soundState true (some true)).feed.fholdRead = some (fholdState soundState true (some true)).feed.fhold ∧
      soundState.feed.fholdRead = none) := by decide +kernel

/-- A WITHDRAW frame for another node. -/
def passingFrame (marks : Byte) (dest : Byte := 7) : Frame :=
  withdrawFrame (env dest 12 marks fun e => withdrawFrame e 1) 1

theorem witness_PassingFrameForwarded :
    parseFrame (passingFrame 0).wire = some (passingFrame 0) ∧ State.reset.admits (passingFrame 0) = true ∧
      (passingFrame 0).dest ≠ State.reset.port.own ∧ ¬((passingFrame 0).dest = 31 ∧ (passingFrame 0).kind = 3) := by
  decide +kernel

theorem witness_DamagedFrameCounted :
    (State.reset.pins.resetHeld = false ∧ parseFrame [1, 2, 3] = none ∧
      RepeatKey.frameDamaged ∉ State.reset.eyes.repeats ∧ State.reset.eyes.repeats.length < 8) ∧
    (parseFrame { passingFrame 0 with check := 0 }.wire = some { passingFrame 0 with check := 0 } ∧
      ({ passingFrame 0 with check := 0 } : Frame).intact = false) ∧
    RepeatKey.frameDamaged ∈ (eyeState (eye .track .clear none) [.frameDamaged]).eyes.repeats := by decide +kernel

/-- A state with two frames in the transit buffer. -/
def fullTransit : State :=
  { State.reset with port := { State.reset.port with transit := [passingFrame 4, passingFrame 4] } }

/-- A frame of kind 15 for the part. -/
def unknownFrame : Frame := envFrame (env me 12 0 fun e => envFrame e 15 []) 15 []

/-- A GRANT addressed to the part: a known kind that no block takes. -/
def strayGrant : Frame := grantFrame (env me 12 0 fun e => grantFrame e 1 1 1) 1 1 1

theorem witness_StrippedDroppedUnhandled :
    (parseFrame (passingFrame 4).wire = some (passingFrame 4) ∧ (passingFrame 4).intact = true ∧
      (passingFrame 4).src ≠ State.reset.port.own ∧ isMonitored (passingFrame 4).marks = true) ∧
    (parseFrame (passingFrame 0).wire = some (passingFrame 0) ∧ fullTransit.pins.resetHeld = false ∧
      (passingFrame 0).intact = true ∧ (passingFrame 0).src ≠ fullTransit.port.own ∧
      isMonitored (passingFrame 0).marks = false ∧ 2 ≤ fullTransit.port.transit.length) ∧
    (parseFrame unknownFrame.wire = some unknownFrame ∧ State.reset.admitsOwn unknownFrame = true ∧
      knownKind unknownFrame.kind unknownFrame.body.length = false) ∧
    (parseFrame strayGrant.wire = some strayGrant ∧ State.reset.admitsOwn strayGrant = true ∧
      knownKind strayGrant.kind strayGrant.body.length = true ∧ strayGrant.kind.toNat ≠ 2 ∧ strayGrant.kind.toNat ≠ 4 ∧
      strayGrant.kind.toNat ≠ 5 ∧ strayGrant.kind.toNat ≠ 9 ∧ strayGrant.kind.toNat ≠ 13) := by decide +kernel

/-- A TRAVEL frame of node 20. -/
def travelFrameOf (delta : Half) : Frame :=
  travelFrame (env me 20 0 fun e => travelFrame e delta 5400 1) delta 5400 1

/-- A state with K = 1024, so that a step is its count, and the default max step 200. -/
def scaled (s : State) : State := { s with mgmt := { s.mgmt with line := { s.mgmt.line with scale := 1024 } } }

theorem witness_TravelAccumulates :
    (scaled soundState).admitsOwn (travelFrameOf 200) = true ∧ (200 : Half).toNat < 32768 ∧
      ((200 : Half).toNat * (scaled soundState).mgmt.line.scale + (scaled soundState).travel.remainder) / 1024 ≤
        (scaled soundState).mgmt.line.maxStep ∧
      (scaled State.reset).admitsOwn (travelFrameOf 0) = true ∧ State.reset.line.state = .config ∧
      (0 : Half).toNat < 32768 := by decide +kernel

/-- A clamped step leaves the sample with the position before it and the clamp indication. -/
theorem test_clamped_sample :
    ((run (travelOf 201 5400) (scaled soundState)).travel.sample.map fun x => (x.before, x.after, x.clamped)) =
      some (0, 200, true) := by decide +kernel

theorem witness_TravelClampedOrReversed :
    ((scaled soundState).admitsOwn (travelFrameOf 201) = true ∧ (201 : Half).toNat < 32768 ∧
      (scaled soundState).mgmt.line.maxStep <
        ((201 : Half).toNat * (scaled soundState).mgmt.line.scale + (scaled soundState).travel.remainder) / 1024) ∧
    ((stateIn .config []).admitsOwn (travelFrameOf 32768) = true ∧ 32768 ≤ (32768 : Half).toNat ∧
      (stateIn .config []).pieces.records = []) ∧
    (soundState.admitsOwn (travelFrameOf 65535) = true ∧ 32768 ≤ (65535 : Half).toNat ∧
      soundState.pieces.records ≠ [] ∧ soundState.line.state ≠ .suspect) := by decide +kernel

theorem witness_InteriorStampConverts :
    interpolationHistory.history = { stamp := 1000, pos := 50000 } :: { stamp := 1200, pos := 50033 } :: [] ∧
      0 ≤ ((1130 : Stamp) - 1000).toInt ∧ (∀ q ∈ interpolationHistory.history, q.stamp ≠ 1130) ∧
      segmentAround 1130 interpolationHistory.history =
        some ({ stamp := 1000, pos := 50000 }, { stamp := 1200, pos := 50033 }) ∧
      ((1200 : Stamp) - 1000).toInt = ((1200 : Stamp) - 1130).toInt + ((1130 : Stamp) - 1000).toInt ∧
      0 < ((1200 : Stamp) - 1130).toInt ∧ 0 ≤ ((50033 : Pos) - 50000).toInt := by decide +kernel

theorem witness_EdgePassesThrough :
    (State.reset.admits (edgeFrame (edgeEnv 8 1 1130) 8 1 1130 0) = true ∧ (edgeEnv 8 1 1130).dest = 31 ∧
      State.reset.port.own ≠ 31 ∧ 7 < (8 : Byte).toNat) ∧
    (State.reset.admits (edgeFrame (edgeEnv 7 3 1130) 7 3 1130 0) = true ∧ (3 : Byte).toNat ≠ 1 ∧ (3 : Byte).toNat ≠ 2) ∧
    (State.reset.admits (edgeFrame (edgeEnv 7 1 1130) 7 1 1130 0) = true ∧ State.reset.eyeIndex 16 7 = none) ∧
    ((eyeState (eye .pass .clear none)).eyeIndex 16 7 = some 0 ∧
      (eyeState (eye .pass .clear none)).eyeAt 0 = some (eye .pass .clear none)) ∧
    ((eyeState (eye .track .clear none true)).eyeIndex 16 7 = some 0 ∧
      (eyeState (eye .track .clear none true)).eyeAt 0 = some (eye .track .clear none true) ∧
      (eye .track .clear none true).dyn.degraded = true) ∧
    ((eyeState (eye .drop .clear none)).admits (edgeFrame (edgeEnv 7 1 1130) 7 1 1130 0) = true ∧
      (7 : Byte).toNat ≤ 7 ∧ (eyeState (eye .drop .clear none)).eyeIndex 16 7 = some 0 ∧
      (eyeState (eye .drop .clear none)).eyeAt 0 = some (eye .drop .clear none)) := by decide +kernel

/-- The eye with minimum length 0. -/
def eyeAtOnce : Eye := { eye .track .clear none with cfg := { (eye .track .clear none).cfg with minLength := 0 } }

/-- A pending BLOCK whose p + m is the position at which an edge stamped 1130 converts, 50021. -/
def pendingBlock : PendingTransition := { kind := .block, pos := 49981, stale := false }

/-- Two eyes due at these positions, at indices 0 and 31, in CONFIG. -/
def dueState (p q : Pos) : State :=
  { eyeState (eye .track .clear none) with
    line := State.reset.line
    eyes := {
      map := ((eyeState (eye .track .clear none)).eyes.map.set 0
        (eye .track .block (some { kind := .block, pos := p, stale := false }))).set 31
        (eye .track .block (some { kind := .block, pos := q, stale := false }))
      repeats := [] } }

theorem witness_EdgeStartsPending :
    ((eyeState (eye .track .clear none)).admits (edgeFrame (edgeEnv 7 1 1130) 7 1 1130 0) = true ∧
      (edgeEnv 7 1 1130).dest = 31 ∧ (7 : Byte).toNat ≤ 7 ∧ edgeOf 1 = some .block ∧ edgeOf 2 = some .clear ∧
      (eyeState (eye .track .clear none)).eyeIndex (edgeEnv 7 1 1130).src 7 = some 0 ∧
      (eyeState (eye .track .clear none)).eyeAt 0 = some (eye .track .clear none) ∧
      (eye .track .clear none).cfg.role = .track ∧ (eye .track .clear none).dyn.degraded = false ∧
      (eye .track .clear none).dyn.raw ≠ .block ∧ (eye .track .clear none).dyn.pending = none ∧
      (eye .track .clear none).cfg.minLength ≠ 0) ∧
    ((eyeState (eye .track .block (some pendingBlock))).admits (edgeFrame (edgeEnv 7 2 1130) 7 2 1130 0) = true ∧
      (eyeState (eye .track .block (some pendingBlock))).eyeAt 0 = some (eye .track .block (some pendingBlock)) ∧
      (eye .track .block (some pendingBlock)).dyn.raw ≠ .clear ∧
      0 ≤ (((eyeState (eye .track .block (some pendingBlock))).travel.convert 400 1130).1 -
        (pendingBlock.pos + BitVec.ofNat 32 40)).toInt) ∧
    ((eyeState eyeAtOnce).admits (edgeFrame (edgeEnv 7 1 1130) 7 1 1130 0) = true ∧
      (eyeState eyeAtOnce).eyeIndex 16 7 = some 0 ∧ (eyeState eyeAtOnce).eyeAt 0 = some eyeAtOnce ∧
      eyeAtOnce.dyn.pending = none ∧ eyeAtOnce.cfg.minLength = 0 ∧ (eyeState eyeAtOnce).line.state ≠ .config ∧
      eyeAtOnce.cfg.kind = some .inlet ∧ eyeAtOnce.cfg.lane.toNat = Lane.l1.number) ∧
    ((dueState 49993 49993).line.state = .config ∧
      (dueState 49993 49993).dueEyes.Perm [(0, 49993), (31, 49993)] ∧
      (dueState 49993 49990).dueEyes.Perm [(0, 49993), (31, 49990)] ∧ 0 < ((49993 : Pos) - 49990).toInt) := by
  decide +kernel

/-- A pending CLEAR just before the position at which a BLOCK stamped 1130 converts. -/
def pendingClear : PendingTransition := { kind := .clear, pos := 50010, stale := false }

theorem witness_DuplicateAndGlitchCounted :
    ((eyeState (eye .track .block none)).admits (edgeFrame (edgeEnv 7 1 1130) 7 1 1130 0) = true ∧
      (eyeState (eye .track .block none)).eyeAt 0 = some (eye .track .block none) ∧
      (eye .track .block none).dyn.raw = .block) ∧
    ((eyeState (eye .track .clear (some pendingClear))).admits (edgeFrame (edgeEnv 7 1 1130) 7 1 1130 0) = true ∧
      (eyeState (eye .track .clear (some pendingClear))).eyeAt 0 = some (eye .track .clear (some pendingClear)) ∧
      (eye .track .clear (some pendingClear)).dyn.raw ≠ .block ∧
      (((eyeState (eye .track .clear (some pendingClear))).travel.convert 400 1130).1 -
        (pendingClear.pos + BitVec.ofNat 32 40)).toInt < 0) := by decide +kernel

/-- READY of node 11. -/
def readyOf (lane span article : Byte) (batch : Half) : Frame :=
  readyFrame (env me 11 0 fun e => readyFrame e lane span article batch) lane span article batch

theorem witness_ReadyAccepted :
    (bringUpGo.admitsOwn (readyOf 1 1 12 5001) = true ∧ Lane.ofNumber (1 : Byte).toNat = some .l1 ∧
      (12 : Byte).toNat ≠ 0 ∧ (12 : Byte).toNat ≠ 255 ∧ (5001 : Half) ≠ 0 ∧ bringUpGo.line.state ≠ .config ∧
      (bringUpGo.lane .l1).run = .idle ∧ bringUpGo.spanPermitted .l1 1 = true) ∧
    ((soundState.lane .l1).run = .ready ∧ soundState.spanPermitted .l1 1 = true ∧
      soundState.admitsOwn (readyOf 1 1 12 5001) = true) ∧
    ((withLane (stateIn .draining [piece1]) .idle none).admitsOwn (readyOf 1 1 254 65535) = true ∧
      (withLane (stateIn .draining [piece1]) .idle none).line.state ≠ .run) := by decide +kernel

/-- The line of section 11.1 with the request waiting in its current batch 5001, a tail of lane 1 at this position, and
this last granted batch. -/
def grantReady (tail : Pos) (last : Option Half) : State :=
  { bringUpGo with
    feed := { bringUpGo.feed with
      lanes := { bringUpGo.feed.lanes with
        l1 := { cfg := laneCfg, run := .ready, request := some request1, early := 0,
                tail := some { pos := tail, gap := 80, owner := 9 } } }
      order := [.l1]
      lastBatch := last }
    batch := { BatchCounter.powerOn with places := some (BatchEntry.fresh 5001) :: List.replicate 7 none } }

/-- The hypotheses of a grant on lane 1, of the predicted inlet lead 123060 with lead gap 60. -/
theorem witness_ReadyAccepted_grant :
    (∀ s ∈ [grantReady 122920 none, grantReady 122920 (some 5001), grantReady 121060 (some 5000)],
      (s.lane .l1).run = .ready ∧ (s.lane .l1).request = some request1 ∧ s.line.state = .run ∧ s.feed.fhold = false ∧
        s.feed.hold = false ∧ s.pieces.records = [] ∧ (∀ q ∈ s.port.urgent, q.grantSpan &&& request1.span = 0) ∧
        s.currentBatch = some request1.batch ∧ (s.lane .l1).cfg.level < s.mgmt.flow.mask ∧
        s.travel.position + BitVec.ofNat 32 ((s.lane .l1).cfg.release + (s.lane .l1).cfg.feedDist) = 123060 ∧
        ((s.findArticle 12).map fun a => a.leadGap) = some 60 ∧
        ∀ k ∈ allLanes, ∀ x ∈ (s.lane k).tail, ((x.gap + 60 : Nat) : Int) ≤ (123060 - x.pos).toInt) ∧
    (grantReady 121060 (some 5000)).mgmt.flow.batchGap = 2000 ∧
    (∀ x ∈ ((grantReady 121060 (some 5000)).lane .l1).tail, (2000 : Int) ≤ (123060 - x.pos).toInt) := by decide +kernel

/-- A request that waits for its gap (short by one unit), one below the mask's level, and one outside RUN; and the order
in which lanes of one level and of different levels are tested. -/
theorem witness_ReadyAccepted_waits :
    (((grantReady 122921 none).lane .l1).request = some request1 ∧
      (∀ x ∈ ((grantReady 122921 none).lane .l1).tail,
        ((grantReady 122921 none).travel.position - x.pos).toInt ≤ 65536 ∧
          (123060 - x.pos).toInt < ((x.gap + 60 : Nat) : Int))) ∧
    ((soundState.lane .l1).request = some request1 ∧ soundState.feed.fhold = true ∧
      soundState.currentBatch ≠ some request1.batch ∧ (∃ q ∈ soundState.pieces.records, q.state = .granted ∧
        q.span &&& request1.span ≠ 0)) ∧
    ((withLane (stateIn .draining []) .ready (some request1)).line.state ≠ .run ∧
      ((withLane (stateIn .draining []) .ready (some request1)).lane .l1).request = some request1) ∧
    ((grantReady 0 none).lane .l1).cfg.level = ((grantReady 0 none).lane .l4).cfg.level ∧
      (grantReady 0 none).feed.pointer = .l1 := by decide +kernel

theorem witness_ReadyNotAccepted :
    (bringUpGo.admitsOwn (readyOf 0 1 12 5001) = true ∧ bringUpGo.admitsOwn (readyOf 5 1 12 5001) = true ∧
      4 < (5 : Byte).toNat ∧ bringUpGo.admitsOwn (readyOf 1 1 255 5001) = true ∧
      bringUpGo.admitsOwn (readyOf 1 1 12 0) = true ∧ State.reset.line.state = .config ∧
      Lane.ofNumber (2 : Byte).toNat = some .l2 ∧ (bringUpGo.lane .l2).run = .offline) ∧
    ((withLane (stateIn .run [piece1]) .granted none).admitsOwn (readyOf 1 1 12 5001) = true ∧
      ((withLane (stateIn .run [piece1]) .granted none).lane .l1).run = .granted) ∧
    (bringUpGo.admitsOwn (readyOf 1 3 12 5001) = true ∧ (bringUpGo.lane .l1).run = .idle ∧
      bringUpGo.spanPermitted .l1 3 = false ∧ (soundState.lane .l1).run = .ready ∧
      soundState.spanPermitted .l1 3 = false) := by decide +kernel

/-- WITHDRAW of node 11. -/
def withdrawOf (lane : Byte) : Frame := withdrawFrame (env me 11 0 fun e => withdrawFrame e lane) lane

theorem witness_WithdrawHandled :
    (soundState.admitsOwn (withdrawOf 1) = true ∧ Lane.ofNumber (1 : Byte).toNat = some .l1 ∧
      (soundState.lane .l1).run = .ready ∧ (lotState .draining 1).currentPlace.isSome = true) ∧
    ((withLane (stateIn .run [piece1]) .granted none).admitsOwn (withdrawOf 1) = true ∧
      ((withLane (stateIn .run [piece1]) .granted none).lane .l1).run = .granted ∧
      (withLane (stateIn .run [piece1]) .granted none).grantedOn .l1 = some 1) ∧
    (soundState.admitsOwn (withdrawOf 0) = true ∧ soundState.admitsOwn (withdrawOf 5) = true ∧ 4 < (5 : Byte).toNat ∧
      soundState.admitsOwn (withdrawOf 4) = true ∧ Lane.ofNumber (4 : Byte).toNat = some .l4 ∧
      (soundState.lane .l4).run = .offline) := by decide +kernel

/-- A BLOCK transition on lane 1. -/
def blockAt (k : Checkpoint) (p : Pos) (stale : Bool := false) : Transition :=
  { node := 16, channel := 7, kind := k, lane := .l1, edge := .block, pos := p, stale := stale }

/-- Piece 1 with a window of a kind around 120060. -/
def pieceAt (k : Checkpoint) : Piece :=
  { piece1 with window := some { kind := k, openPt := 120000, expected := 120060, closePt := 120600 } }

/-- Piece 1 with a window of a kind at this position, and its one span eye of that kind. -/
def windowState (l : LineState) (degraded : Bool) (k : Checkpoint) (p : Nat) : State :=
  { stateIn l [pieceAt k] with
    travel := { State.reset.travel with position := BitVec.ofNat 32 p }
    eyes := { State.reset.eyes with
      map := State.reset.eyes.map.set 0
        { eye .track .clear none degraded with cfg := { (eye .track .clear none).cfg with kind := some k } } } }

/-- The close point 120600 with margin 40, passed and just reached; the expected point 120060 of a blind record, reached and not. -/
theorem witness_PieceMatched_window :
    (∀ k ∈ [Checkpoint.laneExit, .inlet, .exit], ∀ p ∈ [120641, 120640],
      (windowState .suspect false k p).findPiece 1 = some (pieceAt k) ∧
        (windowState .suspect false k p).blind k 1 = false ∧ (windowState .suspect false k p).closeMargin k 1 = 40 ∧
        (windowState .suspect false k p).admitsOwn (travelFrameOf 0) = true ∧
        (windowState .suspect false k p).travel.remainder < 1024 ∧
        (∀ x ∈ (windowState .suspect false k p).eyes.map, x.dyn.pending = none) ∧ (pieceAt k).measurement = none) ∧
    (∀ k ∈ [Checkpoint.laneExit, .inlet, .exit], ∀ p ∈ [120060, 120059],
      (windowState .run true k p).findPiece 1 = some (pieceAt k) ∧ (windowState .run true k p).blind k 1 = true) := by
  decide +kernel

theorem witness_PieceMatched :
    (nearest 120600 ((stateIn .run [pieceAt .laneExit]).candidates (blockAt .laneExit 120600 true)) =
        some (pieceAt .laneExit) ∧
      (((stateIn .run [pieceAt .laneExit]).takeBlock (blockAt .laneExit 120600 true)).1.findPiece 1).isSome = true) ∧
    (nearest 120000 ((stateIn .run [pieceAt .inlet]).candidates (blockAt .inlet 120000)) = some (pieceAt .inlet) ∧
      (((stateIn .run [pieceAt .inlet]).takeBlock (blockAt .inlet 120000)).1.findPiece 1).isSome = true) ∧
    (nearest 120060 ((stateIn .run [pieceAt .exit]).candidates (blockAt .exit 120060)) = some (pieceAt .exit) ∧
      (((stateIn .run [pieceAt .exit]).takeBlock (blockAt .exit 120060)).1.findPiece 1).isSome = true) ∧
    ((stateIn .run [pieceAt .inlet]).candidates (blockAt .inlet 119999) = [] ∧
      (∀ r ∈ (stateIn .run [pieceAt .inlet]).pieces.records, r.canAbsorb .inlet .l1 = false) ∧
      (stateIn .run [pieceAt .inlet]).pieces.records.length < 128) := by decide +kernel

/-- SLOT_FREE of node 30. -/
def slotFreeOf (channel slot : Byte) (piece : Half) (outcome : Byte) : Frame :=
  slotFreeFrame (env me 30 0 fun e => slotFreeFrame e channel slot piece outcome) channel slot piece outcome

/-- A batch entry 5001 with two live pieces, whose slots hold these codes. -/
def codedEntry (codes : List (Option Byte)) : BatchEntry :=
  { BatchEntry.fresh 5001 with live := 2, slots := codes.map fun c => { code := c, counts := Tally.zero } }

/-- A state with batch 5001 current, two live pieces, the rest as in s. -/
def withBatch (s : State) : State :=
  { s with
    batch := { BatchCounter.powerOn with
      places := some { BatchEntry.fresh 5001 with live := 2 } :: List.replicate 7 none } }

/-- The batch clause, and a count in a slot that holds the code, in the lowest unused slot and in slot 9. -/
theorem witness_SlotFreeDischarges_tally :
    ((withBatch (slotState .suspect)).admitsOwn (slotFreeOf 1 0 1 3) = true ∧
      (withBatch (slotState .suspect)).line.state = .suspect ∧ ticketed1.anonymous = false ∧
      (withBatch (slotState .suspect)).placeOf ticketed1.batch = some 0 ∧
      (withBatch (slotState .suspect)).batchAt 0 = some { BatchEntry.fresh 5001 with live := 2 }) ∧
    ((codedEntry [none, some 12, none]).slots[1]? = some { code := some 12, counts := Tally.zero } ∧
      (codedEntry [none, some 12, none]).slots.head?.map (fun y => y.code) = some none) ∧
    ((codedEntry [some 3, none, none]).slots[1]? = some { code := none, counts := Tally.zero } ∧
      ∀ y ∈ (codedEntry [some 3, none, none]).slots, y.code ≠ some 12) ∧
    (∀ y ∈ (codedEntry [some 1, some 2, some 3]).slots, y.code ≠ some 12 ∧ y.code ≠ none) := by decide +kernel

theorem witness_SlotFreeDischarges :
    ((slotState .draining).admitsOwn (slotFreeOf 1 0 1 1) = true ∧ Lane.ofNumber (1 : Byte).toNat = some .l1 ∧
      slotOf 0 = some .x ∧ slotOf 1 = some .y ∧ ((slotState .draining).channel .l1).owner .x = some 1 ∧
      (slotState .draining).findPiece 1 = some ticketed1 ∧ (slotState .draining).line.state ≠ .run ∧
      ∀ q ∈ (slotState .draining).pieces.records, q.lane = .l1 → q.ticket ≠ .pending) ∧
    (slotState .run).admitsOwn (slotFreeOf 1 0 9 3) = true := by decide +kernel

theorem witness_SlotFreeSetAside :
    ((slotState .run).admitsOwn (slotFreeOf 0 0 1 1) = true ∧ (slotState .run).admitsOwn (slotFreeOf 5 0 1 1) = true ∧
      4 < (5 : Byte).toNat ∧ (slotState .run).admitsOwn (slotFreeOf 1 2 1 1) = true ∧ 1 < (2 : Byte).toNat ∧
      (slotState .run).admitsOwn (slotFreeOf 1 0 1 0) = true ∧ (slotState .run).admitsOwn (slotFreeOf 1 0 1 4) = true ∧
      3 < (4 : Byte).toNat) ∧
    ((slotState .run).admitsOwn (slotFreeOf 1 1 1 1) = true ∧ ((slotState .run).channel .l1).owner .y = none) := by
  decide +kernel

/-- Article data with a policy, and piece 1 with it. -/
def snapped (policy : DoubtPolicy) (doubt : Bool) : Piece :=
  { ticketed1 with
    reject := .none
    doubt := doubt
    snapshot := some { nominal := 200, minimum := 150, maximum := 250, leadGap := 60, trailGap := 80, program := 7,
                       policy := policy } }

theorem witness_ProgramChosen :
    piece1.reject ≠ .none ∧
      ((snapped .reject true).reject = .none ∧ (snapped .reject true).doubt = true ∧
        ((snapped .reject true).snapshot.map fun a => a.policy) = some .reject) ∧
      ((snapped .foldFlagged true).reject = .none ∧
        ((snapped .foldFlagged true).snapshot.map fun a => (a.policy, a.program)) = some (.foldFlagged, 7)) ∧
      (snapped .reject false).doubt = false := by decide

/-- The GRANT of piece 1 as it comes home with these marks. -/
def grantHome (marks : Byte) : Frame := grantFrame (env 11 me marks fun e => grantFrame e 1 1 1) 1 1 1

/-- A GRANT home busy, and not taken, in SUSPECT and in RUN with no second effect; for a record past GRANTED. -/
theorem witness_GrantAndTicketReturnJudged_grant :
    (∀ s ∈ [withBatch (stateIn .suspect [piece1]), withBatch (stateIn .run [piece1])],
      (ownState s (entryAged 3)).comesHome (grantHome 2) = true ∧ (ownState s (entryAged 3)).comesHome (grantHome 0) = true ∧
        s.findPiece 1 = some piece1 ∧ s.removesQuietly piece1.batch = true ∧ s.placeOf piece1.batch = some 0 ∧
        s.batchAt 0 = some { BatchEntry.fresh 5001 with live := 2 }) ∧
    (piece1.state = .granted ∧ piece1.anonymous = false ∧ isBusy 2 = true ∧ isBusy 0 = false ∧ isTaken 0 = false) ∧
    ((ownState (stateIn .run [ticketed1]) (entryAged 3)).comesHome (grantHome 0) = true ∧
      (ownState (stateIn .run [ticketed1]) (entryAged 3)).comesHome (grantHome 3) = true ∧ isBusy 3 = true ∧
      (stateIn .run [ticketed1]).findPiece 1 = some ticketed1 ∧ ticketed1.state ≠ .granted) := by decide +kernel

/-- The TICKET of piece 1 for slot X of channel 1. -/
def ticketFields1 : TicketFields :=
  { channel := 1, slot := 0, piece := 1, article := 12, program := 0, span := 1, length := 65535, batch := 5001,
    doubt := 0, reason := 3 }

/-- It comes home with these marks. -/
def ticketHomeFrame (marks : Byte) : Frame :=
  ticketFrame (env 30 me marks fun e => ticketFrame e ticketFields1) ticketFields1

/-- Its own-frame list entry. -/
def ticketEntry : OwnEntry := { dest := 30, kind := 8, body := (ticketHomeFrame 0).body, age := 2 }

/-- Piece 1 at the folder with a ticket that waits to this deadline. -/
def waiting1 (d : Pos) : Piece := { ticketed1 with ticket := .pending, ticketSlot := none, deadline := some d }

/-- A TICKET home not taken, and busy, in SUSPECT and in RUN; a deadline passed by one unit, and one just reached. -/
theorem witness_GrantAndTicketReturnJudged_ticket :
    (∀ s ∈ [withBatch (slotState .suspect), withBatch (slotState .run)],
      (ownState s ticketEntry).comesHome (ticketHomeFrame 0) = true ∧
        (ownState s ticketEntry).comesHome (ticketHomeFrame 3) = true ∧
        s.ticketMatch .l1 .x 1 = some ticketed1 ∧ s.removesQuietly ticketed1.batch = true ∧
        (∀ q ∈ s.pieces.records, q.lane = .l1 → q.ticket ≠ .pending) ∧ s.placeOf ticketed1.batch = some 0) ∧
    (Lane.ofNumber ticketFields1.channel.toNat = some .l1 ∧ slotOf ticketFields1.slot = some .x ∧ isTaken 0 = false ∧
      isBusy 3 = true ∧ ticketed1.anonymous = false) ∧
    ((stateIn .draining [waiting1 (-1)]).findPiece 1 = some (waiting1 (-1)) ∧
      0 < ((stateIn .draining [waiting1 (-1)]).travel.position - (-1)).toInt ∧
      (stateIn .draining [waiting1 (-1)]).line.state ≠ .run ∧
      ((stateIn .draining [waiting1 0]).travel.position - 0).toInt ≤ 0) := by decide +kernel

/-- A FEED_STATE of the part as it comes home. -/
def feedHome : Frame := envFrame (env 31 me 0 fun e => envFrame e 7 [1, 0]) 7 [1, 0]

theorem witness_OwnFrameReturnHandled :
    ((ownState (stateIn .run []) (entryAged 3)).comesHome (grantHome 0) = true ∧ (stateIn .run []).findPiece 1 = none ∧
      (ownState (stateIn .run [piece1]) (entryAged 3)).comesHome (grantHome 1) = true ∧ isTaken 1 = true ∧
      isBusy 1 = false) ∧
    ((ownState (slotState .run) ticketEntry).comesHome (ticketHomeFrame 1) = true ∧
      (slotState .run).ticketMatch .l1 .x 1 = some ticketed1) ∧
    ((ownState (stateIn .run [piece1]) ticketEntry).comesHome (ticketHomeFrame 0) = true ∧
      (stateIn .run [piece1]).ticketMatch .l1 .x 1 = none) ∧
    ((ownState State.reset { dest := 31, kind := 7, body := [1, 0], age := 4 }).comesHome feedHome = true ∧
      (7 : Byte).toNat ≠ 6 ∧ (7 : Byte).toNat ≠ 8) ∧
    (feedHome.intact = true ∧ feedHome.src = State.reset.port.own ∧ State.reset.comesHome feedHome = false) := by
  decide +kernel

theorem witness_RingOutMoves :
    (fullTransit.pins.resetHeld = false ∧ fullTransit.port.out = .idle ∧
      fullTransit.port.transit = passingFrame 4 :: [passingFrame 4]) ∧
    (run .transitForward fullTransit).port.out ≠ .idle ∧ State.reset.port.transit = [] := by decide +kernel

/-- A state with 31 frames on the own-frame list, no urgent frame, and this routine queue and owed report. -/
def insertState (routine : List Queued) (owed : Bool) : State :=
  { State.reset with
    port := { State.reset.port with urgent := [], routine := routine, ownList := List.replicate 31 (entryAged 5) }
    line := { State.reset.line with owed := owed } }

theorem witness_FrameInserted :
    (State.reset.port.out = .idle ∧ State.reset.port.transit = [] ∧ State.reset.port.ownList.length < 32 ∧
      State.reset.port.urgent = { dest := 31, msg := .feedState (.hold .line), suspect := false } :: []) ∧
    ((insertState (sync0 :: List.replicate 15 sync0) true).port.urgent = [] ∧
      (insertState (sync0 :: List.replicate 15 sync0) true).port.ownList.length < 32 ∧
      (insertState (sync0 :: List.replicate 15 sync0) true).port.routine = sync0 :: List.replicate 15 sync0 ∧
      (List.replicate 15 sync0).length < 16 ∧ (insertState (sync0 :: List.replicate 15 sync0) true).port.reserved = false ∧
      (insertState (sync0 :: List.replicate 15 sync0) true).faults.holdoff ≠ .owed ∧
      (insertState (sync0 :: List.replicate 15 sync0) true).batch.sendOrder = []) ∧
    (fullTransit.port.transit ≠ [] ∧ (insertState [] false).port.urgent = [] ∧ (insertState [] false).port.routine = []) := by
  decide +kernel

/-- A state with a SENDING entry at place 0 and slot 1 next. -/
def sendingState : State :=
  { stateIn .run [] with
    batch := { BatchCounter.powerOn with
      places := some { BatchEntry.fresh 5001 with state := .sending, cause := some .idle, nextSlot := some 1 } ::
        List.replicate 7 none
      sendOrder := [0] } }

theorem witness_WaitingBlocksQueue :
    ((insertState [] true).pins.resetHeld = false ∧ (insertState [] true).line.owed = true ∧
      (insertState [] true).freePlaces ≠ 0) ∧
    ((holdoffState State.reset .owed (some merged1)).faults.holdoff = .owed ∧
      (holdoffState State.reset .owed (some merged1)).faults.acc = some merged1 ∧
      (holdoffState State.reset .owed (some merged1)).freePlaces ≠ 0) ∧
    (sendingState.batch.sendOrder = 0 :: [] ∧ (sendingState.batchAt 0).isSome = true ∧ sendingState.freePlaces ≠ 0) ∧
    (fullQueue State.reset).freePlaces = 0 := by decide +kernel

theorem witness_RequestBusy :
    (fullQueue State.reset).admitsOwn (requestFrame (req [9]) [9]) = true ∧ ([9] : List Byte) ≠ [] ∧
      (fullQueue State.reset).freePlaces = 0 := by decide +kernel

theorem witness_SeekSetsCursor :
    (State.reset.admitsRequest (requestFrame (req [1, 5, 127]) [1, 5, 127]) = true ∧ Table.ofNumber 5 = some .piece ∧
      (127 : Byte).toNat < Table.piece.entries) ∧
    (State.reset.admitsRequest (requestFrame (req [1, 9, 0]) [1, 9, 0]) = true ∧ Table.ofNumber (9 : Byte).toNat = none ∧
      State.reset.admitsRequest (requestFrame (req [1, 5, 128]) [1, 5, 128]) = true ∧
      Table.piece.entries ≤ (128 : Byte).toNat) := by decide +kernel

/-- A state with this cursor. -/
def cursorAt (s : State) (t : Table) (i : Nat) : State := { s with mgmt := { s.mgmt with table := t, index := i } }

theorem witness_GetReadsEntry :
    ((cursorAt State.reset .status 0).admitsRequest (requestFrame (req [3, 3]) [3, 3]) = true ∧
      (cursorAt State.reset .status 0).mgmt.index < Table.status.entries ∧ (3 : Byte).toNat < Table.status.parts) ∧
    ((cursorAt State.reset .status 1).admitsRequest (requestFrame (req [3, 0]) [3, 0]) = true ∧
      Table.status.entries ≤ (cursorAt State.reset .status 1).mgmt.index) ∧
    ((cursorAt State.reset .status 0).admitsRequest (requestFrame (req [3, 4]) [3, 4]) = true ∧
      Table.status.parts ≤ (4 : Byte).toNat) := by decide +kernel

/-- The data of the REPLY that a GET of this part leaves. -/
def got (s : State) (part : Byte) : Option (List Byte) :=
  (run (.get (req [3, part]) part) s).port.routine.getLast?.bind fun q =>
    match q.msg with
    | .reply _ _ data => some data
    | _ => none

/-- The states of the clauses of section 10.6: a record, a request, a batch, a fault with a lane, and empty entries. -/
theorem witness_GetReadsEntry_parts :
    (∀ x ∈ [(Table.status, 0), (.lane, 0), (.piece, 0), (.piece, 127), (.batch, 0), (.batch, 7), (.fault, 15)],
      ∀ part ∈ [0, 1, 8], part < x.1.parts →
        (cursorAt (withBatch soundState) x.1 x.2).admitsRequest
            (requestFrame (req [3, BitVec.ofNat 8 part]) [3, BitVec.ofNat 8 part]) = true ∧ x.2 < x.1.entries) ∧
    ((soundState.lane .l1).request = some request1 ∧ (soundState.lane .l2).request = none ∧
      (slotState .run).pieces.records[0]? = some ticketed1 ∧ ticketed1.ticketSlot = some (.l1, .x) ∧
      (withBatch soundState).batchAt 0 = some { BatchEntry.fresh 5001 with live := 2 } ∧
      (BatchEntry.fresh 5001).slots[7]? = some { code := none, counts := Tally.zero } ∧
      (withBatch soundState).batchAt 7 = none ∧ soundState.pieces.records.length ≤ 127 ∧
      State.reset.faults.list.length ≤ 15) ∧
    ({ FaultMonitor.powerOn with list := [{ faultOf .piece with site := .lane .l1 }] } : FaultMonitor).list[0]? =
      some { faultOf .piece with site := .lane .l1 } := by decide +kernel

/-- Section 10.6: an empty BATCH place shows article 0, and an empty PIECE entry ticket channel 0. -/
theorem test_empty_entries_coded :
    ((got (cursorAt State.reset .batch 0) 1).bind fun d => d[5]?) = some 0 ∧
      ((got (cursorAt State.reset .piece 0) 0).bind fun d => d[15]?) = some 0 := by decide +kernel

/-- A PUT request of these fields. -/
def putFrame (fields : List Byte) : Frame := requestFrame (req (2 :: fields)) (2 :: fields)

theorem witness_PutRefused :
    ((cursorAt State.reset .piece 0).admitsRequest (putFrame []) = true) ∧
    ((cursorAt State.reset .eye 32).admitsRequest (putFrame []) = true ∧ Table.eye.readOnly = false ∧
      Table.eye.entries ≤ (cursorAt State.reset .eye 32).mgmt.index) ∧
    ((cursorAt State.reset .eye 31).admitsRequest (putFrame [16, 7, 1, 2, 1, 40]) = true) ∧
    ((cursorAt soundState .eye 31).admitsRequest (putFrame [16, 7, 1, 2, 1, 40, 3]) = true ∧
      (cursorAt soundState .eye 31).line.state ≠ .config) := by decide +kernel

/-- Article 12 in entry 0, and eye 16/7 tracking INLET of lane 1 in entry 0, in CONFIG. -/
def tablesState : State :=
  { eyeState (eye .track .clear none) with line := State.reset.line, mgmt := bringUp.mgmt }

/-- Fields of an article entry of this code, nominal 1000, minimum 950, maximum 1050, program 7, policy REJECT. -/
def articleFields (code : Byte) (minimum : Half := 950) (program : Byte := 7) (policy : Byte := 1) : List Byte :=
  [code] ++ bytes16 1000 ++ bytes16 minimum ++ bytes16 1050 ++ bytes16 60 ++ bytes16 80 ++ [program, policy]

/-- Lengths and line states: a state and fields for each table of the clauses BAD_REQUEST, REFUSED_MODE and BUSY. -/
theorem witness_PutRefused_steps :
    (∀ x ∈ [(Table.lane, 3, 11), (.lane, 0, 13), (.article, 63, 12), (.path, 0, 10), (.path, 1, 9), (.path, 2, 13)],
      (cursorAt State.reset x.1 x.2.1).admitsRequest (putFrame (List.replicate x.2.2 0)) = true) ∧
    (∀ x ∈ [(Table.path, 0, 9), (.path, 1, 10), (.lane, 3, 12)],
      (cursorAt (stateIn .draining []) x.1 x.2.1).admitsRequest (putFrame (List.replicate x.2.2 0)) = true) ∧
    ((cursorAt soundState .lane 0).admitsRequest (putFrame (List.replicate 12 0)) = true ∧
      (cursorAt soundState .lane 0).line.state = .run ∧ (soundState.lane .l1).run = .ready) := by decide +kernel

/-- BAD_VALUE: fields at the first value past each range, and fields that another entry holds. -/
theorem witness_PutRefused_values :
    (∀ f ∈ ([[16, 7, 4, 2, 1, 40, 3], [0, 7, 0, 4, 1, 40, 3], [0, 7, 2, 0, 1, 40, 3], [31, 7, 2, 0, 1, 40, 3],
        [16, 8, 3, 0, 1, 40, 3], [16, 7, 3, 0, 1, 40, 3], [9, 1, 1, 0, 1, 40, 3], [9, 1, 1, 2, 0, 40, 3],
        [9, 1, 1, 2, 5, 40, 3], [9, 1, 1, 2, 1, 40, 3]] : List (List Byte)),
      (cursorAt tablesState .eye 31).admitsRequest (putFrame f) = true ∧ f.length = 7) ∧
    (tablesState.line.state = .config ∧ tablesState.eyeAt 0 = some (eye .track .clear none) ∧
      (eye .track .clear none).cfg.kind.map Checkpoint.number = some 2) ∧
    (∀ f ∈ ([[2, 11, 0, 1], [1, 0, 0, 1], [1, 31, 0, 1], [0, 0, 4, 1], [0, 0, 0, 2]] : List (List Byte)),
      (cursorAt tablesState .lane 3).admitsRequest (putFrame (f ++ List.replicate 8 0)) = true) ∧
    (∀ f ∈ [articleFields 255, articleFields 12, articleFields 9 1051, articleFields 9 1001, articleFields 9 950 64,
        articleFields 9 950 7 0, articleFields 9 950 7 3],
      (cursorAt tablesState .article 63).admitsRequest (putFrame f) = true ∧ f.length = 13) ∧
    (tablesState.mgmt.articles[0]?.map fun a => a.map fun e => e.code) = some (some 12) ∧
    (∀ n ∈ [0, 31], (cursorAt tablesState .path 0).admitsRequest
      (putFrame (bytes16 1 ++ bytes16 1 ++ bytes16 200 ++ bytes16 0 ++ [BitVec.ofNat 8 n])) = true) ∧
    (cursorAt tablesState .path 2).admitsRequest (putFrame (List.replicate 13 9 ++ [4])) = true := by decide +kernel

/-- Role UNUSED with the undefined kind 4 answers BAD_VALUE (R183, log 19). -/
theorem test_put_unused_kind :
    ((run (.put (req [2, 0, 0, 0, 4, 0, 0, 0]) [0, 0, 0, 4, 0, 0, 0]) State.reset).port.routine.getLast?.map
      fun q => q.msg.body) = some [2, 4] := by decide +kernel

/-- Fields of path entry 0, with K = 1 and the folder node 30, the other fields past their ranges. -/
def pathLineFields : List Byte := bytes16 1 ++ bytes16 0 ++ bytes16 5001 ++ bytes16 2001 ++ [30]

/-- Fields of path entry 1 at the ends of their ranges. -/
def pathWindowFields : List Byte := bytes16 10 ++ bytes16 2000 ++ bytes16 60000 ++ bytes16 1000 ++ bytes16 2000

/-- Fields of path entry 2 with RESUME at HALT. -/
def pathFlowFields : List Byte :=
  [5, 112, 112] ++ bytes16 8000 ++ bytes16 4095 ++ bytes16 4095 ++ bytes16 20 ++ bytes16 65535 ++ [3]

theorem witness_PutWrites :
    ((cursorAt State.reset .path 0).admitsRequest (putFrame pathLineFields) = true ∧ pathLineFields.length = 9 ∧
      wordAt pathLineFields 0 ≠ 0 ∧ (byteAt pathLineFields 8).toNat = 30 ∧ State.reset.line.state = .config) ∧
    ((cursorAt State.reset .path 1).admitsRequest (putFrame pathWindowFields) = true ∧ pathWindowFields.length = 10) ∧
    ((cursorAt State.reset .path 2).admitsRequest (putFrame pathFlowFields) = true ∧ pathFlowFields.length = 14 ∧
      State.reset.line.state ≠ .run ∧ (byteAt pathFlowFields 13).toNat ≤ 3) ∧
    ((cursorAt soundState .article 63).admitsRequest (putFrame (0 :: List.replicate 12 9)) = true ∧
      (List.replicate 12 (9 : Byte)).length = 12) ∧
    (∀ f ∈ [articleFields 1, articleFields 254 1000 63 2, articleFields 12],
      (cursorAt State.reset .article 63).admitsRequest (putFrame f) = true ∧ f.length = 13 ∧
        (∀ x ∈ State.reset.mgmt.articles, x = none) ∧ 1 ≤ (byteAt f 0).toNat ∧ (byteAt f 0).toNat ≤ 254 ∧
        (byteAt f 11).toNat ≤ 63 ∧ ((byteAt f 12).toNat = 1 ∨ (byteAt f 12).toNat = 2) ∧
        wordAt f 3 ≤ wordAt f 1 ∧ wordAt f 1 ≤ wordAt f 5) := by decide +kernel

/-- Fields of a lane entry: enabled, node 30, level 3, width {1}, distances at or past their ranges. -/
def laneFields : List Byte := [1, 30, 3, 1] ++ bytes16 2000 ++ bytes16 19 ++ bytes16 20001 ++ bytes16 100

theorem witness_PutSetsLaneAndEye :
    ((cursorAt State.reset .lane 3).admitsRequest (putFrame laneFields) = true ∧
      Lane.l4.number = (cursorAt State.reset .lane 3).mgmt.index + 1 ∧ laneFields.length = 12 ∧
      (byteAt laneFields 0).toNat = 1 ∧ (byteAt laneFields 1).toNat ≤ 30 ∧ (byteAt laneFields 2).toNat ≤ 3 ∧
      (byteAt laneFields 3).toNat < 2 ^ (5 - Lane.l4.number)) ∧
    ((cursorAt State.reset .eye 31).admitsRequest (putFrame [1, 2, 0, 3, 4, 5, 6]) = true ∧
      (byteAt [1, 2, 0, 3, 4, 5, 6] 2).toNat = 0 ∧ (byteAt [1, 2, 0, 3, 4, 5, 6] 3).toNat ≤ 3 ∧
      (cursorAt State.reset .eye 31).eyeAt 31 = some { cfg := EyeConfig.unused, dyn := EyeDynamic.start }) ∧
    (∀ f ∈ ([[30, 7, 1, 3, 4, 0, 0], [1, 0, 2, 0, 9, 255, 255], [16, 6, 3, 3, 0, 40, 3]] : List (List Byte)),
      (cursorAt tablesState .eye 31).admitsRequest (putFrame f) = true ∧ f.length = 7 ∧
        (byteAt f 0).toNat ≤ 30 ∧ (byteAt f 1).toNat ≤ 7 ∧ (byteAt f 3).toNat ≤ 3) := by decide +kernel

/-- A line in RUN, batch 5001 current, lane 2 IDLE and enabled, and lane 1 READY for the span of both. -/
def spanningState : State :=
  { withBatch (stateIn .run []) with
    feed := { (stateIn .run []).feed with
      lanes := { (stateIn .run []).feed.lanes with
        l1 := { cfg := laneCfg, run := .ready, request := some { request1 with span := 3 }, early := 0, tail := none }
        l2 := { cfg := laneCfg, run := .idle, request := none, early := 5, tail := none } }
      order := [.l1] } }

/-- Fields that disable a lane. -/
def offFields : List Byte := [0, 0, 3, 7] ++ List.replicate 8 255

theorem witness_PutSetsLaneAndEye_disable :
    ((cursorAt spanningState .lane 1).admitsRequest (putFrame offFields) = true ∧ offFields.length = 12 ∧
      Lane.l2.number = (cursorAt spanningState .lane 1).mgmt.index + 1 ∧ (byteAt offFields 0).toNat = 0 ∧
      (byteAt offFields 2).toNat ≤ 3 ∧ (byteAt offFields 3).toNat < 2 ^ (5 - Lane.l2.number)) ∧
    (spanningState.line.state = .run ∧ (spanningState.lane .l2).run = .idle ∧ (spanningState.lane .l1).run = .ready ∧
      (spanningState.lane .l1).request = some { request1 with span := 3 } ∧ spanHas 3 .l2 = true ∧
      spanningState.currentPlace = some 0) ∧
    ((cursorAt State.reset .lane 1).admitsRequest (putFrame offFields) = true ∧
      ∀ k ∈ allLanes, (State.reset.lane k).request = none) := by decide +kernel

/-- A COMMAND frame. -/
def cmdFrame (code : Byte) (operand : List Byte := []) : Frame := commandFrame (cmd code operand) code operand

/-- A line that may run: K = 1, lane 1 enabled for single pieces, with its three eyes. -/
def runnable : State :=
  { withLane (scaled (stateIn .config [])) .idle none with
    feed := { (withLane (stateIn .config []) .idle none).feed with
      lanes := { (withLane (stateIn .config []) .idle none).feed.lanes with
        l1 := { (withLane (stateIn .config []) .idle none).feed.lanes.l1 with cfg := { laneCfg with widths := 1 } } } }
    eyes := { State.reset.eyes with
      map := [Checkpoint.laneExit, .inlet, .exit].map (fun k =>
          { cfg := { (eye .track .clear none).cfg with kind := some k }, dyn := EyeDynamic.start }) ++
        List.replicate 29 { cfg := EyeConfig.unused, dyn := EyeDynamic.start } } }

theorem witness_ModeRunTaken :
    (runnable.admitsRequest (cmdFrame 1) = true ∧ runnable.line.state = .config ∧ runnable.failingItem = none) ∧
    (State.reset.admitsRequest (cmdFrame 1) = true ∧ State.reset.mgmt.line.scale = 0) ∧
    ((scaled State.reset).failingItem = some .noLane ∧ (scaled State.reset).admitsRequest (cmdFrame 1) = true ∧
      (scaled State.reset).mgmt.line.scale ≠ 0 ∧ ∀ l ∈ allLanes, ((scaled State.reset).lane l).cfg.enabled = false) ∧
    (runnable.mgmt.line.scale ≠ 0 ∧ (runnable.lane .l1).cfg.enabled = true ∧
      ∀ k ∈ [Checkpoint.laneExit, .inlet, .exit], ∃ x ∈ runnable.eyes.map,
        x.cfg.role = .track ∧ x.cfg.kind = some k ∧ x.cfg.lane.toNat = Lane.l1.number) ∧
    (soundState.admitsRequest (cmdFrame 1) = true ∧ soundState.line.state ≠ .config) := by decide +kernel

/-- `runnable` with its eye of EXIT taken away, and with width 2 permitted, for which lane 2 is not enabled. -/
theorem witness_ModeRunTaken_items :
    ({ runnable with eyes := { runnable.eyes with map := runnable.eyes.map.set 2 { cfg := EyeConfig.unused, dyn := EyeDynamic.start } } } :
        State).failingItem = some (.eye .l1 .exit) ∧
      (withLane runnable .idle none).failingItem = some (.span .l1 2) ∧
      ((withLane runnable .idle none).lane .l1).cfg.widths.getLsbD 1 = true ∧
      ((withLane runnable .idle none).lane .l2).cfg.enabled = false ∧ Lane.l2.number < Lane.l1.number + 2 := by
  decide +kernel

theorem witness_ModeStopTaken :
    (soundState.admitsRequest (cmdFrame 2) = true ∧ soundState.line.state = .run ∧ soundState.pieces.records ≠ []) ∧
    ((stateIn .run []).admitsRequest (cmdFrame 2) = true ∧ (stateIn .run []).pieces.records = []) ∧
    (State.reset.admitsRequest (cmdFrame 2) = true ∧ State.reset.line.state ≠ .run) := by decide +kernel

theorem witness_Restarts :
    soundState.admitsRequest (cmdFrame 3) = true ∧ soundState.admitsRequest (cmdFrame 4) = true := by decide +kernel

/-- RESTART FULL reads the straps as they stand (R178). -/
theorem test_restart_full_straps :
    (run (.restartFull { frame := cmd 3, straps := 9 }) State.reset).port.own = 9 ∧
      (run (.restartFull { frame := cmd 3, straps := 31 }) State.reset).port.own = 1 := by
  decide +kernel

theorem witness_RecoverTaken :
    ((stateIn .suspect []).admitsRequest (cmdFrame 5) = true ∧ (stateIn .suspect []).line.state = .suspect ∧
      (stateIn .suspect []).pieces.records = [] ∧ (lotState .suspect 0).currentPlace = some 0) ∧
    ((stateIn .suspect [piece1]).admitsRequest (cmdFrame 5) = true ∧ (stateIn .suspect [piece1]).pieces.records ≠ []) ∧
    (soundState.admitsRequest (cmdFrame 5) = true ∧ soundState.line.state ≠ .suspect) := by decide +kernel

theorem witness_PurgeTaken :
    ((stateIn .run [piece1]).admitsRequest (cmdFrame 6 (bytes16 0)) = true ∧
      (stateIn .run [piece1]).admitsRequest (cmdFrame 6 (bytes16 2)) = true ∧ (stateIn .run [piece1]).findPiece 2 = none) ∧
    ((slotState .run).admitsRequest (cmdFrame 6 (bytes16 1)) = true ∧
      (slotState .run).findPiece 1 = some ticketed1 ∧ ticketed1.state = .atFolder ∧ ticketed1.ticket = .sent) ∧
    ((stateIn .draining [piece1]).admitsRequest (cmdFrame 6 (bytes16 1)) = true ∧
      (stateIn .draining [piece1]).findPiece 1 = some piece1 ∧
      ¬(piece1.state = .atFolder ∧ (piece1.ticket = .sent ∨ piece1.ticket = .delivered)) ∧
      (stateIn .draining [piece1]).line.state ≠ .run) := by decide +kernel

theorem witness_PurgeAllTaken :
    ((slotState .draining).admitsRequest (cmdFrame 7) = true ∧ (slotState .draining).line.state = .draining ∧
      (slotState .draining).recordsSound = true ∧ (slotState .draining).pieces.records ≠ [] ∧
      (stateIn .suspect [piece1]).admitsRequest (cmdFrame 7) = true) ∧
    soundState.admitsRequest (cmdFrame 7) = true ∧ State.reset.admitsRequest (cmdFrame 7) = true := by decide +kernel

theorem witness_CloseBatchTaken :
    ((lotState .run 1).admitsRequest (cmdFrame 8) = true ∧ (lotState .run 1).currentPlace = some 0 ∧
      (lotState .run 1).batchAt 0 = some { BatchEntry.fresh 5001 with live := 1 } ∧
      (lotState .suspect 0).batchAt 0 = some { BatchEntry.fresh 5001 with live := 0 }) ∧
    (State.reset.admitsRequest (cmdFrame 8) = true ∧ State.reset.currentBatch = none ∧
      (lotState .run 1).batchesSound = true) := by decide +kernel

/-- A line in RUN whose front request is batch 5001, with these batch places. -/
def choosing (places : List (Option BatchEntry)) : State :=
  { soundState with batch := { BatchCounter.powerOn with places := places } }

/-- A batch entry of another number that is being sent. -/
def sendingEntry (n : Half) : BatchEntry := { BatchEntry.fresh n with state := .sending, cause := some .idle }

/-- The last place empty, the number held by an entry that is not OPEN, no place empty, and an empty order. -/
theorem witness_CloseBatchTaken_choice :
    ((choosing ((List.range 7).map (fun n => some (sendingEntry (BitVec.ofNat 16 (n + 1)))) ++ [none])).currentPlace = none ∧
      (choosing ((List.range 7).map (fun n => some (sendingEntry (BitVec.ofNat 16 (n + 1)))) ++ [none])).feed.order = [.l1] ∧
      (soundState.lane .l1).request = some request1 ∧ soundState.line.state = .run) ∧
    ((choosing (some (sendingEntry 5001) :: List.replicate 7 none)).currentPlace = none ∧
      (choosing (some (sendingEntry 5001) :: List.replicate 7 none)).batchAt 0 = some (sendingEntry 5001)) ∧
    ((choosing ((List.range 8).map fun n => some (sendingEntry (BitVec.ofNat 16 (n + 1))))).currentPlace = none ∧
      ∀ b ∈ (choosing ((List.range 8).map fun n => some (sendingEntry (BitVec.ofNat 16 (n + 1))))).batch.places,
        b ≠ none ∧ b.map (fun x => x.number) ≠ some 5001) ∧
    ((stateIn .run []).currentPlace = none ∧ (stateIn .run []).feed.order = [] ∧ (lotState .run 1).currentPlace = some 0) := by
  decide +kernel

theorem witness_ClearsAndBadRequest :
    soundState.admitsRequest (cmdFrame 9) = true ∧ soundState.admitsRequest (cmdFrame 10) = true ∧
      State.reset.admitsRequest (requestFrame (req [4, 11]) [4, 11]) = true ∧ knownRequest [4, 11] = false ∧
      State.reset.admitsRequest (requestFrame (req [5]) [5]) = true ∧ knownRequest [5] = false := by decide +kernel

theorem witness_FaultInsertion :
    FaultMonitor.powerOn.list.length < 16 ∧
    (fullList.list.length = 16 ∧
      fullList.list = [] ++ faultOf .noted :: (List.replicate 9 (faultOf .noted) ++
        (List.replicate 4 (faultOf .piece) ++ List.replicate 2 (faultOf .doubt))) ∧
      (faultOf .noted).severity.number < (faultOf .piece).severity.number ∧
      ∀ y ∈ List.replicate 9 (faultOf .noted) ++ (List.replicate 4 (faultOf .piece) ++ List.replicate 2 (faultOf .doubt)),
        (faultOf .noted).severity.number ≤ y.severity.number) ∧
    (∀ y ∈ fullList.list, (faultOf .noted).severity.number ≤ y.severity.number) := by decide

/-- Piece 1 past EXIT, with this doubt mark. -/
def exitPiece (doubt : Bool) : Piece :=
  { ticketed1 with exitLead := some 123900, inletLead := some 100000, doubt := doubt }

theorem witness_SlipLearned :
    ((stateIn .run [exitPiece false]).findPiece 1 = some (exitPiece false) ∧ (exitPiece false).doubt = false ∧
      (exitPiece false).exitLead = some 123900 ∧ (exitPiece false).inletLead = some 100000) ∧
    ((stateIn .run [exitPiece true]).findPiece 1 = some (exitPiece true) ∧ (exitPiece true).doubt = true) := by
  decide +kernel

/-- Piece 1 in the ironer with its inlet measurement, the trail taken or not, at this position. -/
def measuring (taken : Option Pos) (position : Pos) (filtered : Edge := .clear) : State :=
  { stateIn .run [{ (snapped .reject false) with
      state := .inIroner, ticket := .none, ticketSlot := none, inletLead := some 1000
      measurement := some { owed := 0, taken := taken, limit := 1300 } }] with
    travel := { State.reset.travel with position := position }
    eyes := { State.reset.eyes with
      map := State.reset.eyes.map.set 0
        { eye .track .clear none with dyn := { (eye .track .clear none).dyn with filtered := filtered } } } }

/-- A taken trail inside and outside the range 150..250, the expected trail 1200 reached and not, the limit 1300
passed and just reached, and an eye still BLOCKED. -/
theorem witness_SlipLearned_measurement :
    ((∀ l ∈ allLanes, (measuring (some 1251) 1300).eyeBlocked .inlet l = false) ∧
      ((measuring (some 1251) 1300).findPiece 1).isSome = true ∧ (250 : Int) < ((1251 : Pos) - 1000).toInt ∧
      ((1149 : Pos) - 1000).toInt < 150) ∧
    (((measuring none 1200).pieces.records.map fun r => (measuring none 1200).lengthBasis r) = [200] ∧
      0 ≤ ((measuring none 1200).travel.position - 1200).toInt ∧
      ((measuring none 1199).travel.position - 1200).toInt < 0) ∧
    (0 < ((measuring (some 1100) 1301).travel.position - 1300).toInt ∧
      ((measuring (some 1100) 1300).travel.position - 1300).toInt ≤ 0 ∧
      (measuring none 1301 .block).eyeBlocked .inlet .l1 = true ∧ spanHas 1 .l1 = true) := by decide +kernel

/-! ### The hypotheses of the clauses on queues, reports and the matcher's other cases -/

/-- The line of section 11.1 after its grant, the GRANT waiting behind a TICKET, the GRANT's own frame aged 500, with
so many routine frames. -/
def breakState (routine : Nat) : State :=
  { run readyExample bringUpGo with
    port := { (run readyExample bringUpGo).port with
      urgent := queuedTicket 9 :: (run readyExample bringUpGo).port.urgent
      ownList := [entryAged 500]
      routine := List.replicate routine { dest := 31, msg := .lineState .config none, suspect := false } } }

/-- A record in GRANTED whose GRANT waits, one whose GRANT does not, a TICKET that waits, and two free places or none. -/
theorem witness_RingBreakTaken_queues :
    (∀ n ∈ [14, 16],
      ((breakState n).trackingSound = true ∧ (breakState n).line.state = .run ∧
        ((breakState n).port.urgent.filterMap Queued.grantPiece) = [1] ∧
        ((breakState n).findPiece 1).map (fun r => r.state) = some .granted ∧
        (breakState n).feed.condition = .go ∧ ∃ q ∈ (breakState n).port.urgent, q.ticketPiece ≠ none)) ∧
    2 ≤ (breakState 14).freePlaces ∧ (breakState 16).freePlaces = 0 ∧
    (soundState.findPiece 1 = some piece1 ∧ piece1.state = .granted ∧
      ∀ q ∈ soundState.port.urgent, q.grantPiece ≠ some 1) := by decide +kernel

/-- A ring break takes the waiting FEED_STATE's place and cancels the grant (R110, R117, R148, R149). -/
theorem test_ring_break_queues :
    ((run .ringBreak (breakState 14)).port.urgent.map fun q => (q.msg.kind, q.suspect)) = [(8, true), (7, false)] ∧
      (run .ringBreak (breakState 14)).pieces.records = [] ∧ (run .ringBreak (breakState 14)).feed.order = [.l1] ∧
      (run .ringBreak (breakState 14)).port.routine.length = 16 ∧ (run .ringBreak (breakState 16)).line.owed = true := by
  decide +kernel

/-- An assertion that changes the condition, with no FEED_STATE waiting and with one; one that does not; a release that does. -/
theorem witness_FholdTaken_queues :
    (let s := fholdState bringUpGo false (some true)
     s.pins.resetHeld = false ∧ s.feed.condition ≠ .hold .fhold ∧ s.line.state = .run ∧
       s.port.urgent.any Queued.isFeedState = true ∧
       ({ s with port := { s.port with urgent := [] } } : State).port.urgent.any Queued.isFeedState = false) ∧
    (fholdState (stateIn .draining []) false (some true)).feed.condition = .hold .line ∧
    (let s := fholdState soundState true (some false)
     (run .fholdRelease s).feed.condition ≠ s.feed.condition) := by decide +kernel

/-- A repeat-fault table with its 8 places taken by other keys. -/
theorem witness_DamagedFrameCounted_full :
    let s := eyeState (eye .track .clear none) ((List.range 8).map fun n => .edgeSequence (BitVec.ofNat 8 n) 0)
    s.pins.resetHeld = false ∧ RepeatKey.frameDamaged ∉ s.eyes.repeats ∧ 8 ≤ s.eyes.repeats.length := by decide +kernel

/-- A history of so many samples at stamps 1, 2, … and positions 10, 20, … -/
def sampled (n : Nat) : State :=
  { scaled State.reset with
    travel := { State.reset.travel with
      ringTime := 100
      history := (List.range n).map fun i => { stamp := BitVec.ofNat 24 (i + 1), pos := BitVec.ofNat 32 (10 * (i + 1)) } } }

/-- An empty history, one of 16 samples, a stamp after the newest, one equal to it, and ages just within and at the limit. -/
theorem witness_TravelAccumulates_history :
    (∀ n ∈ [0, 1, 16], (sampled n).admitsOwn (travelFrameOf 0) = true ∧ (sampled n).travel.history.length = n) ∧
    ((sampled 16).travel.history.getLast? = some { stamp := 16, pos := 160 } ∧ 0 < ((17 : Stamp) - 16).toInt ∧
      ¬ 0 < ((16 : Stamp) - 16).toInt) ∧
    (|((100 : Stamp) - 17).toInt| < 4194304 ∧ |((0 : Stamp) - 4194303).toInt| < 4194304 ∧
      ¬ |((0 : Stamp) - 4194304).toInt| < 4194304) := by decide +kernel

/-- The sixteenth sample's successor pushes out the oldest; a stamp not after the newest replaces its position (R12, R13). -/
theorem test_history_updates :
    ((run (travelOf 5 17) (sampled 16)).travel.history.length, (run (travelOf 5 17) (sampled 16)).travel.history.head?,
        (run (travelOf 5 17) (sampled 16)).travel.history.getLast?) =
      (16, some { stamp := 2, pos := 20 }, some { stamp := 17, pos := 5 }) ∧
    (run (travelOf 5 16) (sampled 16)).travel.history.getLast? = some { stamp := 16, pos := 5 } ∧
    (run (travelOf 5 16) (sampled 0)).travel.history = [{ stamp := 16, pos := 5 }] := by decide +kernel

/-- The other cases of R17: no sample, one, a stamp before the oldest, on a sample, and after the newest at and beyond
the extrapolation limit 400. -/
theorem witness_InteriorStampConverts_cases :
    (TravelUnit.powerOn.history = [] ∧ (sampled 1).travel.history = [{ stamp := 1, pos := 10 }]) ∧
    (interpolationHistory.history = { stamp := 1000, pos := 50000 } :: { stamp := 1200, pos := 50033 } :: [] ∧
      ((999 : Stamp) - 1000).toInt < 0 ∧ 0 ≤ ((1000 : Stamp) - 1000).toInt ∧ 0 ≤ ((1200 : Stamp) - 1000).toInt ∧
      interpolationHistory.history =
        [{ stamp := 1000, pos := 50000 }] ++ { stamp := 1200, pos := 50033 } :: [] ∧
      ∀ q ∈ [({ stamp := 1000, pos := 50000 } : Sample)], q.stamp ≠ 1200) ∧
    (interpolationHistory.history = [] ++ [{ stamp := 1000, pos := 50000 }, { stamp := 1200, pos := 50033 }] ∧
      (∀ q ∈ interpolationHistory.history, 0 < ((1600 : Stamp) - q.stamp).toInt ∧ 0 < ((1601 : Stamp) - q.stamp).toInt) ∧
      ((1600 : Stamp) - 1200).toInt = 400 ∧ (400 : Int) < ((1601 : Stamp) - 1200).toInt) := by decide +kernel

/-- Eyes due in RUN, one at its p + m and one a unit before it. -/
theorem witness_EdgeStartsPending_run :
    let s := { dueState 49993 49994 with line := soundState.line }
    s.line.state = .run ∧ s.dueEyes = [(0, 49993)] ∧ (∀ x ∈ s.dueEyes, 0 ≤ (x.2 - 49993).toInt) ∧
      s.eyeAt 31 = some (eye .track .block (some { kind := .block, pos := 49994, stale := false })) := by decide +kernel

/-- Lanes at these levels, with this pointer. -/
def levelled (a b c d : Nat) (p : Lane) : State :=
  let e (n : Nat) : LaneEntry := { cfg := { laneCfg with level := n }, run := .idle, request := none, early := 0, tail := none }
  { stateIn .run [] with
    feed := { (stateIn .run []).feed with lanes := { l1 := e a, l2 := e b, l3 := e c, l4 := e d }, pointer := p } }

/-- The order of R101: within a level from the pointer's lane upward, lane 4 followed by lane 1. -/
theorem test_arbitration_order :
    (levelled 0 0 0 0 .l3).arbitration = [.l3, .l4, .l1, .l2] ∧ (levelled 1 0 1 0 .l4).arbitration = [.l4, .l2, .l1, .l3] ∧
      (levelled 3 2 1 0 .l1).arbitration = [.l4, .l3, .l2, .l1] := by decide +kernel

/-- A full table, and a lane that is not READY. -/
theorem witness_ReadyAccepted_full :
    (let s := { grantReady 122920 none with
        pieces := { PieceTable.powerOn with records := List.replicate 128 ticketed1 } }
     (s.lane .l1).request = some request1 ∧ 128 ≤ s.pieces.records.length) ∧
    (bringUpGo.lane .l1).run ≠ .ready := by decide +kernel

/-- Piece 1 of lanes 1 and 2 with absorption state of a kind matched at 1000, owing lane 2, ended after 1200. -/
def absorbing (k : Checkpoint) (doubt : Bool := false) : Piece :=
  { piece1 with
    span := 3
    window := none
    doubt := doubt
    absorption := some { kind := k, matchPos := 1000, owed := 2, endPos := 1200 } }

/-- The same record in its inlet measurement with lead 1000. -/
def absorbingInlet : Piece :=
  { absorbing .laneExit with inletLead := some 1000, measurement := some { owed := 2, taken := none, limit := 1300 } }

/-- A BLOCK transition on lane 2. -/
def blockOn2 (k : Checkpoint) (p : Pos) (stale : Bool := false) : Transition := { blockAt k p stale with lane := .l2 }

/-- Owed and not owed lanes, an edge at and past the skew tolerance, doubt set and clear, and the end of absorption. -/
theorem witness_PieceMatched_absorbed :
    (∀ k ∈ [Checkpoint.laneExit, .exit], ∀ t ∈ [blockOn2 k 1100, blockOn2 k 1101 true, blockAt k 1000],
      (stateIn .run [absorbing k]).candidates t = [] ∧
        (stateIn .run [absorbing k]).pieces.records.find? (fun x => x.canAbsorb t.kind t.lane) = some (absorbing k) ∧
        (stateIn .run [absorbing k]).findPiece 1 = some (absorbing k) ∧ t.kind ≠ .inlet) ∧
    ((stateIn .run [absorbingInlet]).candidates (blockOn2 .inlet 1000) = [] ∧
      (stateIn .run [absorbingInlet]).pieces.records.find? (fun x => x.canAbsorb .inlet .l2) = some absorbingInlet ∧
      absorbingInlet.inletLead = some 1000 ∧ absorbingInlet.measurement = some { owed := 2, taken := none, limit := 1300 }) ∧
    (spanHas 2 .l2 = true ∧ spanHas 2 .l1 = false ∧ (stateIn .run []).mgmt.windows.skew = 100) ∧
    ((stateIn .suspect [absorbing .exit true]).findPiece 1 = some (absorbing .exit true) ∧
      0 < ((1201 : Pos) - 1200).toInt ∧ ¬ 0 < ((1200 : Pos) - 1200).toInt) := by decide +kernel

/-- No candidate and no record that can absorb, with an empty table and with a full one, in RUN and in SUSPECT. -/
theorem witness_PieceMatched_orphans :
    (∀ k ∈ [Checkpoint.laneExit, .inlet, .exit], (stateIn .run []).candidates (blockAt k 5) = [] ∧
      (stateIn .run []).pieces.records = []) ∧
    (∀ l ∈ [LineState.run, .suspect], ∀ k ∈ [Checkpoint.inlet, .exit],
      (stateIn l (List.replicate 128 ticketed1)).candidates (blockAt k 5) = [] ∧
        (∀ r ∈ (stateIn l (List.replicate 128 ticketed1)).pieces.records, r.canAbsorb k .l1 = false) ∧
        128 ≤ (stateIn l (List.replicate 128 ticketed1)).pieces.records.length) := by decide +kernel

/-- `slotState` with piece 2 pending for channel 1, and batch 5001 current with two live pieces. -/
def servingState (l : LineState) : State :=
  { withBatch (slotState l) with
    pieces := { (slotState l).pieces with records := [ticketed1, { waiting1 500 with number := 2 }] } }

/-- A pending record that a freed slot serves, and the tally's premise in RUN and in DRAINING. -/
theorem witness_SlotFreeDischarges_served :
    (∀ l ∈ [LineState.run, .draining, .suspect],
      (servingState l).admitsOwn (slotFreeOf 1 0 1 1) = true ∧
        ((servingState l).pieces.records.filter fun q => q.lane == .l1 && q.ticket == .pending).head? =
          some { waiting1 500 with number := 2 } ∧
        (servingState l).findPiece 2 = some { waiting1 500 with number := 2 } ∧
        (servingState l).placeOf ticketed1.batch = some 0 ∧
        (servingState l).batchAt 0 = some { BatchEntry.fresh 5001 with live := 2 }) ∧
    ((servingState .run).removesQuietly ticketed1.batch = true ∧ ticketed1.anonymous = false ∧
      ∃ q ∈ (servingState .draining).pieces.records, q.number ≠ 1) := by decide +kernel

/-- A record handed over with the pointer's slot free, the other slot free, and both owned. -/
theorem witness_SlotFreeDischarges_handOver :
    ((stateIn .run [exitPiece false]).findPiece 1 = some (exitPiece false) ∧
      ((stateIn .run [exitPiece false]).channel .l1).owner ((stateIn .run [exitPiece false]).channel .l1).next = none) ∧
    (let s := (stateIn .run [exitPiece false]).onChannel .l1 fun _ => { x := some 7, y := none, next := .x }
     (s.channel .l1).owner (s.channel .l1).next ≠ none ∧ (s.channel .l1).owner (s.channel .l1).next.other = none) ∧
    (let s := (stateIn .run [exitPiece false]).onChannel .l1 fun _ => { x := some 7, y := some 8, next := .x }
     (s.channel .l1).owner .x ≠ none ∧ (s.channel .l1).owner .y ≠ none ∧ s.findPiece 1 = some (exitPiece false) ∧
       (exitPiece false).exitLead = some 123900) := by decide +kernel

/-- A SENDING entry, an OWED hold-off and an owed report each waiting for the place that an insertion frees. -/
theorem witness_FrameInserted_offers :
    (∀ n ∈ [1, 15],
      (let s := holdoffState (insertState (List.replicate (n + 1) sync0) false) .owed (some merged1)
       s.port.urgent = [] ∧ s.port.routine = sync0 :: List.replicate n sync0 ∧ s.port.reserved = false ∧
         s.line.owed = false ∧ s.faults.holdoff = .owed ∧ s.faults.acc = some merged1) ∧
      (let s := { insertState (List.replicate (n + 1) sync0) false with batch := sendingState.batch }
       s.port.routine = sync0 :: List.replicate n sync0 ∧ s.line.owed = false ∧ s.faults.holdoff ≠ .owed ∧
         s.batch.sendOrder = 0 :: [] ∧ (s.batchAt 0).isSome = true)) ∧
    (let s := holdoffState { insertState (List.replicate 16 sync0) true with batch := sendingState.batch } .owed (some merged1)
     s.line.owed = true ∧ s.pins.resetHeld = false ∧ s.port.out = .idle ∧ s.port.transit = [] ∧
       s.port.ownList.length < 32) := by decide +kernel

/-- A routine queue of so many frames. -/
def queued (s : State) (n : Nat) : State :=
  { s with port := { s.port with routine := List.replicate n { dest := 31, msg := .lineState .config none, suspect := false } } }

/-- One place free for the REPLY alone, and one more for LINE_STATE, in RUN, CONFIG and SUSPECT. -/
theorem witness_LineStateQueued :
    (∀ n ∈ [14, 15],
      ((queued soundState n).admitsRequest (cmdFrame 2) = true ∧ (queued soundState n).pieces.records ≠ [] ∧
        (queued runnable n).admitsRequest (cmdFrame 1) = true ∧ (queued runnable n).failingItem = none ∧
        (queued (stateIn .suspect []) n).admitsRequest (cmdFrame 5) = true ∧
        (queued soundState n).port.routine.length = n)) ∧
    (run (.modeRun (cmd 1)) runnable).feed.condition ≠ runnable.feed.condition := by decide +kernel

/-- Severities below and at the alert minimum PIECE, the hold-off IDLE with a place and without one, RUNNING and OWED. -/
theorem witness_FaultInsertion_alert :
    (Severity.noted.number < (stateIn .run []).mgmt.flow.alertMin.number ∧
      (stateIn .run []).mgmt.flow.alertMin.number ≤ Severity.piece.number) ∧
    ((stateIn .run []).faults.holdoff = .idle ∧ (stateIn .run []).freePlaces ≠ 0 ∧
      (fullQueue (stateIn .run [])).freePlaces = 0) ∧
    ((holdoffState (stateIn .run []) (.running 3) none).faults.holdoff ≠ .idle ∧
      (holdoffState (stateIn .run []) .owed (some merged1)).faults.holdoff ≠ .idle) ∧
    (Severity.line ≠ .line ∨ (stateIn .suspect []).line.state = .suspect) := by decide +kernel

/-! ### The hypotheses of the clauses on windows, trails, tallies, and PUTs in RUN -/

/-- `breakState` with so many routine frames and a TICKET, a GRANT and a FEED_STATE waiting, or the TICKET alone. -/
theorem witness_Restarts_queues :
    (∀ n ∈ [0, 14, 15],
      (breakState n).admitsRequest (cmdFrame 4) = true ∧ (breakState n).port.routine.length = n ∧
        (breakState n).port.urgent.any Queued.isFeedState = true ∧
        (∃ q ∈ (breakState n).port.urgent, q.grantPiece ≠ none) ∧ ∃ q ∈ (breakState n).port.urgent, q.ticketPiece ≠ none) ∧
    (let s := { soundState with port := { soundState.port with urgent := [queuedTicket 9] } }
     s.admitsRequest (cmdFrame 4) = true ∧ s.port.urgent.any Queued.isFeedState = false) := by decide +kernel

/-- The GRANT and the TICKET that wait go, the FEED_STATE stays in its place, and a report that finds one place stays
owed with the REPLY last (R149, R164). -/
theorem test_restart_tracking_queues :
    ((run (.restartTracking (cmd 4)) (breakState 14)).port.urgent.map fun q => q.msg.body) = [[0, 1]] ∧
      ((run (.restartTracking (cmd 4)) (breakState 14)).port.routine.map fun q => q.msg.kind).drop 14 = [10, 14] ∧
      ((run (.restartTracking (cmd 4)) (breakState 15)).port.routine.map fun q => q.msg.kind).drop 15 = [14] ∧
      (run (.restartTracking (cmd 4)) (breakState 15)).line.owed = true := by decide +kernel

/-- A record is a candidate at the ends of its window and not a unit past them, and of two equally near the older is
taken (R70). -/
theorem witness_PieceMatched_candidates :
    let late : Piece :=
      { pieceAt .inlet with
        number := 2, window := some { kind := .inlet, openPt := 120100, expected := 120160, closePt := 120700 } }
    (∀ k ∈ [Checkpoint.laneExit, .inlet, .exit], ∀ n ∈ [(119999, 0), (120000, 1), (120600, 1), (120601, 0)],
      ((stateIn .run [pieceAt k]).candidates (blockAt k (BitVec.ofNat 32 n.1))).length = n.2) ∧
    (stateIn .run [pieceAt .inlet]).candidates (blockOn2 .inlet 120060) = [] ∧
    (nearest 120110 [pieceAt .inlet, late]).map (fun r => r.number) = some 1 ∧
    (nearest 120111 [pieceAt .inlet, late]).map (fun r => r.number) = some 2 := by decide +kernel

/-- A window that closes in RUN with the batch current and two live pieces: the close point and margin passed by one. -/
theorem witness_PieceMatched_windowRun :
    ∀ k ∈ [Checkpoint.laneExit, .inlet, .exit],
      (let s := withBatch (windowState .run false k 120641)
       s.findPiece 1 = some (pieceAt k) ∧ s.blind k 1 = false ∧ s.line.state = .run ∧
         0 < (s.travel.position - (120600 + BitVec.ofNat 32 (s.closeMargin k 1))).toInt ∧
         s.removesQuietly (pieceAt k).batch = true ∧ (pieceAt k).anonymous = false ∧
         s.placeOf (pieceAt k).batch = some 0 ∧ s.batchAt 0 = some { BatchEntry.fresh 5001 with live := 2 } ∧
         (s.testWindow 1).findPiece 1 = none) := by decide +kernel

/-- A deadline passed in RUN with the batch current. -/
theorem witness_GrantAndTicketReturnJudged_deadlineRun :
    let s := withBatch (stateIn .run [waiting1 (-1)])
    s.findPiece 1 = some (waiting1 (-1)) ∧ s.line.state = .run ∧ 0 < (s.travel.position - (-1)).toInt ∧
      s.removesQuietly (waiting1 (-1)).batch = true ∧ (waiting1 (-1)).anonymous = false ∧
      s.placeOf (waiting1 (-1)).batch = some 0 ∧ s.batchAt 0 = some { BatchEntry.fresh 5001 with live := 2 } := by
  decide +kernel

/-- A CLEAR transition of lane 1 at a checkpoint. -/
def clearAt (k : Checkpoint) (p : Pos) (stale : Bool := false) : Transition := { blockAt k p stale with edge := .clear }

/-- The record in measurement of `measuring`, with this inlet lead and number. -/
def measured (n : Half) (lead : Pos) : Piece :=
  { snapped .reject false with
    number := n, state := .inIroner, ticket := .none, ticketSlot := none, inletLead := some lead
    measurement := some { owed := 0, taken := none, limit := 1300 } }

/-- A CLEAR a unit past the lead of the second of two records and before the first's; and one that none takes. -/
theorem witness_SlipLearned_clear :
    ((stateIn .run [measured 1 1100, measured 2 1000]).pieces.records = [measured 1 1100] ++ measured 2 1000 :: [] ∧
      (measured 1 1100).number ≠ (measured 2 1000).number ∧ spanHas (measured 2 1000).span .l1 = true ∧
      0 < ((clearAt .inlet 1001 true).pos - 1000).toInt ∧ ((clearAt .inlet 1100).pos - 1100).toInt ≤ 0 ∧
      (measured 2 1000).doubt = false) ∧
    ((((stateIn .run [measured 1 1100, measured 2 1000]).takeClear (clearAt .inlet 1100)).findPiece 2).map fun r =>
        (r.inletTrail, r.measured)) = some (some 1100, some 100) ∧
    ((clearAt .exit 1200).kind ≠ .inlet ∧ ((clearAt .inlet 1000).pos - 1000).toInt ≤ 0 ∧
      spanHas (measured 2 1000).span .l2 = false) := by decide +kernel

/-- A state with this tail of lane 1. -/
def tailed (s : State) (t : Option Tail) : State := s.onLane .l1 fun x => { x with tail := t }

/-- A state with every record anonymous. -/
def unnamed (s : State) : State :=
  { s with pieces := { s.pieces with records := s.pieces.records.map fun r => { r with anonymous := true } } }

/-- Trails that become final by a CLEAR, at the expected trail, at the limit and at a blind INLET, at and past the ends
of the range 150..250, for a record and an anonymous one. -/
theorem witness_SlipLearned_tails :
    (∀ n ∈ [1149, 1150, 1250, 1251],
      ((measuring (some (BitVec.ofNat 32 n)) 1300).findPiece 1).isSome = true ∧
        ((unnamed (measuring (some (BitVec.ofNat 32 n)) 1300)).findPiece 1).map (fun r => r.anonymous) = some true ∧
        (measuring (some (BitVec.ofNat 32 n)) 1300).eyeBlocked .inlet .l1 = false) ∧
    (0 ≤ ((measuring none 1200).travel.position - 1200).toInt ∧
      0 < ((measuring (some 1100) 1301).travel.position - 1300).toInt) ∧
    ((windowState .run true .inlet 120060).blind .inlet 1 = true ∧
      0 ≤ ((windowState .run true .inlet 120060).travel.position - 120060).toInt ∧
      ((windowState .run true .inlet 120060).findPiece 1) = some (pieceAt .inlet)) := by decide +kernel

/-- The tail of lane 1 after a trail at 1251: moved for its owner with gap and owner kept, left to another owner; for an
anonymous record put in where absent or lying before, left where it lies at or past it (R83, R107). -/
theorem test_trail_moves_tails :
    let after (s : State) : Option (Pos × Nat × Half) := ((s.testClearing 1).lane .l1).tail.map fun x => (x.pos, x.gap, x.owner)
    let s := measuring (some 1251) 1300
    (after (tailed s (some { pos := 1200, gap := 80, owner := 1 })) = some (1251, 80, 1) ∧
      after (tailed s (some { pos := 1200, gap := 80, owner := 9 })) = some (1200, 80, 9) ∧ after s = none) ∧
    (after (unnamed s) = some (1251, s.mgmt.flow.trailGap, 1) ∧
      after (tailed (unnamed s) (some { pos := 1250, gap := 80, owner := 9 })) = some (1251, s.mgmt.flow.trailGap, 1) ∧
      after (tailed (unnamed s) (some { pos := 1251, gap := 80, owner := 9 })) = some (1251, 80, 9)) ∧
    ((s.testClearing 1).faults.list.getLast?.map fun f => (f.code, f.position)) = some (.lengthLong, 1251) := by
  decide +kernel

/-- A SENDING entry 5001 whose first two slots hold articles 12 and 13, with a count in slot 9 or not, this slot next. -/
def slotsEntry (other : Nat) (next : Nat) : BatchEntry :=
  { codedEntry ([some 12, some 13] ++ List.replicate 6 none) with
    live := 0, state := .sending, cause := some .idle, nextSlot := some next, other := { Tally.zero with lost := other } }

/-- `sendingState` with this entry at place 0, so many routine frames, and this send order. -/
def tallyState (b : BatchEntry) (n : Nat) (order : List Nat) : State :=
  { queued sendingState n with batch := { sendingState.batch with places := some b :: List.replicate 7 none, sendOrder := order } }

/-- Slot 0 of an entry with nothing in use, a slot with another in use after it, the last one, and slot 9; the next slots
in use; one place free and two; and no entry to send. -/
theorem witness_WaitingBlocksQueue_tally :
    (∀ n ∈ [14, 15], ∀ x ∈ [slotsEntry 1 1, slotsEntry 1 2, slotsEntry 0 2, slotsEntry 1 9],
      (tallyState x n [0, 3]).pins.resetHeld = false ∧ (tallyState x n [0, 3]).batch.sendOrder = 0 :: [3] ∧
        (tallyState x n [0, 3]).batchAt 0 = some x ∧ x.nextSlot.isSome = true ∧ (tallyState x n [0, 3]).freePlaces ≠ 0) ∧
    ((slotsEntry 1 1).used = [1, 2, 9] ∧ (slotsEntry 0 1).used = [1, 2] ∧
      (∀ j ∈ (slotsEntry 1 1).used, 1 < j → 2 ≤ j) ∧ (∀ j ∈ (slotsEntry 1 2).used, 2 < j → 9 ≤ j) ∧
      (∀ j ∈ (slotsEntry 0 2).used, j ≤ 2) ∧ ∀ j ∈ (slotsEntry 1 9).used, j ≤ 9) ∧
    ({ sendingEntry 7 with nextSlot := some 0 } : BatchEntry).used = [] ∧
    (tallyState (slotsEntry 1 1) 0 []).batch.sendOrder = [] := by decide +kernel

/-- The TALLY frames of one batch, of slots 1, 2 and 9, the last flagged, and the place is empty (R131). -/
theorem test_tallies_sent :
    let t := run .tallyQueue (tallyState (slotsEntry 1 1) 0 [0])
    (t.port.routine.map fun q => q.msg) =
        [.tally { batch := 5001, cause := .idle, slot := 1, last := false, article := 12, counts := Tally.zero },
         .tally { batch := 5001, cause := .idle, slot := 2, last := false, article := 13, counts := Tally.zero },
         .tally { batch := 5001, cause := .idle, slot := 9, last := true, article := 255
                  counts := { Tally.zero with lost := 1 } }] ∧
      t.batchAt 0 = none ∧ t.batch.sendOrder = [] := by decide +kernel

/-- A line in RUN with path entry 2 at the cursor, this hold flag and occupancy, and FHOLD released. -/
def flowState (hold : Bool) (occupancy : Nat) : State :=
  { cursorAt bringUpGo .path 2 with feed := { bringUpGo.feed with hold := hold, occupancy := occupancy } }

/-- The hold flag against HALT 112 and RESUME 111: set, cleared, and kept where it lies between HALT 112 and RESUME 10. -/
theorem witness_PutWrites_flow :
    (∀ x ∈ [(true, 111), (false, 112), (true, 0), (false, 0)],
      (flowState x.1 x.2).admitsRequest (putFrame pathFlowFields) = true ∧ (flowState x.1 x.2).mgmt.table = .path ∧
        (flowState x.1 x.2).mgmt.index = 2 ∧ (flowState x.1 x.2).line.state = .run) ∧
    (pathFlowFields.length = 14 ∧ (byteAt pathFlowFields 13).toNat = 3) ∧
    ((cursorAt (stateIn .draining [piece1]) .path 2).admitsRequest (putFrame pathFlowFields) = true) ∧
    ((flowState true 11).admitsRequest (putFrame ([4, 112, 10] ++ pathFlowFields.drop 3)) = true) := by decide +kernel

/-- HALT at and above the occupancy, RESUME at and below it, and the answers DONE_CLAMPED and DONE (R93, R108, R183). -/
theorem test_put_flow_holds :
    let after (f : List Byte) (s : State) : Bool × FeedCondition × Option (List Byte) :=
      ((run (.put (req (2 :: f)) f) s).feed.hold, (run (.put (req (2 :: f)) f) s).feed.condition,
        (run (.put (req (2 :: f)) f) s).port.routine.getLast?.map fun q => q.msg.body)
    let f : List Byte := [4, 112, 10] ++ pathFlowFields.drop 3
    after pathFlowFields (flowState true 111) = (false, .go, some [2, 1, 4, 2]) ∧
      after f (flowState false 112) = (true, .hold .occupancy, some [2, 0, 4, 2]) ∧
      after f (flowState false 111) = (false, .go, some [2, 0, 4, 2]) ∧
      after f (flowState true 11) = (true, .hold .occupancy, some [2, 0, 4, 2]) ∧
      after f (flowState true 10) = (false, .go, some [2, 0, 4, 2]) := by decide +kernel

/-- Lane 2 of `spanningState` IDLE or OFFLINE, given an enabling PUT in RUN. -/
theorem witness_PutSetsLaneAndEye_enableRun :
    let off := spanningState.onLane .l2 fun x => { x with run := .offline }
    (∀ s ∈ [spanningState, off],
      (cursorAt s .lane 1).admitsRequest (putFrame laneFields) = true ∧ s.line.state = .run ∧
        Lane.l2.number = (cursorAt s .lane 1).mgmt.index + 1 ∧ laneFields.length = 12 ∧
        ((s.lane .l2).run = .idle ∨ (s.lane .l2).run = .offline)) ∧
    ((byteAt laneFields 0).toNat = 1 ∧ (byteAt laneFields 1).toNat = 30 ∧ (byteAt laneFields 2).toNat = 3 ∧
      (byteAt laneFields 3).toNat < 2 ^ (5 - Lane.l2.number)) ∧
    ((run (.put (req (2 :: laneFields)) laneFields) (cursorAt off .lane 1)).lane .l2).run = .idle ∧
    ((run (.put (req (2 :: laneFields)) laneFields) (cursorAt off .lane 1)).port.routine.getLast?.map fun q => q.msg.body) =
      some [2, 1, 2, 1] := by decide +kernel

/-! ### The hypotheses of the clauses on closures, creation and matches -/

/-- A record of this number, lane 1 and order key. -/
def keyed (n : Half) (key : Pos) : Piece := { ticketed1 with number := n, orderKey := key }

/-- `grantReady` with the counter at its last value and records whose keys lie before, at and after the lead 123060;
the numbers 65535 and 1 held or not. -/
def crowded (a b : Half) : State :=
  { grantReady 121060 (some 5000) with
    pieces := { PieceTable.powerOn with
      counter := 65535, records := [keyed a 123059, keyed b 123060, keyed 3 123061] } }

/-- A lot change whose furthest live tail misses the batch gap 2000 by one unit, the lane's own gap being met, and one
that meets it; numbers held and free; keys within half of the position space of a base. -/
theorem witness_ReadyAccepted_lot :
    (let s := grantReady 121061 (some 5000)
     (s.lane .l1).request = some request1 ∧ s.feed.lastBatch = some 5000 ∧ (5000 : Half) ≠ request1.batch ∧
       (s.lane .l1).tail = some { pos := 121061, gap := 80, owner := 9 } ∧
       (s.travel.position - 121061).toInt ≤ 65536 ∧
       (∀ j ∈ allLanes, ∀ y ∈ (s.lane j).tail, 0 ≤ ((121061 : Pos) - y.pos).toInt) ∧
       ((123060 : Pos) - 121061).toInt < s.mgmt.flow.batchGap ∧ (140 : Int) ≤ ((123060 : Pos) - 121061).toInt) ∧
    (∀ n ∈ [1, 9],
      (let s := crowded 65535 (BitVec.ofNat 16 n)
       s.pieces.counter = 65535 ∧ (∀ q ∈ s.pieces.records, 0 ≤ (q.orderKey - 123000).toInt) ∧
         s.pieces.records.Pairwise (fun a b => 0 ≤ (b.orderKey - a.orderKey).toInt) ∧
         (s.tryLane .l1).pieces.records.length = 4)) := by decide +kernel

/-- Number 65535 is followed by 1, one held is passed over, and the record stands behind the key equal to its own
(R43, R45). -/
theorem test_grant_creates :
    (((crowded 65535 9).tryLane .l1).pieces.records.map fun q => q.number) = [65535, 9, 1, 3] ∧
      ((crowded 65535 9).tryLane .l1).pieces.counter = 2 ∧
      (((crowded 65535 1).tryLane .l1).pieces.records.map fun q => q.number) = [65535, 1, 2, 3] ∧
      (((crowded 7 9).tryLane .l1).pieces.records.map fun q => q.number) = [7, 9, 65535, 3] ∧
      ((crowded 7 9).tryLane .l1).pieces.counter = 1 := by decide +kernel

/-- Piece 1 with a window of a kind, its inlet lead 96000 and this doubt mark. -/
def slipPiece (k : Checkpoint) (doubt : Bool) : Piece := { pieceAt k with inletLead := some 96000, doubt := doubt }

/-- A match without doubt, with doubt before it, stale, and with two candidates; at EXIT with an inlet lead. -/
theorem witness_PieceMatched_match :
    (∀ k ∈ [Checkpoint.laneExit, .inlet, .exit], ∀ d ∈ [true, false],
      (let s := stateIn .run [slipPiece k d]
       nearest 120060 (s.candidates (blockAt k 120060)) = some (slipPiece k d) ∧
         s.findPiece 1 = some (slipPiece k d) ∧ (s.candidates (blockAt k 120060 true)).length = 1 ∧
         (slipPiece k d).inletLead = some 96000 ∧ (slipPiece k d).window.isSome = true) ∧
      (let s := stateIn .run [slipPiece k d, { pieceAt k with number := 2 }]
       1 < (s.candidates (blockAt k 120060)).length ∧
         nearest 120060 (s.candidates (blockAt k 120060)) = some (slipPiece k d))) := by decide +kernel

/-- At EXIT the slip moves an eighth of the way from 0 to the deviation 48 of the travel from the inlet, and stands
where the record has doubt (R73, R90); the lead lane is IDLE after LANE_EXIT (R71, R115). -/
theorem test_match_effects :
    let after (d : Bool) (p : Pos) (stale : Bool) : Option (Option Int) × Int :=
      let u := ((stateIn .run [slipPiece .exit d]).takeBlock (blockAt .exit p stale)).1
      ((u.findPiece 1).map fun q => q.devExit, u.matcher.slip.l1)
    (stateIn .run []).mgmt.windows.ironer = 24000 ∧ after false 120048 false = (some (some (-12)), 6) ∧
      after true 120048 false = (some (some (-12)), 0) ∧ after false 120048 true = (some (some (-12)), 0) ∧
      (((withLane (stateIn .run [pieceAt .laneExit]) .granted none).takeBlock (blockAt .laneExit 120000)).1.lane .l1).run =
        .idle := by decide +kernel

/-- A record that is there with a window and absorption of the kinds it had, and of others; one that is gone. -/
theorem witness_PieceMatched_tests :
    (let s := stateIn .run [{ pieceAt .inlet with absorption := (absorbing .laneExit).absorption }]
     s.findPiece piece1.number = some { pieceAt .inlet with absorption := (absorbing .laneExit).absorption } ∧
       (pieceAt .inlet).window.map (fun w => w.kind) ≠ (pieceAt .laneExit).window.map (fun w => w.kind) ∧
       absorbingInlet.measurement ≠ none ∧ piece1.measurement = none) ∧
    (stateIn .run []).findPiece piece1.number = none := by decide +kernel

/-- The number carried by SLOT_FREE is the owner's or not, JAMMED or not; in RUN, SUSPECT, and DRAINING with the last
record; the owner's TICKET still waits. -/
theorem witness_SlotFreeDischarges_faults :
    (∀ l ∈ [LineState.run, .suspect, .draining], ∀ n ∈ [1, 9], ∀ o ∈ [2, 3],
      (let s := withBatch (slotState l)
       let u := { s with port := { s.port with urgent := [queuedTicket 1, queuedTicket 9] } }
       u.admitsOwn (slotFreeOf 1 0 (BitVec.ofNat 16 n) (BitVec.ofNat 8 o)) = true ∧ (u.channel .l1).owner .x = some 1 ∧
         u.findPiece 1 = some ticketed1 ∧ u.pieces.records = [ticketed1] ∧ u.removesQuietly ticketed1.batch = true)) ∧
    (let s := slotState .suspect
     let u := { s with port := { s.port with urgent := [queuedTicket 1, queuedTicket 9] } }
     (run (.slotFree (env me 30 0 fun e => slotFreeFrame e 1 0 9 3) 1 0 9 3) u).port.urgent = [queuedTicket 9] ∧
       ((run (.slotFree (env me 30 0 fun e => slotFreeFrame e 1 0 9 3) 1 0 9 3) u).faults.list.map fun f => f.code) =
         [.slotMismatch, .folderJam]) := by decide +kernel

/-- The line in SUSPECT with the record of its CLOSING batch 5001, which has one live piece, other entries waiting to
send or none, and so many routine frames. -/
def lastLive (order : List Nat) (n : Nat) : State :=
  { queued (slotState .suspect) n with
    batch := { BatchCounter.powerOn with
      places := some { BatchEntry.fresh 5001 with live := 1, state := .closing, cause := some .idle } ::
        List.replicate 7 none
      sendOrder := order } }

/-- The last live piece of a CLOSING entry: alone with a place free, behind another, and with no place. -/
theorem witness_SlotFreeDischarges_lastLive :
    (∀ x ∈ [(([] : List Nat), 15), ([3], 0), ([], 16)],
      (lastLive x.1 x.2).admitsOwn (slotFreeOf 1 0 1 1) = true ∧ (lastLive x.1 x.2).line.state = .suspect ∧
        (lastLive x.1 x.2).placeOf ticketed1.batch = some 0 ∧ (lastLive x.1 x.2).batch.sendOrder = x.1 ∧
        (lastLive x.1 x.2).port.routine.length = x.2) ∧
    (({ BatchEntry.fresh 5001 with live := 0 } : BatchEntry).count 12 .flagged).used = [1] ∧
    (BatchEntry.fresh 5001).used = [] := by decide +kernel

/-- A closure in RUN and outside it of an entry without live pieces, alone with a place free, behind others, and with
no place free; its lowest slot in use, and none. -/
theorem witness_closures :
    (∀ l ∈ [LineState.run, .draining], ∀ n ∈ [15, 16], ∀ order ∈ [[], [3]],
      (let s := queued (lotState l 0) n
       let u := { s with batch := { s.batch with sendOrder := order } }
       u.currentPlace = some 0 ∧ u.batchAt 0 = some { BatchEntry.fresh 5001 with live := 0 } ∧ u.pins.resetHeld = false ∧
         u.batch.sendOrder = order ∧ u.port.routine.length = n)) ∧
    ((lotState .run 0).batchesSound = true ∧ (lotState .run 0).batch.idle = .running 3000 true) ∧
    ((slotsEntry 1 1).used = [1, 2, 9] ∧ (BatchEntry.fresh 5001).used = [] ∧ (stateIn .run []).currentPlace = none) := by
  decide +kernel

/-- A CLOSE_BATCH in RUN of an entry without live pieces: its TALLY follows what waits, ahead of the REPLY, and the
place is empty (R130, R131); behind another entry it stands at the back of the send order. -/
theorem test_close_sends :
    let s := lotState .run 0
    let t := run (.closeBatch (cmd 8)) s
    let u := run (.closeBatch (cmd 8)) { s with batch := { s.batch with sendOrder := [3] } }
    (t.batchAt 0 = none ∧ (t.port.routine.map fun q => q.msg.kind) = [10, 12, 14]) ∧
      u.batch.sendOrder = [3, 0] ∧ (u.batchAt 0).map (fun b => (b.state, b.cause, b.nextSlot)) =
        some (.sending, some .command, some 0) := by
  decide +kernel

/-- A line in RUN with an empty table, and one in DRAINING with a single record of the current batch or of no batch,
13, 14 and 15 routine frames. -/
theorem witness_ModeStopTaken_closure :
    (∀ n ∈ [13, 14, 15],
      (queued (lotState .run 0) n).admitsRequest (cmdFrame 2) = true ∧ (queued (lotState .run 0) n).line.state = .run ∧
        (queued (lotState .run 0) n).pieces.records = [] ∧ (queued (lotState .run 0) n).port.routine.length = n ∧
        (queued (lotState .run 0) n).currentPlace = some 0 ∧ (queued (lotState .run 0) n).batchesSound = true) ∧
    (∀ r ∈ [piece1, { piece1 with anonymous := true, batch := 0 }, { piece1 with batch := 9 }],
      (withBatch (stateIn .draining [r])).line.state = .draining ∧ (withBatch (stateIn .draining [r])).pieces.records = [r] ∧
        (withBatch (stateIn .draining [r])).currentPlace = some 0 ∧ (withBatch (stateIn .draining [r])).batchesSound = true) := by
  decide +kernel

/-- A GRANT and a TICKET home, a deadline passed and a PURGE that each take the last record of a DRAINING line. -/
theorem witness_lastRecords :
    (ownState (withBatch (stateIn .draining [piece1])) (entryAged 3)).comesHome (grantHome 2) = true ∧
      (ownState (withBatch (slotState .draining)) ticketEntry).comesHome (ticketHomeFrame 0) = true ∧
      (withBatch (slotState .draining)).pieces.records = [ticketed1] ∧
      (withBatch (stateIn .draining [waiting1 (-1)])).pieces.records = [waiting1 (-1)] ∧
      (withBatch (stateIn .draining [piece1])).admitsRequest (cmdFrame 6 (bytes16 1)) = true ∧
      (withBatch (stateIn .draining [piece1])).admitsRequest (cmdFrame 7) = true ∧
      (withBatch (stateIn .draining [piece1])).findPiece 1 = some piece1 := by decide +kernel

/-- The causes of the TALLYs that a closure at the entry to CONFIG queues: COMMAND from DRAINING, RESTART by RECOVER
(R128, R131). -/
theorem test_config_causes :
    let causes (t : State) : List ClosureCause := t.port.routine.filterMap fun q =>
      match q.msg with
      | .tally k => some k.cause
      | _ => none
    causes (run (.modeStop (cmd 2)) (lotState .run 0)) = [.command] ∧
      causes (run (.recover (cmd 5)) (lotState .suspect 0)) = [.restart] ∧
      causes ({ lotState .draining 1 with pieces := (stateIn .draining [piece1]).pieces }.removePiece 1 .missing) =
        [.command] := by decide +kernel

/-- `eyeState` with this eye, these keys in the repeat-fault table and so many others. -/
def repeating (x : Eye) (keys : List RepeatKey) (others : Nat) : State :=
  eyeState x (keys ++ (List.range others).map fun n => .edgeSequence (BitVec.ofNat 8 n) 0)

/-- Each key held, with a free entry for it, and with the table full; the count short of the threshold 3, coming to it,
and the threshold 0. -/
theorem witness_DuplicateAndGlitchCounted_keys :
    (∀ k ∈ [RepeatKey.edgeSequence 16 7, .glitch 16 7],
      k ∈ (repeating (eye .track .block none) [k] 7).eyes.repeats ∧
        k ∉ (repeating (eye .track .block none) [] 7).eyes.repeats ∧
        (repeating (eye .track .block none) [] 7).eyes.repeats.length = 7 ∧
        k ∉ (repeating (eye .track .block none) [] 8).eyes.repeats ∧
        (repeating (eye .track .block none) [] 8).eyes.repeats.length = 8) ∧
    ((eye .track .clear (some pendingClear)).dyn.glitches + 1 = (eye .track .clear (some pendingClear)).cfg.threshold ∧
      (eye .track .clear (some pendingClear)).cfg.threshold ≠ 0) := by decide +kernel

/-- The third glitch of an eye of threshold 3 is recorded and degrades it; a duplicate edge is recorded once (R31, R32,
R35). -/
theorem test_glitch_degrades :
    let codes (t : State) : List FaultCode := t.faults.list.map fun f => f.code
    let edge : Instr := .edge (edgeEnv 7 1 1130) 7 1 1130 0
    codes (run edge (repeating (eye .track .clear (some pendingClear)) [] 7)) = [.glitch, .eyeDegraded] ∧
      codes (run edge (repeating (eye .track .clear (some pendingClear)) [.glitch 16 7] 7)) = [.eyeDegraded] ∧
      codes (run edge (run edge (repeating (eye .track .block none) [] 7))) = [.edgeSequence] ∧
      codes (run edge (run edge (repeating (eye .track .block none) [] 8))) = [.edgeSequence, .edgeSequence] := by
  decide +kernel

/-- A clamped step in CONFIG with an empty table, and a negative one in SUSPECT with a record. -/
theorem witness_TravelClampedOrReversed_faults :
    ((scaled (stateIn .config [])).admitsOwn (travelFrameOf 201) = true ∧ (stateIn .config []).line.state = .config ∧
      (scaled (stateIn .config [])).mgmt.line.maxStep <
        (201 * (scaled (stateIn .config [])).mgmt.line.scale + (scaled (stateIn .config [])).travel.remainder) / 1024) ∧
    ((stateIn .suspect [piece1]).admitsOwn (travelFrameOf 65535) = true ∧ (stateIn .suspect [piece1]).line.state = .suspect ∧
      (stateIn .suspect [piece1]).pieces.records ≠ []) ∧
    ((run (travelOf 201 5400) (scaled (stateIn .config []))).faults.list.map fun f => (f.code, f.severity, f.site)) =
      [(.travelClamp, .doubt, .node 20)] := by decide +kernel

/-- A stamp a tick after the oldest sample and a tick before the newest. -/
theorem witness_InteriorStampConverts_segment :
    ∀ n ∈ [1001, 1199],
      (let t : Stamp := BitVec.ofNat 24 n
       0 < (t - 1000).toInt ∧ (t - 1200).toInt < 0 ∧ (∀ q ∈ interpolationHistory.history, q.stamp ≠ t) ∧
         interpolationHistory.history.head? = some { stamp := 1000, pos := 50000 } ∧
         interpolationHistory.history.getLast? = some { stamp := 1200, pos := 50033 } ∧
         segmentAround t interpolationHistory.history =
           some ({ stamp := 1000, pos := 50000 }, { stamp := 1200, pos := 50033 })) := by decide +kernel

/-- The fault that an entry to SUSPECT by a lost TRAVEL or a ring break records (R154). -/
theorem test_line_faults_recorded :
    ((run .travelLoss (lossDue soundState)).faults.list.map fun f => (f.code, f.severity)) = [(.travelLoss, .line)] ∧
      ((run .ringBreak (ownState (stateIn .run [piece1]) (entryAged 500))).faults.list.map fun f =>
        (f.code, f.piece, f.site)) = [(.ringBreak, some 1, .node 11)] := by decide +kernel

/-! ### The hypotheses of the clauses on refusals, releases, purges and served slots -/

/-- A READY and a WITHDRAW of a lane in READY: in RUN with a current batch and without one, and outside RUN; the span
{1, 2}, whose lane 2 is not enabled. -/
theorem witness_ReadyNotAccepted_ready :
    (∀ s ∈ [soundState, withBatch soundState, withLane (stateIn .draining []) .ready (some request1)],
      s.admitsOwn (readyOf 1 3 12 5001) = true ∧ s.admitsOwn (withdrawOf 1) = true ∧ (s.lane .l1).run = .ready ∧
        s.line.state ≠ .config ∧ s.spanPermitted .l1 3 = false) ∧
    (soundState.line.state = .run ∧ soundState.currentPlace = none ∧ (withBatch soundState).currentPlace.isSome = true ∧
      (withLane (stateIn .draining []) .ready (some request1)).line.state ≠ .run) := by decide +kernel

/-- The span byte for lanes 2 and 3, permitted widths 1, 2 and 4 of lane 2, lane 4 disabled or not: a gap, a lower lane,
a width not permitted, bit 4, no lane, and a lane that is not enabled are refused (R97, log 20). -/
theorem test_span_permitted :
    let e (widths : Byte) (on : Bool) : LaneEntry :=
      { cfg := { laneCfg with widths := widths, enabled := on }, run := .idle, request := none, early := 0, tail := none }
    let s (on : Bool) : State :=
      { stateIn .run [] with
        feed := { (stateIn .run []).feed with
          lanes := { l1 := e 15 true, l2 := e 11 true, l3 := e 3 true, l4 := e 1 on } } }
    ([2, 6, 14, 10, 7, 4, 18, 0].map fun n => (s true).spanPermitted .l2 (BitVec.ofNat 8 n)) =
        [true, true, false, false, false, false, false, false] ∧
      ([1, 3, 7, 15, 31].map fun n => (s true).spanPermitted .l1 (BitVec.ofNat 8 n)) = [true, true, true, true, false] ∧
      ([12, 4].map fun n => (s false).spanPermitted .l3 (BitVec.ofNat 8 n)) = [false, true] ∧
      (s true).spanPermitted .l3 12 = true := by decide +kernel

/-- A refused READY of a READY lane in RUN is recorded whether there is a current batch or not (R97). -/
theorem test_ready_refused :
    (∀ s ∈ [soundState, withBatch soundState],
      ((run (.ready (env me 11 0 fun e => readyFrame e 1 3 12 5001) 1 3 12 5001) s).faults.list.map fun f =>
        (f.code, f.severity, f.site)) = [(.readyRefusedSpan, .piece, .lane .l1)]) ∧
      (run (.ready (env me 11 0 fun e => readyFrame e 1 3 12 5001) 1 3 12 5001) soundState).feed.order = [] := by
  decide +kernel

/-- A release with a READY lane that then qualifies, one with the hold flag set or the batch blocked, and outside RUN. -/
theorem witness_FholdTaken_release :
    ∀ s ∈ [grantReady 122920 none,
        { grantReady 122920 none with feed := { (grantReady 122920 none).feed with hold := true } },
        { grantReady 122920 none with batch := { (grantReady 122920 none).batch with block := some .listFull } },
        stateIn .draining [piece1]],
      (let u := fholdState s true (some false)
       u.pins.resetHeld = false ∧ u.feed.fholdRead = some false ∧ u.feed.fhold = true) := by decide +kernel

/-- The release of FHOLD grants the lane that waits for it (R99, R109). -/
theorem test_release_grants :
    ((run .fholdRelease (fholdState (grantReady 122920 none) true (some false))).lane .l1).run = .granted ∧
      ((fholdState (grantReady 122920 none) true (some false)).evaluate.lane .l1).run = .ready := by decide +kernel

/-- The line of section 11.1 after its grant, in this line state, whose GRANT of piece 1 waits behind a TICKET. -/
def grantWaits (l : LineState) : State := { breakState 0 with line := { (breakState 0).line with state := l } }

/-- A PURGE of a record in GRANTED whose GRANT waits, of one on the feed, and of the last live piece of a CLOSING entry
in SUSPECT, alone with a place free beside the REPLY's, with none, and behind another entry. -/
theorem witness_PurgeTaken_granted :
    (∀ l ∈ [LineState.run, .draining, .suspect],
      (grantWaits l).admitsRequest (cmdFrame 6 (bytes16 1)) = true ∧
        ((grantWaits l).findPiece 1).map (fun r => (r.state, r.anonymous, r.batch)) = some (.granted, false, 5001) ∧
        (grantWaits l).port.urgent.filterMap Queued.grantPiece = [1] ∧ (grantWaits l).removesQuietly 5001 = true ∧
        (grantWaits l).placeOf 5001 = some 0 ∧
        ((grantWaits l).batchAt 0).map (fun b => (b.state, b.live)) = some (.opened, 1)) ∧
    (let s := withBatch (stateIn .draining [{ piece1 with state := .onFeed }, { piece1 with number := 2 }])
     s.admitsRequest (cmdFrame 6 (bytes16 1)) = true ∧ s.findPiece 1 = some { piece1 with state := .onFeed } ∧
       s.placeOf 5001 = some 0 ∧ s.batchAt 0 = some { BatchEntry.fresh 5001 with live := 2 }) ∧
    (∀ x ∈ [(([] : List Nat), 14), ([3], 0), ([], 15)],
      (let s := { lastLive x.1 x.2 with pieces := (stateIn .suspect [piece1]).pieces }
       s.admitsRequest (cmdFrame 6 (bytes16 1)) = true ∧ s.findPiece 1 = some piece1 ∧ s.line.state = .suspect ∧
         s.placeOf piece1.batch = some 0 ∧ (s.batchAt 0).map (fun b => (b.state, b.live)) = some (.closing, 1))) := by
  decide +kernel

/-- The purged record's GRANT goes, its lane is IDLE, and its batch counts it as lost under article 12 (R57, R122). -/
theorem test_purge_granted :
    let t := run (.purge (cmd 6 (bytes16 1)) 1) (grantWaits .run)
    (t.port.urgent.map fun q => q.msg.kind) = [8, 7] ∧ (t.lane .l1).run = .idle ∧
      (t.batchAt 0).map (fun b => (b.live, (b.slots.head?.map fun y => (y.code, y.counts.lost)))) =
        some (0, some (some 12, 1)) ∧ t.feed.occupancy = 0 := by decide +kernel

/-- An undelivered TICKET with a record of its channel pending, in every line state that holds records. -/
theorem witness_GrantAndTicketReturnJudged_served :
    ∀ l ∈ [LineState.run, .draining, .suspect],
      (let s := ownState (servingState l) ticketEntry
       s.comesHome (ticketHomeFrame 0) = true ∧ s.comesHome (ticketHomeFrame 3) = true ∧
         s.ticketMatch .l1 .x 1 = some ticketed1 ∧
         (s.pieces.records.filter fun q => q.lane == .l1 && q.ticket == .pending).head? =
           some { waiting1 500 with number := 2 } ∧
         s.findPiece 2 = some { waiting1 500 with number := 2 }) := by decide +kernel

/-- The slot of the undelivered TICKET serves piece 2: OWNED, the pointer at Y, its TICKET queued (R139, R142). -/
theorem test_undelivered_serves :
    let e := env 30 me 0 fun e => ticketFrame e ticketFields1
    let t := run (.ticketReturn e ticketFields1) (ownState (servingState .run) ticketEntry)
    ((t.channel .l1).x, (t.channel .l1).next) = (some 2, .y) ∧
      (t.pieces.records.map fun r => (r.number, r.ticket)) = [(2, .sent)] ∧
      t.port.urgent.getLast?.bind Queued.ticketPiece = some 2 := by decide +kernel

end Sys2Proof.Tests
end

/-! SUPPORT. Proofs about the conversion of stamps (R17 to R19): one lemma for each case of R17, and the statement
they settle. -/

namespace Sys2Proof.Machine

open Sys2Proof

/-! ### Segments of the history -/

/-- A segment around a stamp is made of two adjacent samples, one before the stamp and one after it (R18). -/
theorem segmentAround_eq_some {t : Stamp} {a b : Sample} : ∀ {l : List Sample}, segmentAround t l = some (a, b) →
    (∃ pre post : List Sample, l = pre ++ a :: b :: post) ∧ 0 < timeDiff t a.stamp ∧ timeDiff t b.stamp < 0
  | [], h | [_], h => by simp [segmentAround] at h
  | x :: y :: rest, h => by
    unfold segmentAround at h
    split at h
    case isTrue hxy =>
      obtain ⟨rfl, rfl⟩ : x = a ∧ y = b := by simpa using h
      exact ⟨⟨[], rest, rfl⟩, hxy⟩
    case isFalse =>
      obtain ⟨⟨pre, post, hl⟩, hab⟩ := segmentAround_eq_some h
      exact ⟨⟨x :: pre, post, by rw [hl, List.cons_append]⟩, hab⟩

/-- A stamp that is before no sample has no segment around it. -/
theorem segmentAround_eq_none {t : Stamp} {l : List Sample} (h : ∀ q ∈ l, 0 ≤ timeDiff t q.stamp) :
    segmentAround t l = none := by
  cases hs : segmentAround t l with
  | none => rfl
  | some p =>
    obtain ⟨⟨pre, post, rfl⟩, -, hb⟩ := segmentAround_eq_some (a := p.1) (b := p.2) hs
    have := h p.2 (by simp)
    omega

@[simp] theorem lastSegment_append_pair (a b : Sample) : ∀ pre : List Sample,
    lastSegment (pre ++ [a, b]) = some (a, b)
  | [] => rfl
  | [_] => rfl
  | _ :: y :: pre => by
    have ih := lastSegment_append_pair a b (y :: pre)
    have hne : pre ++ [a, b] ≠ [] := List.append_ne_nil_of_right_ne_nil pre (List.cons_ne_nil a [b])
    obtain ⟨z, rest, hz⟩ := List.exists_cons_of_ne_nil hne
    simp only [List.cons_append, hz] at ih ⊢
    exact ih

/-! ### The rise of a segment -/

/-- Between the stamps of a segment that does not go backward, the rounded rise stays between 0 and the segment's
whole rise (R18). -/
theorem segmentRise_mem_Icc {a b : Sample} {e : Int} (he : 0 ≤ e) (hlt : e < timeDiff b.stamp a.stamp)
    (hp : 0 ≤ posDiff b.pos a.pos) : segmentRise a b e ∈ Set.Icc 0 (posDiff b.pos a.pos) := by
  unfold segmentRise
  generalize timeDiff b.stamp a.stamp = T at hlt ⊢
  generalize posDiff b.pos a.pos = D at hp ⊢
  have hlow : 0 ≤ e * D := mul_nonneg he hp
  have hhigh : e * D ≤ T * D := mul_le_mul_of_nonneg_right hlt.le hp
  constructor
  · exact Int.ediv_nonneg (by linarith) (by linarith)
  · refine Int.lt_add_one_iff.mp (Int.ediv_lt_of_lt_mul (by linarith) ?_)
    linarith

/-- A position moved forward by at most another signed difference lies that far ahead (R5). -/
theorem posDiff_posAdd {a p q : Pos} {d : Int} (h : d ∈ Set.Icc 0 (posDiff p q)) : posDiff (posAdd a d) a = d := by
  have hmax : posDiff p q < 2 ^ 31 := BitVec.toInt_lt
  obtain ⟨h0, hle⟩ := h
  have hsub : posAdd a d - a = BitVec.ofInt 32 d := by
    unfold posAdd
    rw [add_sub_cancel_left]
  rw [posDiff, hsub, BitVec.toInt_ofInt]
  exact Int.bmod_eq_of_le (by omega) (by omega)

/-! ### The cases of R17 -/

/-- The extrapolation of R19 as one line: over the smaller of the distance and the limit, stale beyond the limit. -/
theorem extrapolate_eq (a b : Sample) (limit : Nat) (t : Stamp) :
    extrapolate a b limit t = (posAdd b.pos (segmentRise a b (min (timeDiff t b.stamp) limit)),
      decide ((limit : Int) < timeDiff t b.stamp)) := by
  unfold extrapolate
  split
  case isTrue h => rw [min_eq_left h, decide_eq_false (not_lt.mpr h)]
  case isFalse h => rw [min_eq_right (not_le.mp h).le, decide_eq_true (not_le.mp h)]

section Conversion

variable {history : List Sample} {oldest : Sample} {t : Stamp} (limit : Nat)

/-- No sample is found at a stamp that none of them has. -/
theorem find?_stamp_eq_none (h : ∀ q ∈ history, q.stamp ≠ t) : history.find? (fun x => x.stamp == t) = none :=
  List.find?_eq_none.mpr fun q hq => by simpa using h q hq

theorem convertIn_before (h : timeDiff t oldest.stamp < 0) :
    convertIn history oldest limit t = (oldest.pos, true) := if_pos h

theorem convertIn_onSample {pre post : List Sample} {a : Sample} (h0 : 0 ≤ timeDiff t oldest.stamp)
    (hl : history = pre ++ a :: post) (ha : a.stamp = t) (hpre : ∀ q ∈ pre, q.stamp ≠ t) :
    convertIn history oldest limit t = (a.pos, false) := by
  have hfind : history.find? (fun x => x.stamp == t) = some a :=
    List.find?_eq_some_iff_append.mpr ⟨by simpa using ha, pre, post, hl, fun q hq => by simpa using hpre q hq⟩
  rw [convertIn, if_neg (not_lt.mpr h0), hfind]

theorem convertIn_inside {a b : Sample} (h0 : 0 ≤ timeDiff t oldest.stamp) (hne : ∀ q ∈ history, q.stamp ≠ t)
    (hs : segmentAround t history = some (a, b)) :
    convertIn history oldest limit t = (posAdd a.pos (segmentRise a b (timeDiff t a.stamp)), false) := by
  rw [convertIn, if_neg (not_lt.mpr h0), find?_stamp_eq_none hne, hs]

/-- A stamp after every sample continues the last segment (R19). -/
theorem convertIn_after {a b : Sample} {pre : List Sample} (hmem : oldest ∈ history) (hl : history = pre ++ [a, b])
    (hafter : ∀ q ∈ history, 0 < timeDiff t q.stamp) :
    convertIn history oldest limit t = extrapolate a b limit t := by
  have hne : ∀ q ∈ history, q.stamp ≠ t := fun q hq he => by
    have hpos := hafter q hq
    simp [timeDiff, he] at hpos
  rw [convertIn, if_neg (not_lt.mpr (hafter oldest hmem).le), find?_stamp_eq_none hne,
    segmentAround_eq_none fun q hq => (hafter q hq).le, hl, lastSegment_append_pair]

end Conversion

/-! ### The conversion of the Travel Unit -/

namespace TravelUnit

variable {u : TravelUnit} {x y a b : Sample} {rest pre : List Sample} {t : Stamp} (limit : Nat)

theorem convert_of_nil (t : Stamp) (h : u.history = []) : u.convert limit t = (u.position, true) := by
  rw [convert, h]

theorem convert_of_singleton (t : Stamp) (h : u.history = [x]) : u.convert limit t = (x.pos, true) := by
  rw [convert, h]

theorem convert_of_two (t : Stamp) (h : u.history = x :: y :: rest) :
    u.convert limit t = convertIn u.history x limit t := by
  rw [convert, h]

/-- After every sample the conversion is the extrapolation from the last two (R19). -/
theorem convert_after (h : u.history = pre ++ [a, b]) (hafter : ∀ q ∈ u.history, 0 < timeDiff t q.stamp) :
    u.convert limit t = extrapolate a b limit t := by
  obtain ⟨x, y, rest, hxy⟩ : ∃ x y rest, u.history = x :: y :: rest := by
    rw [h]
    match pre with
    | [] => exact ⟨a, b, [], rfl⟩
    | [p] => exact ⟨p, a, [b], rfl⟩
    | p :: q :: pre => exact ⟨p, q, pre ++ [a, b], rfl⟩
  rw [convert_of_two limit t hxy]
  exact convertIn_after limit (by simp [hxy]) h hafter

end TravelUnit

/-- Settles O27, from one lemma for each case of R17. -/
theorem interiorStampConverts : Obligations.InteriorStampConverts := by
  refine ⟨?inside, ?bracketed, ?empty, ?single, ?before, ?onSample, ?after⟩
  case inside =>
    intro u limit t x y a b rest hl h0 hne hs
    obtain ⟨hadj, ha, hb⟩ := segmentAround_eq_some hs
    have hconv : u.convert limit t = (posAdd a.pos (segmentRise a b (timeDiff t a.stamp)), false) :=
      (u.convert_of_two limit t hl).trans (convertIn_inside limit h0 hne hs)
    refine ⟨hadj, ha, hb, hconv, fun hsum hpos hp => ?_⟩
    have hlt : timeDiff t a.stamp < timeDiff b.stamp a.stamp := by
      unfold timeDiff
      omega
    have hrise := segmentRise_mem_Icc ha.le hlt hp
    have hdiff : posDiff (u.convert limit t).1 a.pos = segmentRise a b (timeDiff t a.stamp) := by
      rw [hconv]
      exact posDiff_posAdd hrise
    exact ⟨hrise.1.trans_eq hdiff.symm, hdiff.trans_le hrise.2⟩
  case bracketed => exact fun u t x n hx hn h0 h1 hne => segmentAround_exists t u.history x n hx hn h0 h1 hne
  case empty => exact fun u limit t h => u.convert_of_nil limit t h
  case single => exact fun u limit t x h => u.convert_of_singleton limit t h
  case before => exact fun u limit t x y rest hl h => (u.convert_of_two limit t hl).trans (convertIn_before limit h)
  case onSample =>
    exact fun u limit t x y a rest pre post hl h0 hsplit ha hpre =>
      (u.convert_of_two limit t hl).trans (convertIn_onSample limit h0 hsplit ha hpre)
  case after =>
    rintro u limit t a b pre e hl hafter rfl
    exact (u.convert_after limit hl hafter).trans (extrapolate_eq a b limit t)

end Sys2Proof.Machine

/-! SUPPORT. Proofs about WITHDRAW (R98): what a lane at rest keeps through grants and the choice of a batch, what a
change of the request order does, and the statement they settle. -/

namespace Sys2Proof.Machine

open Sys2Proof

/-! ### What a taken frame leaves alone -/

/-- A frame whose taking changes no more than the Batch Counter can leaves the tracking blocks as they were. -/
theorem State.LotsOnly.sameTracking_passOn {s t : State} (h : s.received.LotsOnly t) (f : Frame) :
    State.sameTracking s (t.passOn f) :=
  ⟨h.travel, h.eyes, h.matcher, h.folder⟩

theorem State.LotsOnly.sameOuter_passOn {s t : State} (h : s.received.LotsOnly t) (f : Frame) :
    State.sameOuter s (t.passOn f) :=
  ⟨h.pins, h.mgmt, h.freeIndex, h.pending, (congrArg RingPort.own h.port :)⟩

/-! ### A lane at rest -/

/-- The lane is IDLE, holds no request and stands in no request order (R94, R95). -/
def FeedSequencer.RestsAt (q : FeedSequencer) (l : Lane) : Prop :=
  (q.lanes.get l).run = .idle ∧ (q.lanes.get l).request = none ∧ l ∉ q.order

section

variable {l : Lane}

theorem State.withoutRequest_rests (s : State) (l : Lane) : (s.withoutRequest l).feed.RestsAt l := by
  simp [FeedSequencer.RestsAt, State.withoutRequest]

theorem State.refreshFeed_rests {s : State} (h : s.feed.RestsAt l) : s.refreshFeed.feed.RestsAt l := by
  rw [State.refreshFeed_feed]
  exact h

theorem State.testHold_rests {s : State} (h : s.feed.RestsAt l) : s.testHold.feed.RestsAt l :=
  State.refreshFeed_rests (s := s.onFeed fun q => { q with hold := s.holdAfter }) h

theorem State.dropTails_rests {s : State} (h : s.feed.RestsAt l) : s.dropTails.feed.RestsAt l := by
  simpa [FeedSequencer.RestsAt, State.dropTails] using h

/-- A tail set on any lane leaves the lane at rest (R106). -/
theorem State.setTails_rests (s : State) (sp : Span) (t : Tail) :
    s.feed.RestsAt l → (s.setTails sp t).feed.RestsAt l := by
  refine foldl_keeps (R := fun a b => a.feed.RestsAt l → b.feed.RestsAt l) (fun _ h => h) (fun h k hs => k (h hs))
    (f := fun u k => u.onLane k fun e => { e with tail := some t }) (fun u k h => ?_) (spanLanes sp) s
  obtain ⟨hrun, hreq, hord⟩ := h
  by_cases hk : l = k
  · subst hk
    exact ⟨by simpa [State.onLane] using hrun, by simpa [State.onLane] using hreq, hord⟩
  · exact ⟨by simpa [State.onLane, PerLane.get_set_other _ _ hk] using hrun,
      by simpa [State.onLane, PerLane.get_set_other _ _ hk] using hreq, hord⟩

/-- A run state taken by another lane leaves the lane at rest (R94, R95). -/
theorem State.restLane_rests {s : State} {k : Lane} (run : LaneRun) (hk : l ≠ k) (h : s.feed.RestsAt l) :
    (s.restLane k run).feed.RestsAt l := by
  obtain ⟨hrun, hreq, hord⟩ := h
  refine ⟨?_, ?_, fun hmem => hord (List.mem_of_mem_filter hmem)⟩
  · simpa [State.restLane, State.leaveOrder, State.onLane, PerLane.get_set_other _ _ hk] using hrun
  · simpa [State.restLane, State.leaveOrder, State.onLane, PerLane.get_set_other _ _ hk] using hreq

theorem State.grantLane_rests {s : State} {k : Lane} (p : Piece) (hk : l ≠ k) (h : s.feed.RestsAt l) :
    (s.grantLane k p).feed.RestsAt l :=
  State.setTails_rests (s.restLane k .granted) p.span _ (State.restLane_rests .granted hk h)

/-- A grant of another lane leaves the lane at rest, be it in the granted span or not (R102). -/
theorem State.grant_rests {s : State} {k : Lane} (r : LaneRequest) (hk : l ≠ k) (h : s.feed.RestsAt l) :
    (s.grant k r).feed.RestsAt l := by
  unfold State.grant
  split
  · exact h
  · simp only [State.pushUrgent, State.batchGranted, State.restartIdle, State.onBatchNumber, State.onPort_feed,
      State.onBatch_feed]
    apply State.testHold_rests
    rw [State.onFeed_feed]
    exact State.grantLane_rests _ hk h

/-- Testing the lanes leaves the lane at rest: it is not READY itself (R101). -/
theorem State.tryLane_rests (s : State) (k : Lane) (h : s.feed.RestsAt l) : (s.tryLane k).feed.RestsAt l := by
  unfold State.tryLane
  split
  next r hready _ =>
    split
    · have hk : l ≠ k := by
        rintro rfl
        exact absurd (hready.symm.trans h.1) (by decide)
      exact State.grant_rests r hk h
    · exact h
  · exact h

theorem State.evaluate_rests {s : State} (h : s.feed.RestsAt l) : s.evaluate.feed.RestsAt l :=
  foldl_keeps (R := fun a b => a.feed.RestsAt l → b.feed.RestsAt l) (fun _ h => h) (fun h k hs => k (h hs))
    State.tryLane_rests _ _ (State.dropTails_rests h)

theorem State.setBlock_rests {s : State} (c : BlockCause) (front : Lane) (h : s.feed.RestsAt l) :
    (s.setBlock c front).feed.RestsAt l := by
  unfold State.setBlock
  split
  · exact h
  · split
    · exact State.refreshFeed_rests h
    · rw [(State.logFault_blocks _ _).2.1]
      exact State.refreshFeed_rests h

theorem State.clearBlock_rests {s : State} (h : s.feed.RestsAt l) : s.clearBlock.feed.RestsAt l := by
  unfold State.clearBlock
  split
  · exact h
  · exact State.refreshFeed_rests h

/-- The choice of a batch, with the grants of a new batch's evaluation, leaves the lane at rest (R123). -/
theorem State.choose_rests {s : State} (h : s.feed.RestsAt l) : s.choose.feed.RestsAt l := by
  unfold State.choose
  split
  · exact h
  · split
    · exact State.clearBlock_rests h
    · split
      · exact h
      · split
        · exact State.setBlock_rests _ _ h
        · split
          · exact State.evaluate_rests (State.refreshFeed_rests h)
          · exact State.setBlock_rests _ _ h

theorem State.orderChanged_rests {s : State} (h : s.feed.RestsAt l) : s.orderChanged.feed.RestsAt l := by
  unfold State.orderChanged
  split
  · exact State.choose_rests (State.clearBlock_rests h)
  · exact State.choose_rests h

end

/-! ### A change of the request order -/

/-- A block cleared is clear, and the rest of the Batch Counter's state and the records are as they were (R124). -/
theorem State.clearBlock_blocks (s : State) :
    s.clearBlock.batch = { s.batch with block := none } ∧ s.clearBlock.pieces = s.pieces ∧
      s.clearBlock.feed.order = s.feed.order := by
  unfold State.clearBlock
  split
  · next hnone =>
    refine ⟨?_, rfl, rfl⟩
    rw [← Option.isNone_iff_eq_none.mp hnone]
  · obtain ⟨hpieces, hbatch⟩ := State.refreshFeed_blocks (s.onBatch fun q => { q with block := none })
    exact ⟨hbatch, hpieces, by rw [State.refreshFeed_feed]; rfl⟩

theorem State.clearBlock_currentPlace (s : State) : s.clearBlock.currentPlace = s.currentPlace := by
  unfold State.currentPlace
  rw [s.clearBlock_blocks.1]

/-- A clear block is cleared with no effect (R124). -/
theorem State.clearBlock_clearBlock (s : State) : s.clearBlock.clearBlock = s.clearBlock := by
  rw [State.clearBlock, if_pos (by rw [s.clearBlock_blocks.1]; rfl)]

/-- Outside RUN, or with a current batch, no choice is made (R123). -/
theorem State.choose_of_noChoice {s : State} (h : s.line.state ≠ .run ∨ s.currentPlace.isSome = true) :
    s.choose = s := by
  rw [State.choose, if_pos h]

/-- With no request in the order the choice only clears the block (R123, R124). -/
theorem State.choose_of_noOrder {s : State} (hrun : s.line.state = .run) (hplace : s.currentPlace = none)
    (horder : s.feed.order = []) : s.choose = s.clearBlock := by
  rw [State.choose, if_neg (by simp [hrun, hplace]), horder]

/-- In RUN without a current batch a change of the order is the choice of a batch (R123, R124). -/
theorem State.orderChanged_eq_choose {s : State} (hrun : s.line.state = .run) (hplace : s.currentPlace = none) :
    s.orderChanged = s.choose := by
  unfold State.orderChanged
  split
  · next hempty =>
    have horder : s.feed.order = [] := List.isEmpty_iff.mp hempty
    rw [State.choose_of_noOrder hrun hplace horder,
      State.choose_of_noOrder (s.clearBlock_feedOnly.line ▸ hrun) (s.clearBlock_currentPlace.trans hplace)
        (s.clearBlock_blocks.2.2.trans horder), State.clearBlock_clearBlock]
  · rfl

/-- Outside RUN, or with a current batch, a change of the order leaves the records and the order alone (R123, R124). -/
theorem State.orderChanged_blocks {s : State} (h : s.line.state ≠ .run ∨ s.currentPlace.isSome = true) :
    s.orderChanged.pieces = s.pieces ∧ s.orderChanged.feed.order = s.feed.order := by
  unfold State.orderChanged
  split
  · rw [State.choose_of_noChoice (by rwa [s.clearBlock_feedOnly.line, s.clearBlock_currentPlace])]
    exact s.clearBlock_blocks.2
  · rw [State.choose_of_noChoice h]
    exact ⟨rfl, rfl⟩

/-! ### WITHDRAW -/

/-- The fault of a WITHDRAW that finds its lane GRANTED (R98). -/
def State.withdrawLate (s : State) (l : Lane) : Raised :=
  { code := .withdrawLate, severity := .noted, piece := s.grantedOn l, site := .lane l, position := none }

section

variable {s : State} {lane : Byte} {l : Lane}

theorem State.takeWithdraw_ready (hl : Lane.ofNumber lane.toNat = some l) (hrun : (s.lane l).run = .ready) :
    s.takeWithdraw lane = (s.withoutRequest l).orderChanged := by
  simp only [State.takeWithdraw, hl, hrun]
  rfl

theorem State.takeWithdraw_granted (hl : Lane.ofNumber lane.toNat = some l) (hrun : (s.lane l).run = .granted) :
    s.takeWithdraw lane = s.logFault (s.withdrawLate l) := by
  simp only [State.takeWithdraw, hl, hrun]
  exact s.recordFault_eq_logFault _ (Or.inl nofun)

theorem State.takeWithdraw_resting (hl : Lane.ofNumber lane.toNat = some l)
    (hrun : (s.lane l).run = .idle ∨ (s.lane l).run = .offline) : s.takeWithdraw lane = s := by
  rcases hrun with hrun | hrun <;> simp only [State.takeWithdraw, hl, hrun]

theorem State.takeWithdraw_noLane (hl : Lane.ofNumber lane.toNat = none) : s.takeWithdraw lane = s := by
  simp only [State.takeWithdraw, hl]

end

/-- A WITHDRAW addressed to the part is taken by the Feed Sequencer and passed on with the taken mark (R98, R170). -/
theorem exec_withdraw {e : Envelope} {lane : Byte} {s t : State} (hown : s.admitsOwn (withdrawFrame e lane) = true)
    (htaken : s.received.takeWithdraw lane = t) :
    exec (.withdraw e lane) s = .next (t.passOn ((withdrawFrame e lane).withMark markTaken)) := by
  have hheld : s.pins.resetHeld = false := s.admits_held _ (s.admitsOwn_admits _ hown)
  have hlive : exec (.withdraw e lane) s = .next (s.receive (withdrawFrame e lane)) := by
    change s.live (fun u => u.receive (withdrawFrame e lane)) = _
    simp [State.live, hheld]
  rw [hlive, s.receive_admitsOwn _ hown rfl, ← htaken]
  rfl

/-- Settles O33, by the run state of the lane: the request dropped and its lane at rest through the choice, the fault
recorded, or nothing done. -/
theorem withdrawHandled : Obligations.WithdrawHandled := by
  refine ⟨?ready, ?granted, ?other⟩
  case ready =>
    intro e lane s l hown hl hrun
    have hlots : s.received.LotsOnly (s.received.withoutRequest l).orderChanged := s.received.dropRequest_lotsOnly l
    obtain ⟨hidle, hnone, hout⟩ := State.orderChanged_rests (s.received.withoutRequest_rests l)
    refine ⟨_, exec_withdraw hown (State.takeWithdraw_ready hl hrun), hidle, hnone, hout, hlots.line,
      hlots.sameTracking_passOn _, hlots.sameOuter_passOn _, fun hkept => ?_, fun hrunning hplace => ?_⟩
    · exact State.orderChanged_blocks (s := s.received.withoutRequest l) hkept
    · rw [State.orderChanged_eq_choose (s := s.received.withoutRequest l) hrunning hplace]
  case granted =>
    intro e lane s l hown hl hrun
    have hlots := s.received.logFault_lotsOnly (s.withdrawLate l)
    obtain ⟨hpieces, hfeed, hbatch, _⟩ := s.received.logFault_blocks (s.withdrawLate l)
    exact ⟨_, exec_withdraw hown (State.takeWithdraw_granted hl hrun), hfeed, hpieces, hlots.line, hbatch,
      hlots.sameTracking_passOn _, hlots.sameOuter_passOn _, s.received.logFault_list (s.withdrawLate l),
      s.received.logFault_overflow (s.withdrawLate l)⟩
  case other =>
    intro e lane s hown hlane
    rcases hlane with hzero | hbeyond | ⟨l, hl, hrun⟩
    · exact exec_withdraw hown (State.takeWithdraw_noLane (Lane.ofNumber_eq_none.mpr (Or.inl hzero)))
    · exact exec_withdraw hown (State.takeWithdraw_noLane (Lane.ofNumber_eq_none.mpr (Or.inr hbeyond)))
    · exact exec_withdraw hown (State.takeWithdraw_resting hl hrun)

end Sys2Proof.Machine

/-! SUPPORT. Proofs about the assignment of a slot (R138, R140, R141): the program choice case by case, what the
assignment leaves in the record and in the channel, and the statement they settle. -/

namespace Sys2Proof.Machine

open Sys2Proof

/-! ### The program choice (R140) -/

section

variable {r : Piece} {a : ArticleData}

theorem programChoice_rejected (h : r.reject ≠ .none) : programChoice r = (0, r.reject) := if_pos h

theorem programChoice_doubted (h : r.reject = .none) (ha : r.snapshot = some a) (hd : r.doubt = true)
    (hp : a.policy = .reject) : programChoice r = (0, .doubt) := by
  simp [programChoice, h, ha, hd, hp]

theorem programChoice_folded (h : r.reject = .none) (ha : r.snapshot = some a)
    (hok : r.doubt = false ∨ a.policy = .foldFlagged) : programChoice r = (a.program, .none) := by
  have hno : ¬(r.doubt = true ∧ a.policy = .reject) := by
    rcases hok with hd | hp
    · simp [hd]
    · simp [hp]
  simp [programChoice, h, ha, hno]

end

/-! ### Slots and records -/

@[simp] theorem Channel.owner_setOwner_self (c : Channel) (n : SlotName) (o : Option Half) :
    (c.setOwner n o).owner n = o := by
  cases n <;> rfl

/-- The pointer is no owner: replacing it leaves the owners. -/
@[simp] theorem Channel.owner_next (c : Channel) (n m : SlotName) :
    ({ c with next := m } : Channel).owner n = c.owner n := by
  cases n <;> rfl

@[simp] theorem State.onChannel_channel_self (s : State) (c : Lane) (f : Channel → Channel) :
    (s.onChannel c f).channel c = f (s.channel c) := by
  simp [State.onChannel, State.channel]

/-- A change of the record that keeps its number is what is found under that number afterwards (R44). -/
theorem State.onPiece_findPiece_self (s : State) (n : Half) {f : Piece → Piece} (hf : ∀ q, (f q).number = q.number) :
    (s.onPiece n f).findPiece n = (s.findPiece n).map f := by
  have hkeep : (fun q : Piece => q.number == n) ∘ (fun q => if q.number == n then f q else q) =
      fun q => q.number == n := by
    funext q
    by_cases h : q.number = n <;> simp [h, hf]
  simp only [State.findPiece, State.onPiece, State.onPieces_pieces, List.find?_map, hkeep]
  refine Option.map_congr fun q hq => ?_
  rw [if_pos (List.find?_some hq)]

/-! ### The assignment (R138, R141) -/

section

variable (s : State) (c : Lane) (n : SlotName) (r : Piece)

theorem State.assignSlot_urgent : (s.assignSlot c n r).port.urgent = s.port.urgent ++
    [{ dest := s.mgmt.line.folder, msg := .ticket (ticketOf r c n), suspect := s.line.state == .suspect }] := rfl

theorem State.assignSlot_channel_self : (s.assignSlot c n r).channel c =
    { (s.channel c).setOwner n (some r.number) with next := n.other } :=
  s.onChannel_channel_self c fun q => { q.setOwner n (some r.number) with next := n.other }

theorem State.assignSlot_findPiece : (s.assignSlot c n r).findPiece r.number =
    (s.findPiece r.number).map fun q =>
      { q with ticketSlot := some (c, n), reject := (programChoice r).2, ticket := .sent, deadline := none } :=
  (s.onChannel c _).onPiece_findPiece_self r.number fun _ => rfl

end

/-- Settles O37, by the three rows of R140: each gives the choice, which the TICKET and the record both carry. -/
theorem programChosen : Obligations.ProgramChosen := by
  intro s c n r program reason hrow
  have hchoice : programChoice r = (program, reason) := by
    rcases hrow with ⟨hrej, rfl, rfl⟩ | ⟨hnone, hd, rfl, rfl, a, ha, hp⟩ | ⟨hnone, rfl, a, ha, hok, rfl⟩
    · exact programChoice_rejected hrej
    · exact programChoice_doubted hnone ha hd hp
    · exact programChoice_folded hnone ha hok
  obtain ⟨hprogram, hreason⟩ := Prod.ext_iff.mp hchoice
  refine ⟨?ticket, ?record, ?owner, ?pointer⟩
  case ticket =>
    exact ⟨ticketOf r c n, hprogram, hreason, rfl, rfl, rfl, rfl, rfl, rfl, rfl, rfl, s.assignSlot_urgent c n r⟩
  case record =>
    intro q hq
    rw [s.assignSlot_findPiece] at hq
    obtain ⟨p, -, rfl⟩ := Option.map_eq_some_iff.mp hq
    exact ⟨hreason, rfl, rfl⟩
  case owner => rw [s.assignSlot_channel_self, Channel.owner_next, Channel.owner_setOwner_self]
  case pointer => rw [s.assignSlot_channel_self]

end Sys2Proof.Machine

/-! SUPPORT. Proofs about RECOVER (R156): a command as it is answered, the places of the batch list, the sending of
tallies and the closure of a batch outside RUN, the entry to CONFIG, and the statement they settle. -/

namespace Sys2Proof.Machine

open Sys2Proof

/-! ### A command as it is answered -/

/-- The state in which a request is performed: the frame received and a place reserved for its REPLY (R175, R180). -/
def State.performing (s : State) : State := s.received.onPort fun p => { p with reserved := true }

/-- The reservation ends with the REPLY, so nothing of it is left in the state answered. -/
theorem State.performing_answered (s : State) (f : Frame) (result : Byte) (data : List Byte) :
    s.performing.answered f result data = s.received.answered f result data := rfl

/-- Beside the reserved place, 15 places are for other frames (R175). -/
theorem State.performing_freePlaces (s : State) : s.performing.freePlaces = 15 - s.port.routine.length := by
  change 16 - (s.port.routine.length + 1) = 15 - s.port.routine.length
  omega

/-- The REPLY queued and the REQUEST, marked taken, passed on (R170, R180). -/
theorem Answer.reply_forward (a : Answer) (f : Frame) :
    (a.reply f.src (byteAt f.body 0)).forward (f.withMark markTaken) = a.state.answered f a.result a.data := rfl

theorem State.perform_command (s : State) (code : Byte) (operand : List Byte) :
    s.perform 4 (code :: operand) = s.doCommand code operand := rfl

/-- A COMMAND that finds a place is performed, answered and passed on (R170, R180, R186). -/
theorem State.receive_command {s : State} {e : Envelope} {code : Byte} {operand : List Byte}
    (h : s.admitsRequest (commandFrame e code operand) = true) :
    s.receive (commandFrame e code operand) = (s.performing.doCommand code operand).state.answered
      (commandFrame e code operand) (s.performing.doCommand code operand).result
      (s.performing.doCommand code operand).data := by
  rw [← Answer.reply_forward, ← State.perform_command]
  exact s.receive_request e 4 (code :: operand) h

theorem State.admitsRequest_held {s : State} {f : Frame} (h : s.admitsRequest f = true) : s.pins.resetHeld = false :=
  s.admits_held f (s.admitsOwn_admits f (s.admitsRequest_admitsOwn f h))

section

variable (s : State) (f : Frame) (result : Byte) (data : List Byte)

@[simp] theorem State.answered_line : (s.answered f result data).line = s.line := rfl
@[simp] theorem State.answered_faults : (s.answered f result data).faults = s.faults := rfl
@[simp] theorem State.answered_pieces : (s.answered f result data).pieces = s.pieces := rfl
@[simp] theorem State.answered_lane (l : Lane) : (s.answered f result data).lane l = s.lane l := rfl
@[simp] theorem State.answered_batchAt (i : Nat) : (s.answered f result data).batchAt i = s.batchAt i := rfl

/-- A frame that was queued before the REPLY is queued with it. -/
theorem State.mem_answered_routine {q : Queued} (h : q ∈ s.port.routine) :
    q ∈ (s.answered f result data).port.routine :=
  List.mem_append_left _ h

end

theorem State.answered_repliedLast (s : State) (f : Frame) (result : Byte) (data : List Byte) :
    (s.answered f result data).repliedLast f result data = true := by
  simp [State.repliedLast, State.answered]

section

variable {s t : State} (f : Frame) (result : Byte) (data : List Byte)

/-- A request that does no more than Line Control's operations leaves the tracking blocks alone when it is answered. -/
theorem State.LineOnly.sameTracking_answered (h : s.performing.LineOnly t) :
    State.sameTracking s (t.answered f result data) :=
  ⟨h.travel, h.eyes, h.matcher, h.folder⟩

theorem State.LineOnly.sameOuter_answered (h : s.performing.LineOnly t) :
    State.sameOuter s (t.answered f result data) :=
  ⟨h.pins, h.mgmt, h.freeIndex, h.pending, (congrArg RingPort.own h.port :)⟩

end

/-! ### The places of the batch list (R119) -/

section

variable {s : State} {i : Nat} {b : BatchEntry}

theorem State.batchAt_eq_some : s.batchAt i = some b ↔ s.batch.places[i]? = some (some b) := by
  unfold State.batchAt
  rcases s.batch.places[i]? with _ | _ | c <;> simp

/-- The current batch's place holds an OPEN entry. -/
theorem State.currentPlace_opened (h : s.currentPlace = some i) : ∃ b, s.batchAt i = some b ∧ b.state = .opened := by
  obtain ⟨hlt, hopen, _⟩ := List.findIdx?_eq_some_iff_getElem.mp h
  split at hopen
  next b hb => exact ⟨b, State.batchAt_eq_some.mpr (List.getElem?_eq_some_iff.mpr ⟨hlt, hb⟩), by simpa using hopen⟩
  next => exact absurd hopen (by simp)

/-- There is no current batch exactly where no place holds an OPEN entry. -/
theorem State.currentBatch_eq_none : s.currentBatch = none ↔ ∀ j c, s.batchAt j = some c → c.state ≠ .opened := by
  simp only [State.currentBatch, List.findSome?_eq_none_iff, State.batchAt_eq_some]
  constructor
  · intro h j c hc
    simpa using h (some c) (List.mem_of_getElem? hc)
  · intro h e he
    obtain ⟨j, hj⟩ := List.mem_iff_getElem?.mp he
    cases e with
    | none => rfl
    | some c => simpa using h j c hj

theorem State.currentBatch_of_noPlace (h : s.currentPlace = none) : s.currentBatch = none := by
  refine State.currentBatch_eq_none.mpr fun j c hc => ?_
  simpa using List.findIdx?_eq_none_iff.mp h (some c) (List.mem_of_getElem? (State.batchAt_eq_some.mp hc))

/-- At most one entry is OPEN, so replacing it by one that is not leaves none. -/
theorem State.noneOpened_replaced (hs : s.batchesSound = true) (hi : s.currentPlace = some i) {c : BatchEntry}
    (hc : c.state ≠ .opened) {j : Nat} {d : BatchEntry} (hd : (s.batch.places.set i (some c))[j]? = some (some d)) :
    d.state ≠ .opened := by
  obtain ⟨b, hb, hopen⟩ := State.currentPlace_opened hi
  obtain ⟨hlt, hget⟩ := List.getElem?_eq_some_iff.mp (State.batchAt_eq_some.mp hb)
  simp only [State.batchesSound, Bool.and_eq_true, decide_eq_true_eq] at hs
  obtain ⟨⟨-, hone⟩, -⟩ := hs
  have hzero : (s.batch.places.set i (some c)).countP
      (fun e => (e.map fun b => b.state) == some BatchState.opened) = 0 := by
    rw [List.countP_set hlt, hget]
    simp [hopen, hc]
    omega
  simpa using List.countP_eq_zero.mp hzero (some d) (List.mem_of_getElem? hd)

end

/-! ### The sending of tallies outside RUN (R131) -/

/-- A queued frame is a TALLY of this entry, with its closure cause. -/
def Queued.TallyOf (q : Queued) (b : BatchEntry) : Prop :=
  ∃ k : TallyReport, q.msg = .tally k ∧ k.batch = b.number ∧ k.cause = b.cause.getD .command

/-- From s to t tallies were sent and nothing else was set going: entries moved on to another slot or were freed, and
TALLY frames of entries in the send order joined the routine queue. -/
structure State.Sends (s t : State) : Prop where
  pieces : t.pieces = s.pieces
  faults : t.faults = s.faults
  feed : t.feed = s.feed
  line : t.line = s.line
  idle : t.batch.idle = s.batch.idle
  block : t.batch.block = s.batch.block
  order : t.batch.sendOrder ⊆ s.batch.sendOrder
  entries : ∀ j c, t.batchAt j = some c → ∃ b, s.batchAt j = some b ∧ c = { b with nextSlot := c.nextSlot }
  routine : ∃ new, t.port.routine = s.port.routine ++ new ∧
    ∀ q ∈ new, ∃ j ∈ s.batch.sendOrder, ∃ b, s.batchAt j = some b ∧ q.TallyOf b

theorem State.Sends.rfl' (s : State) : s.Sends s :=
  ⟨rfl, rfl, rfl, rfl, rfl, rfl, fun _ h => h, fun _ c h => ⟨c, h, rfl⟩, [], by simp, by simp⟩

theorem State.Sends.trans {s t u : State} (h : s.Sends t) (k : t.Sends u) : s.Sends u := by
  have hentries : ∀ j c, u.batchAt j = some c → ∃ b, s.batchAt j = some b ∧ c = { b with nextSlot := c.nextSlot } := by
    intro j c hc
    obtain ⟨m, hm, hcm⟩ := k.entries j c hc
    obtain ⟨b, hb, hmb⟩ := h.entries j m hm
    exact ⟨b, hb, by rw [hcm, hmb]⟩
  obtain ⟨first, hfirst, hof⟩ := h.routine
  obtain ⟨second, hsecond, hof'⟩ := k.routine
  refine ⟨k.pieces.trans h.pieces, k.faults.trans h.faults, k.feed.trans h.feed, k.line.trans h.line,
    k.idle.trans h.idle, k.block.trans h.block, fun _ hj => h.order (k.order hj), hentries, first ++ second, ?_,
    fun q hq => ?_⟩
  · rw [hsecond, hfirst, List.append_assoc]
  · rcases List.mem_append.mp hq with hq | hq
    · exact hof q hq
    · obtain ⟨j, hj, m, hm, r, hr, hnum, hcause⟩ := hof' q hq
      obtain ⟨b, hb, hmb⟩ := h.entries j m hm
      exact ⟨j, h.order hj, b, hb, r, hr, by rw [hnum, hmb], by rw [hcause, hmb]⟩

/-- An entry of the state after a place was rewritten is the one written or one that stood before. -/
theorem State.setPlace_entries {s : State} {i j : Nat} {e : Option BatchEntry} {c : BatchEntry}
    (h : (s.setPlace i e).batchAt j = some c) : (j = i ∧ e = some c) ∨ s.batchAt j = some c := by
  rw [State.batchAt_eq_some] at h
  change (s.batch.places.set i e)[j]? = _ at h
  rw [List.getElem?_set] at h
  split at h
  next hij =>
    split at h
    · exact .inl ⟨hij.symm, by simpa using h⟩
    · exact absurd h (by simp)
  next => exact .inr (State.batchAt_eq_some.mpr h)

theorem State.sendOne_sends {s : State} (hrun : s.line.state ≠ .run) : s.Sends s.sendOne := by
  unfold State.sendOne
  split
  next => exact .rfl' s
  next i rest horder =>
    split
    next =>
      exact ⟨rfl, rfl, rfl, rfl, rfl, rfl, List.tail_subset _, fun _ c h => ⟨c, h, rfl⟩, [], by simp [State.onBatch],
        by simp⟩
    next b hb =>
      have htally : ∀ q ∈ [({ dest := 0, msg := .tally b.report, suspect := false } : Queued)],
          ∃ j ∈ s.batch.sendOrder, ∃ b, s.batchAt j = some b ∧ q.TallyOf b := fun q hq =>
        ⟨i, by simp [horder], b, hb, b.report, by rw [List.mem_singleton.mp hq], rfl, rfl⟩
      dsimp only
      split
      next =>
        rw [State.freeEntry, State.choose_notRun _ (by exact hrun)]
        refine ⟨rfl, rfl, rfl, rfl, rfl, rfl, List.tail_subset _, fun j c hc => ?_, _, rfl, htally⟩
        rcases State.setPlace_entries (s := s) (e := none) hc with ⟨_, hno⟩ | hold
        · exact absurd hno (by simp)
        · exact ⟨c, hold, rfl⟩
      next =>
        refine ⟨rfl, rfl, rfl, rfl, rfl, rfl, fun _ h => h, fun j c hc => ?_, _, rfl, htally⟩
        rcases State.setPlace_entries (s := s) hc with ⟨rfl, hnew⟩ | hold
        · exact ⟨b, hb, by rw [← Option.some.inj hnew]⟩
        · exact ⟨c, hold, rfl⟩

theorem State.sendLoop_sends (n : Nat) : ∀ {s : State}, s.line.state ≠ .run → s.Sends (State.sendLoop n s) := by
  induction n with
  | zero => exact fun {s} _ => .rfl' s
  | succ n ih =>
    intro s hrun
    unfold State.sendLoop
    split
    · exact .rfl' s
    · have hone := State.sendOne_sends hrun
      exact hone.trans (ih (by rwa [hone.line]))

theorem State.sendTallies_sends {s : State} (hrun : s.line.state ≠ .run) : s.Sends s.sendTallies :=
  State.sendLoop_sends _ hrun

/-! ### The closure of the current batch outside RUN (R128 to R130) -/

/-- An entry as its closure leaves it before any TALLY: SENDING with no live piece, CLOSING otherwise (R129, R130). -/
def BatchEntry.closedWith (b : BatchEntry) (cause : ClosureCause) : BatchEntry :=
  if b.live = 0 then { b with state := .sending, cause := some cause, nextSlot := some (b.used.head?.getD 0) }
  else { b with state := .closing, cause := some cause }

/-- Between b and c the entry was closed with this cause, and is SENDING when it has no live piece. -/
def BatchEntry.ClosedTo (b c : BatchEntry) (cause : ClosureCause) : Prop :=
  c.number = b.number ∧ c.state ≠ .opened ∧ (c.live = 0 → c.state = .sending) ∧ c.cause = some cause

theorem BatchEntry.closedWith_closedTo (b : BatchEntry) (cause : ClosureCause) :
    b.ClosedTo (b.closedWith cause) cause := by
  unfold BatchEntry.closedWith
  split
  next => exact ⟨rfl, by simp, fun _ => rfl, rfl⟩
  next hlive => exact ⟨rfl, by simp, fun h => absurd h hlive, rfl⟩

/-- The state after the closure of the entry at a place outside RUN, before any TALLY (R125, R129, R130). -/
def State.closedAt (s : State) (i : Nat) (b : BatchEntry) (cause : ClosureCause) : State :=
  (s.onBatch fun q =>
    { q with
      places := q.places.set i (some (b.closedWith cause))
      idle := .stopped
      sendOrder := if b.live = 0 then q.sendOrder ++ [i] else q.sendOrder }).dropTails

section

variable {s : State} {i : Nat} {b : BatchEntry} {cause : ClosureCause}

theorem State.closedAt_batchAt (hb : s.batchAt i = some b) :
    (s.closedAt i b cause).batchAt i = some (b.closedWith cause) := by
  obtain ⟨hlt, -⟩ := List.getElem?_eq_some_iff.mp (State.batchAt_eq_some.mp hb)
  exact State.batchAt_eq_some.mpr (List.getElem?_set_self hlt)

/-- An entry closed with live pieces waits for them as CLOSING, and outside RUN nothing is granted (R99, R129). -/
theorem State.closeEntry_notRun (hrun : s.line.state ≠ .run) (hlive : b.live ≠ 0) :
    s.closeEntry i b cause = s.closedAt i b cause := by
  rw [State.closeEntry, State.evaluate_notRun _ (by exact hrun)]
  simp only [State.closedAt, BatchEntry.closedWith, if_neg hlive]
  rfl

/-- An entry closed with no live piece goes on to SENDING, and sends at once as the first of the send order. -/
theorem State.closeEntry_enterSending (hrun : s.line.state ≠ .run) (hb : s.batchAt i = some b) (hlive : b.live = 0) :
    (s.closeEntry i b cause).enterSending i =
      if s.batch.sendOrder = [] then (s.closedAt i b cause).sendTallies else s.closedAt i b cause := by
  obtain ⟨hlt, -⟩ := List.getElem?_eq_some_iff.mp (State.batchAt_eq_some.mp hb)
  rw [State.closeEntry, State.evaluate_notRun _ (by exact hrun), State.enterSending,
    State.batchAt_eq_some.mpr (List.getElem?_set_self hlt)]
  have hclosed : (((((s.setPlace i (some { b with state := .closing, cause := some cause })).onBatch
      fun q => { q with idle := .stopped }).dropTails).setPlace i (some { b with
        state := .sending, cause := some cause, nextSlot := some (b.used.head?.getD 0) })).onBatch
      fun q => { q with sendOrder := q.sendOrder ++ [i] }) = s.closedAt i b cause := by
    simp only [State.closedAt, BatchEntry.closedWith, if_pos hlive, State.setPlace, State.onBatch, State.dropTails,
      State.onFeed, List.set_set]
  simp only [← hclosed, ← List.isEmpty_iff]
  rfl

/-- A closure outside RUN grants nothing and chooses no batch: it closes the entry, and sends its tallies when it is
the first of the send order. -/
theorem State.closeCurrent_notRun (hrun : s.line.state ≠ .run) (hi : s.currentPlace = some i)
    (hb : s.batchAt i = some b) : s.closeCurrent cause =
      if b.live = 0 ∧ s.batch.sendOrder = [] then (s.closedAt i b cause).sendTallies else s.closedAt i b cause := by
  simp only [State.closeCurrent, hi, hb]
  by_cases hlive : b.live = 0
  · rw [if_pos hlive, State.choose_notRun, State.closeEntry_enterSending hrun hb hlive]
    · simp only [hlive, true_and]
    · rwa [(State.enterSending_lotsOnly _ _).line, (State.closeEntry_feedOnly _ _ _ _).line]
  · rw [if_neg hlive, State.choose_notRun, State.closeEntry_notRun hrun hlive]
    · simp only [hlive, false_and, if_false]
    · rwa [(State.closeEntry_feedOnly _ _ _ _).line]

theorem State.closeCurrent_sends (hrun : s.line.state ≠ .run) (hi : s.currentPlace = some i)
    (hb : s.batchAt i = some b) : (s.closedAt i b cause).Sends (s.closeCurrent cause) := by
  rw [State.closeCurrent_notRun hrun hi hb]
  split
  · exact State.sendTallies_sends hrun
  · exact .rfl' _

/-- The tallies that a closure sends at once are those of the entry it closes (R130, R131). -/
theorem State.closeCurrent_tallies (hrun : s.line.state ≠ .run) (hi : s.currentPlace = some i)
    (hb : s.batchAt i = some b) : ∃ new, (s.closeCurrent cause).port.routine = s.port.routine ++ new ∧
      ∀ q ∈ new, ∃ k : TallyReport, q.msg = .tally k ∧ k.cause = cause := by
  rw [State.closeCurrent_notRun hrun hi hb]
  split
  next hsend =>
    obtain ⟨hlive, hempty⟩ := hsend
    have horder : (s.closedAt i b cause).batch.sendOrder = [i] := by
      simp [State.closedAt, State.dropTails, hlive, hempty]
    obtain ⟨new, hnew, hof⟩ := (State.sendTallies_sends (s := s.closedAt i b cause) hrun).routine
    refine ⟨new, hnew, fun q hq => ?_⟩
    obtain ⟨j, hj, c, hc, k, hk, -, hcause⟩ := hof q hq
    obtain rfl : j = i := by simpa [horder] using hj
    obtain rfl : b.closedWith cause = c := Option.some.inj ((State.closedAt_batchAt hb).symm.trans hc)
    obtain ⟨-, -, -, hclosed⟩ := b.closedWith_closedTo cause
    exact ⟨k, hk, by rw [hcause, hclosed]; rfl⟩
  next => exact ⟨[], by rw [List.append_nil]; rfl, by simp⟩

/-- The entry that was current, while it stands after its closure, is closed with the cause. -/
theorem State.closeCurrent_entry (hrun : s.line.state ≠ .run) (hi : s.currentPlace = some i)
    (hb : s.batchAt i = some b) {c : BatchEntry} (hc : (s.closeCurrent cause).batchAt i = some c) :
    b.ClosedTo c cause := by
  obtain ⟨d, hd, hcd⟩ := (State.closeCurrent_sends hrun hi hb).entries i c hc
  obtain rfl : b.closedWith cause = d := Option.some.inj ((State.closedAt_batchAt hb).symm.trans hd)
  rw [hcd]
  exact b.closedWith_closedTo cause

end

/-- What a closure of the current batch outside RUN leaves and brings, whether there is a current batch or not. -/
structure State.ClosesIn (s t : State) (cause : ClosureCause) : Prop where
  pieces : t.pieces = s.pieces
  faults : t.faults = s.faults
  order : t.feed.order = s.feed.order
  condition : t.feed.condition = s.feed.condition
  runs : ∀ l, (t.lane l).run = (s.lane l).run
  block : t.batch.block = s.batch.block
  routine : ∃ new, t.port.routine = s.port.routine ++ new ∧
    ∀ q ∈ new, ∃ k : TallyReport, q.msg = .tally k ∧ k.cause = cause
  idle : s.currentPlace.isSome = true → t.batch.idle = .stopped
  entry : ∀ i b c, s.currentPlace = some i → s.batchAt i = some b → t.batchAt i = some c → b.ClosedTo c cause
  noneOpen : s.batchesSound = true → t.currentBatch = none

/-- The closure of R129 outside RUN, where no batch is chosen after it. -/
theorem State.closeCurrent_closesIn {s : State} (hrun : s.line.state ≠ .run) (cause : ClosureCause) :
    s.ClosesIn (s.closeCurrent cause) cause := by
  cases hi : s.currentPlace with
  | none =>
    rw [s.closeCurrent_none cause hi]
    exact ⟨rfl, rfl, rfl, rfl, fun _ => rfl, rfl, ⟨[], by simp, by simp⟩, by simp [hi], by simp [hi],
      fun _ => State.currentBatch_of_noPlace hi⟩
  | some i =>
    obtain ⟨b, hb, -⟩ := State.currentPlace_opened hi
    have hsends := State.closeCurrent_sends (cause := cause) hrun hi hb
    have hruns (l : Lane) : ((s.closeCurrent cause).lane l).run = (s.lane l).run := by
      rw [State.lane, hsends.feed]
      simp [State.closedAt, State.dropTails, State.lane]
    refine ⟨hsends.pieces, hsends.faults, by rw [hsends.feed]; rfl, by rw [hsends.feed]; rfl, hruns, hsends.block,
      State.closeCurrent_tallies hrun hi hb, fun _ => hsends.idle, fun j d c hj hd hc => ?_, fun hsound => ?_⟩
    · obtain rfl : i = j := Option.some.inj (hi.symm.trans hj)
      exact State.closeCurrent_entry hrun hi hd hc
    · refine State.currentBatch_eq_none.mpr fun j c hc => ?_
      obtain ⟨d, hd, hcd⟩ := hsends.entries j c hc
      obtain ⟨-, hclosed, -, -⟩ := b.closedWith_closedTo cause
      rw [hcd]
      exact State.noneOpened_replaced (d := d) hsound hi hclosed (State.batchAt_eq_some.mp hd)

/-! ### The entry to CONFIG (R117, R128, R153) -/

theorem State.inConfig_closesIn (s : State) (cause : ClosureCause) :
    s.inConfig.ClosesIn (s.enterConfig cause) cause := by
  rw [s.enterConfig_eq]
  exact State.closeCurrent_closesIn (by simp [State.inConfig]) cause

theorem State.enterConfig_line (s : State) (cause : ClosureCause) : (s.enterConfig cause).line =
    { state := .config, cause := none, tfault := false, owed := decide (s.freePlaces = 0) } := by
  rw [s.enterConfig_eq, (s.inConfig.closeCurrent_lotsOnly cause).line]
  rfl

/-- At the entry to CONFIG the lanes in READY go to IDLE and the others keep their run state (R117). -/
theorem State.enterConfig_run (s : State) (cause : ClosureCause) (l : Lane) : ((s.enterConfig cause).lane l).run =
    if (s.lane l).run = .ready then .idle else (s.lane l).run := by
  rw [(s.inConfig_closesIn cause).runs]
  simp only [State.lane, State.inConfig, PerLane.get_map]
  exact apply_ite LaneEntry.run _ _ _

/-- The entry to CONFIG removes no record and records no fault. -/
theorem State.enterConfig_blocks (s : State) (cause : ClosureCause) :
    (s.enterConfig cause).pieces = s.pieces ∧ (s.enterConfig cause).faults = s.faults :=
  have hcloses := s.inConfig_closesIn cause
  ⟨hcloses.pieces, hcloses.faults⟩

/-- The entry that was current, while it stands, is closed with the cause (R128, R129). -/
theorem State.enterConfig_entry {s : State} {cause : ClosureCause} {i : Nat} {b c : BatchEntry}
    (hi : s.currentPlace = some i) (hb : s.batchAt i = some b) (hc : (s.enterConfig cause).batchAt i = some c) :
    b.ClosedTo c cause :=
  (s.inConfig_closesIn cause).entry i b c hi hb hc

/-- What the entry to CONFIG queues: the LINE_STATE report where a place is free, and then tallies of the batch that it
closes (R128, R131, R149). -/
theorem State.enterConfig_routine (s : State) (cause : ClosureCause) : ∃ new,
    (s.enterConfig cause).port.routine = s.port.routine ++ new ∧
      (s.freePlaces ≠ 0 → { dest := 31, msg := .lineState .config none, suspect := false } ∈ new) ∧
      ∀ q ∈ new, ∀ k : TallyReport, q.msg = .tally k → k.cause = cause := by
  obtain ⟨tallies, htallies, hcause⟩ := (s.inConfig_closesIn cause).routine
  refine ⟨_, htallies.trans (List.append_assoc ..), fun hfree => by simp [hfree], fun q hq k hk => ?_⟩
  rcases List.mem_append.mp hq with hreport | htally
  · split at hreport
    · exact absurd hreport (by simp)
    · rw [List.mem_singleton.mp hreport] at hk
      exact absurd hk (by simp)
  · obtain ⟨k', hk', hcause'⟩ := hcause q htally
    obtain rfl : k' = k := by simpa using hk'.symm.trans hk
    exact hcause'

/-- From any state the line has entered CONFIG, with the cause of the closure (R117, R128 to R131, R153). -/
theorem State.enterConfig_entersConfig (s : State) (cause : ClosureCause) :
    State.entersConfig s (s.enterConfig cause) cause := by
  have hcloses := s.inConfig_closesIn cause
  obtain ⟨new, hnew, -, htally⟩ := s.enterConfig_routine cause
  refine ⟨by rw [s.enterConfig_line], by rw [s.enterConfig_line], by rw [s.enterConfig_line], hcloses.order,
    fun l => ?_, hcloses.condition, hcloses.block, fun hsound => ⟨hcloses.noneOpen hsound, new, hnew, ?_⟩⟩
  · rw [s.enterConfig_run]
    split
    · simp
    · assumption
  · intro i b hi hb
    exact ⟨hcloses.idle (Option.isSome_of_eq_some hi), fun c hc => hcloses.entry i b c hi hb hc,
      fun q hq k hk _ => htally q hq k hk⟩

/-- The REPLY that follows an entry to CONFIG made by a request is no TALLY. -/
theorem State.entersConfig_answered {s t : State} {cause : ClosureCause} (f : Frame) (result : Byte) (data : List Byte)
    (h : State.entersConfig s.performing t cause) : State.entersConfig s (t.answered f result data) cause := by
  obtain ⟨hstate, hnone, htfault, horder, hready, hhold, hblock, hbatch⟩ := h
  refine ⟨hstate, hnone, htfault, horder, hready, hhold, hblock, fun hsound => ?_⟩
  obtain ⟨hcurrent, new, hnew, hclosed⟩ := hbatch hsound
  refine ⟨hcurrent, new ++ [_], (congrArg (· ++ _) hnew).trans (List.append_assoc ..), fun i b hi hb => ?_⟩
  obtain ⟨hidle, hentry, htally⟩ := hclosed i b hi hb
  refine ⟨hidle, hentry, fun q hq k hk hnum => ?_⟩
  rcases List.mem_append.mp hq with hq | hreply
  · exact htally q hq k hk hnum
  · rw [List.mem_singleton.mp hreply] at hk
    exact absurd hk (by simp)

/-! ### RECOVER (R156) -/

section

variable {s : State} {e : Envelope}

theorem exec_recover {t : State} {result : Byte} (h : s.admitsRequest (commandFrame e 5 []) = true)
    (ht : s.performing.doRecover = t.answer 5 result) :
    exec (.recover e) s = .next (t.answered (commandFrame e 5 []) result [5]) := by
  have hlive : exec (.recover e) s = .next (s.receive (commandFrame e 5 [])) := by
    change s.live (fun u => u.receive (commandFrame e 5 [])) = _
    simp [State.live, State.admitsRequest_held h]
  have hanswer : s.performing.doCommand 5 [] = t.answer 5 result := ht
  rw [hlive, State.receive_command h, hanswer]
  rfl

theorem State.doRecover_taken (hstate : s.line.state = .suspect) (hempty : s.pieces.records = []) :
    s.doRecover = (s.enterConfig .restart).answer 5 resDone := by
  simp [State.doRecover, hstate, hempty]

theorem State.doRecover_notEmpty (hstate : s.line.state = .suspect) (hrecords : s.pieces.records ≠ []) :
    s.doRecover = s.answer 5 resNotEmpty := by
  simp [State.doRecover, hstate, hrecords]

theorem State.doRecover_notSuspect (hstate : s.line.state ≠ .suspect) : s.doRecover = s.answer 5 resRefusedMode :=
  if_pos hstate

end

/-- Settles O53, from the entry to CONFIG with a place reserved for the REPLY, and the two refusals. -/
theorem recoverTaken : Obligations.RecoverTaken := by
  refine ⟨?taken, ?notEmpty, ?notSuspect⟩
  case taken =>
    intro e s hadmit hstate hempty
    have hexec : exec (.recover e) s =
        .next ((s.performing.enterConfig .restart).answered (commandFrame e 5 []) 0 [5]) :=
      exec_recover hadmit (State.doRecover_taken (s := s.performing) hstate hempty)
    have hline := s.performing.enterConfig_line .restart
    have honly := s.performing.enterConfig_lineOnly .restart
    have hfree := s.performing_freePlaces
    have henters := State.entersConfig_answered (commandFrame e 5 []) 0 [5]
      (s.performing.enterConfig_entersConfig .restart)
    have ⟨hconfig, hcause, htfault, horder, _⟩ := henters
    obtain ⟨hpieces, hfaults⟩ := s.performing.enterConfig_blocks .restart
    obtain ⟨new, hnew, hreport, -⟩ := s.performing.enterConfig_routine .restart
    refine ⟨_, hexec, hconfig, hcause, htfault, fun hroom => ⟨?notOwed, ?queued⟩, fun hfull => ?owed, ?faults, ?pieces,
      horder, fun l => ?run, fun i c hi hc => ?closed, henters, ?exact, State.answered_repliedLast _ _ _ _,
      honly.sameTracking_answered _ _ _, honly.sameOuter_answered _ _ _⟩
    case notOwed => rw [State.answered_line, hline, decide_eq_false (by omega)]
    case owed => rw [State.answered_line, hline, decide_eq_true (by omega)]
    case faults =>
      rw [State.answered_faults]
      exact hfaults
    case pieces =>
      rw [State.answered_pieces]
      exact hpieces
    case run =>
      rw [State.answered_lane, State.enterConfig_run]
      rfl
    case queued =>
      have hmem := List.mem_append_right s.performing.port.routine (hreport (by omega))
      exact State.mem_answered_routine _ _ _ _ (hnew ▸ hmem)
    case closed =>
      rw [State.answered_batchAt] at hc
      obtain ⟨b, hb, -⟩ := State.currentPlace_opened hi
      obtain ⟨-, hopen, -, hcause⟩ := State.enterConfig_entry (s := s.performing) hi hb hc
      exact ⟨hopen, hcause⟩
    case exact =>
      exact congrArg (State.answered · (commandFrame e 5 []) 0 [5]) (s.performing.enterConfig_eq .restart)
  case notEmpty =>
    intro e s hadmit hstate hrecords
    rw [← State.performing_answered]
    exact exec_recover hadmit (State.doRecover_notEmpty (s := s.performing) hstate hrecords)
  case notSuspect =>
    intro e s hadmit hstate
    rw [← State.performing_answered]
    exact exec_recover hadmit (State.doRecover_notSuspect (s := s.performing) hstate)

end Sys2Proof.Machine

/-! SUPPORT. The moves of the Feed Sequencer, the Batch Counter and the Fault Monitor: the single changes that their
operations are made of, and what each operation comes to as a run of such moves. -/

namespace Sys2Proof.Machine

open Sys2Proof

/-! ### The places of the batch list (R119) -/

/-- The batch list's part of `State.batchesSound`: 8 places, at most one entry OPEN, no number held twice. -/
def placesSound (l : List (Option BatchEntry)) : Prop :=
  l.length = 8 ∧ (l.countP fun e => (e.map fun b => b.state) == some BatchState.opened) ≤ 1 ∧
    (l.filterMap fun e => e.map fun b => b.number).Nodup

theorem State.batchesSound_iff {s : State} : s.batchesSound = true ↔ placesSound s.batch.places := by
  simp only [State.batchesSound, placesSound, Bool.and_eq_true, decide_eq_true_eq, and_assoc]

section

variable {l : List (Option BatchEntry)} {i : Nat}

theorem filterMap_set_none_sublist {α β : Type} (f : Option α → Option β) (hf : f none = none) :
    ∀ (l : List (Option α)) (i : Nat), ((l.set i none).filterMap f).Sublist (l.filterMap f)
  | [], _ => by simp
  | x :: rest, 0 => by
    rw [List.set_cons_zero, List.filterMap_cons_none hf]
    cases hx : f x with
    | none => rw [List.filterMap_cons_none hx]
    | some y => rw [List.filterMap_cons_some hx]; exact List.sublist_cons_self _ _
  | x :: rest, i + 1 => by
    rw [List.set_cons_succ]
    have ih := filterMap_set_none_sublist f hf rest i
    cases hx : f x with
    | none => rw [List.filterMap_cons_none hx, List.filterMap_cons_none hx]; exact ih
    | some y => rw [List.filterMap_cons_some hx, List.filterMap_cons_some hx]; exact ih.cons_cons y

theorem filterMap_set_some_perm {α β : Type} (f : Option α → Option β) (hf : f none = none) {a : Option α} {b : β}
    (ha : f a = some b) :
    ∀ (l : List (Option α)) (i : Nat), l[i]? = some none → ((l.set i a).filterMap f).Perm (b :: l.filterMap f)
  | [], i => by simp
  | x :: rest, 0 => by
    intro h
    obtain rfl : x = none := by simpa using h
    rw [List.set_cons_zero, List.filterMap_cons_none hf, List.filterMap_cons_some ha]
  | x :: rest, i + 1 => by
    intro h
    have ih := filterMap_set_some_perm f hf ha rest i (by simpa using h)
    rw [List.set_cons_succ]
    cases hx : f x with
    | none => rw [List.filterMap_cons_none hx, List.filterMap_cons_none hx]; exact ih
    | some y =>
      rw [List.filterMap_cons_some hx, List.filterMap_cons_some hx]
      exact (ih.cons y).trans (List.Perm.swap b y _)

/-- An entry rewritten under its number, and not opened anew, leaves the list sound. -/
theorem placesSound_set_entry {b c : BatchEntry} (h : placesSound l) (hb : l[i]? = some (some b))
    (hnum : c.number = b.number) (hopen : c.state = .opened → b.state = .opened) : placesSound (l.set i (some c)) := by
  obtain ⟨hlen, hone, hnodup⟩ := h
  obtain ⟨hlt, hget⟩ := List.getElem?_eq_some_iff.mp hb
  refine ⟨by simpa using hlen, ?_, ?_⟩
  · rw [List.countP_set hlt, hget]
    have : (if ((some c).map fun b => b.state) == some BatchState.opened then 1 else 0) ≤
        if ((some b).map fun b => b.state) == some BatchState.opened then 1 else 0 := by
      by_cases hc : c.state = .opened
      · simp [hc, hopen hc]
      · simp [hc]
    have hpos : (if ((some b).map fun b => b.state) == some BatchState.opened then 1 else 0) ≤
        l.countP fun e => (e.map fun b => b.state) == some BatchState.opened := by
      split
      next hopened => exact List.countP_pos_iff.mpr ⟨some b, hget ▸ List.getElem_mem hlt, hopened⟩
      next => exact Nat.zero_le _
    omega
  · have hmap : (l.set i (some c)).map (fun e => e.map fun b => b.number) = l.map fun e => e.map fun b => b.number := by
      rw [List.map_set]
      apply List.ext_getElem (by simp)
      intro j hj _
      by_cases hij : i = j
      · subst hij
        simp [hget, hnum]
      · simp [hij]
    have hfilter (m : List (Option BatchEntry)) :
        (m.filterMap fun e => e.map fun b => b.number) = (m.map fun e => e.map fun b => b.number).filterMap id := by
      rw [List.filterMap_map]
      rfl
    rw [hfilter, hmap, ← hfilter]
    exact hnodup

/-- A place emptied leaves the list sound. -/
theorem placesSound_set_none (h : placesSound l) : placesSound (l.set i none) := by
  obtain ⟨hlen, hone, hnodup⟩ := h
  refine ⟨by simpa using hlen, ?_, hnodup.sublist (filterMap_set_none_sublist _ rfl l i)⟩
  by_cases hlt : i < l.length
  · rw [List.countP_set hlt]
    simp only [Option.map_none, beq_iff_eq, reduceCtorEq, if_false]
    omega
  · rw [List.set_eq_of_length_le (by omega)]
    exact hone

/-- A number that no entry holds opened at an empty place, with no entry OPEN, leaves the list sound (R123). -/
theorem placesSound_open {b : BatchEntry} (h : placesSound l) (hi : l[i]? = some none)
    (hnone : ∀ e ∈ l, ∀ c, e = some c → c.state ≠ .opened) (hfree : ∀ e ∈ l, ∀ c, e = some c → c.number ≠ b.number) :
    placesSound (l.set i (some b)) := by
  obtain ⟨hlen, -, hnodup⟩ := h
  obtain ⟨hlt, -⟩ := List.getElem?_eq_some_iff.mp hi
  refine ⟨by simpa using hlen, ?_, ?_⟩
  · have hzero : l.countP (fun e => (e.map fun b => b.state) == some BatchState.opened) = 0 := by
      refine List.countP_eq_zero.mpr fun e he hopen => ?_
      cases e with
      | none => simp at hopen
      | some c => exact hnone _ he c rfl (by simpa using hopen)
    rw [List.countP_set hlt, hzero, Nat.zero_sub, Nat.zero_add]
    split <;> omega
  · refine (filterMap_set_some_perm (fun e => e.map fun b => b.number) rfl (a := some b) rfl l i hi).nodup_iff.mpr (List.nodup_cons.mpr ⟨fun hmem => ?_, hnodup⟩)
    obtain ⟨e, he, hnum⟩ := List.mem_filterMap.mp hmem
    cases e with
    | none => simp at hnum
    | some c => exact hfree _ he c rfl (by simpa using hnum)

/-- Entries changed with their number and state kept leave the list sound. -/
theorem placesSound_map {f : BatchEntry → BatchEntry} (h : placesSound l)
    (hf : ∀ b, (f b).number = b.number ∧ (f b).state = b.state) : placesSound (l.map fun e => e.map f) := by
  obtain ⟨hlen, hone, hnodup⟩ := h
  refine ⟨by simpa using hlen, ?_, ?_⟩
  · rw [List.countP_map]
    simpa [Function.comp_def, hf] using hone
  · rw [List.filterMap_map]
    simpa [Function.comp_def, hf] using hnodup

end

/-! ### The fault list (R158) -/

theorem lowestSeverity_eq_or_mem (l : List FaultRecord) :
    lowestSeverity l = 3 ∨ ∃ r ∈ l, r.severity.number = lowestSeverity l := by
  have general : ∀ (l : List FaultRecord) (m : Nat), l.foldl (fun m r => min m r.severity.number) m = m ∨
      ∃ r ∈ l, r.severity.number = l.foldl (fun m r => min m r.severity.number) m := by
    intro l
    induction l with
    | nil => exact fun m => .inl rfl
    | cons r rest ih =>
      intro m
      rcases ih (min m r.severity.number) with hmin | ⟨q, hq, hnum⟩
      · rcases Nat.le_total m r.severity.number with hle | hle
        · exact .inl (hmin.trans (Nat.min_eq_left hle))
        · exact .inr ⟨r, by simp, (hmin.trans (Nat.min_eq_right hle)).symm⟩
      · exact .inr ⟨q, List.mem_cons_of_mem _ hq, hnum⟩
  exact general l 3

theorem dropOldest_length {v : Nat} : ∀ {l : List FaultRecord}, (∃ r ∈ l, r.severity.number = v) →
    (dropOldest v l).length + 1 = l.length
  | [], h => by simp at h
  | r :: rest, h => by
    unfold dropOldest
    split
    · rfl
    · next hne =>
      have hrest : ∃ q ∈ rest, q.severity.number = v := by simpa [hne] using h
      simp [dropOldest_length hrest]

theorem Severity.number_le (v : Severity) : v.number ≤ 3 := by
  cases v <;> decide

/-- A record put into a fault list within its bounds leaves it within them (R158). -/
theorem FaultMonitor.insert_bounded {m : FaultMonitor} (r : FaultRecord) (hlen : m.list.length ≤ 16)
    (hover : m.overflow ≤ 255) : (m.insert r).list.length ≤ 16 ∧ (m.insert r).overflow ≤ 255 := by
  unfold FaultMonitor.insert
  split
  next hroom => exact ⟨by rw [List.length_append]; exact hroom, hover⟩
  next =>
    split
    next hlow =>
      have hheld : ∃ q ∈ m.list, q.severity.number = lowestSeverity m.list := by
        rcases lowestSeverity_eq_or_mem m.list with hthree | hmem
        · have := r.severity.number_le
          omega
        · exact hmem
      have := dropOldest_length hheld
      simp only [List.length_append, List.length_singleton]
      omega
    next =>
      refine ⟨hlen, ?_⟩
      simp only [satSucc]
      split <;> omega

theorem State.faultsSound_iff {s : State} :
    s.faultsSound = true ↔ s.faults.list.length ≤ 16 ∧ s.faults.overflow ≤ 255 := by
  simp only [State.faultsSound, Bool.and_eq_true, decide_eq_true_eq]
  rfl

/-! ### The moves -/

/-- One change made by the Feed Sequencer, the Batch Counter or the Fault Monitor: the tails that are not live drop, a
lane is granted, the hold flag is tested, the batch list changes with or without the block (and the condition with it),
a routine frame takes a free place, or the fault list changes. -/
inductive State.LotMove : State → State → Prop where
  | dropTails (s : State) : LotMove s s.dropTails
  | grant (s : State) (l : Lane) (r : LaneRequest) (hrun : (s.lane l).run = .ready)
      (hrequest : (s.lane l).request = some r) (hqualifies : s.qualifies l r = true) (hroom : s.tableFull = false) :
      LotMove s (s.grant l r)
  | testHold (s : State) : LotMove s s.testHold
  | batch (s : State) (b : BatchCounter) (hblock : b.block = s.batch.block)
      (hsound : placesSound s.batch.places → placesSound b.places) : LotMove s { s with batch := b }
  | block (s : State) (b : BatchCounter) (hsound : placesSound s.batch.places → placesSound b.places) :
      LotMove s ({ s with batch := b } : State).refreshFeed
  | routine (s : State) (d : Byte) (m : Message) (hroom : s.freePlaces ≠ 0) : LotMove s (s.pushRoutine d m)
  | faults (s : State) (m : FaultMonitor) (hsound : s.faultsSound = true → ({ s with faults := m } : State).faultsSound = true) :
      LotMove s { s with faults := m }

/-- A run of such changes. -/
def State.LotMoves (s t : State) : Prop := Relation.ReflTransGen State.LotMove s t

theorem State.LotMoves.rfl' (s : State) : s.LotMoves s := Relation.ReflTransGen.refl

theorem State.LotMoves.trans {s t u : State} (h : s.LotMoves t) (k : t.LotMoves u) : s.LotMoves u :=
  Relation.ReflTransGen.trans h k

theorem State.LotMove.moves {s t : State} (h : s.LotMove t) : s.LotMoves t := Relation.ReflTransGen.single h

/-- What every single move keeps, a run of moves keeps. -/
theorem State.LotMoves.keeps {s t : State} {I : State → Prop} (h : s.LotMoves t)
    (hmove : ∀ {a b : State}, a.LotMove b → I a → I b) (hs : I s) : I t := by
  induction h with
  | refl => exact hs
  | tail _ hstep ih => exact hmove hstep ih

/-! ### The Fault Monitor -/

theorem State.onFaults_lotMoves {s : State} {f : FaultMonitor → FaultMonitor}
    (hf : (f s.faults).list = s.faults.list ∧ (f s.faults).overflow = s.faults.overflow) :
    s.LotMoves (s.onFaults f) := by
  refine State.LotMove.moves (.faults s (f s.faults) fun h => ?_)
  rw [State.faultsSound_iff] at h ⊢
  rwa [hf.1, hf.2]

theorem State.queueAlert_lotMoves (s : State) : s.LotMoves s.queueAlert := by
  unfold State.queueAlert
  split
  · exact .rfl' s
  · split
    · exact State.onFaults_lotMoves ⟨rfl, rfl⟩
    · next hroom => exact (State.LotMove.routine s _ _ hroom).moves.trans (State.onFaults_lotMoves ⟨rfl, rfl⟩)

theorem State.offerAlert_lotMoves (s : State) (r : FaultRecord) : s.LotMoves (s.offerAlert r) := by
  unfold State.offerAlert
  split
  · exact .rfl' s
  · split
    · exact State.LotMoves.trans (State.onFaults_lotMoves ⟨rfl, rfl⟩) (State.queueAlert_lotMoves _)
    · exact State.onFaults_lotMoves ⟨rfl, rfl⟩
    · exact State.onFaults_lotMoves ⟨rfl, rfl⟩

theorem State.logFault_lotMoves (s : State) (f : Raised) : s.LotMoves (s.logFault f) := by
  refine State.LotMoves.trans (State.LotMove.faults s (s.faults.insert (s.faultRecord f)) fun h => ?_).moves
    (State.offerAlert_lotMoves _ _)
  rw [State.faultsSound_iff] at h ⊢
  exact FaultMonitor.insert_bounded _ h.1 h.2

/-! ### The Feed Sequencer -/

theorem State.tryLane_lotMoves (s : State) (l : Lane) : s.LotMoves (s.tryLane l) := by
  unfold State.tryLane
  split
  next r hrun hrequest =>
    split
    next hqualifies =>
      by_cases hfull : s.tableFull = true
      · rw [State.grant, if_pos hfull]
        exact .rfl' s
      · exact (State.LotMove.grant s l r hrun hrequest hqualifies (by simpa using hfull)).moves
    next => exact .rfl' s
  next => exact .rfl' s

theorem State.evaluate_lotMoves (s : State) : s.LotMoves s.evaluate :=
  (State.LotMove.dropTails s).moves.trans
    (foldl_keeps State.LotMoves.rfl' State.LotMoves.trans State.tryLane_lotMoves _ _)

theorem State.retestHold_lotMoves (s : State) : s.LotMoves s.retestHold := by
  unfold State.retestHold
  split
  · exact (State.LotMove.testHold s).moves.trans (State.evaluate_lotMoves _)
  · exact (State.LotMove.testHold s).moves

/-! ### The Batch Counter -/

theorem State.onBatch_lotMoves {s : State} {f : BatchCounter → BatchCounter}
    (hf : (f s.batch).places = s.batch.places ∧ (f s.batch).block = s.batch.block) : s.LotMoves (s.onBatch f) :=
  (State.LotMove.batch s (f s.batch) hf.2 fun h => by rwa [hf.1]).moves

theorem State.clearBlock_lotMoves (s : State) : s.LotMoves s.clearBlock := by
  unfold State.clearBlock
  split
  · exact .rfl' s
  · exact (State.LotMove.block s { s.batch with block := none } id).moves

theorem State.setBlock_lotMoves (s : State) (c : BlockCause) (l : Lane) : s.LotMoves (s.setBlock c l) := by
  unfold State.setBlock
  split
  · exact .rfl' s
  · have hset : s.LotMoves (s.onBatch fun q => { q with block := some c }).refreshFeed :=
      (State.LotMove.block s { s.batch with block := some c } id).moves
    split
    · exact hset
    · exact hset.trans (State.logFault_lotMoves _ _)

theorem State.emptyPlace_get {s : State} {i : Nat} (h : s.emptyPlace = some i) : s.batch.places[i]? = some none := by
  obtain ⟨hlt, hnone, -⟩ := List.findIdx?_eq_some_iff_getElem.mp h
  exact List.getElem?_eq_some_iff.mpr ⟨hlt, Option.isNone_iff_eq_none.mp hnone⟩

theorem State.placeOf_none {s : State} {n : Half} (h : s.placeOf n = none) :
    ∀ e ∈ s.batch.places, ∀ c : BatchEntry, e = some c → c.number ≠ n := by
  rintro e he c rfl
  simpa using List.findIdx?_eq_none_iff.mp h _ he

theorem State.currentPlace_none {s : State} (h : s.currentPlace = none) :
    ∀ e ∈ s.batch.places, ∀ c : BatchEntry, e = some c → c.state ≠ .opened := by
  rintro e he c rfl
  simpa using List.findIdx?_eq_none_iff.mp h _ he

theorem State.openBatch_lotMoves {s : State} {i : Nat} {n : Half} (hcurrent : s.currentPlace = none)
    (hfree : s.placeOf n = none) (hi : s.emptyPlace = some i) : s.LotMoves (s.openBatch i n) := by
  have hopen : s.LotMoves ((s.setPlace i (some (BatchEntry.fresh n))).onBatch fun q =>
      { q with idle := .running 0 false, block := none }).refreshFeed :=
    (State.LotMove.block s { s.batch with places := s.batch.places.set i (some (BatchEntry.fresh n)),
                                          idle := .running 0 false, block := none } fun h =>
      placesSound_open h (State.emptyPlace_get hi) (State.currentPlace_none hcurrent) (State.placeOf_none hfree)).moves
  exact hopen.trans (State.evaluate_lotMoves _)

theorem State.choose_lotMoves (s : State) : s.LotMoves s.choose := by
  unfold State.choose
  split
  next => exact .rfl' s
  next hchoice =>
    split
    next => exact s.clearBlock_lotMoves
    next =>
      split
      next => exact .rfl' s
      next r _ =>
        split
        next => exact s.setBlock_lotMoves _ _
        next hheld =>
          split
          next i hi =>
            refine State.openBatch_lotMoves ?_ ?_ hi
            · exact Option.not_isSome_iff_eq_none.mp fun h => hchoice (.inr h)
            · exact Option.not_isSome_iff_eq_none.mp hheld
          next => exact s.setBlock_lotMoves _ _

theorem State.orderChanged_lotMoves (s : State) : s.LotMoves s.orderChanged := by
  unfold State.orderChanged
  split
  · exact s.clearBlock_lotMoves.trans (State.choose_lotMoves _)
  · exact s.choose_lotMoves

theorem State.setPlace_lotMoves {s : State} {i : Nat} {b c : BatchEntry} (hb : s.batchAt i = some b)
    (hnum : c.number = b.number) (hopen : c.state = .opened → b.state = .opened) : s.LotMoves (s.setPlace i (some c)) :=
  (State.LotMove.batch s { s.batch with places := s.batch.places.set i (some c) } rfl fun h =>
    placesSound_set_entry h (State.batchAt_eq_some.mp hb) hnum hopen).moves

theorem State.freeEntry_lotMoves (s : State) (i : Nat) : s.LotMoves (s.freeEntry i) := by
  have hfree : s.LotMoves (s.setPlace i none) :=
    (State.LotMove.batch s { s.batch with places := s.batch.places.set i none } rfl placesSound_set_none).moves
  exact (hfree.trans (State.onBatch_lotMoves ⟨rfl, rfl⟩)).trans (State.choose_lotMoves _)

theorem State.sendOne_lotMoves {s : State} (hroom : s.freePlaces ≠ 0) : s.LotMoves s.sendOne := by
  unfold State.sendOne
  split
  next => exact .rfl' s
  next i _ _ =>
    split
    next => exact State.onBatch_lotMoves ⟨rfl, rfl⟩
    next b hb =>
      have hpush := (State.LotMove.routine s 0 (.tally b.report) hroom).moves
      dsimp only
      split
      · exact hpush.trans (State.freeEntry_lotMoves _ _)
      · exact hpush.trans (State.setPlace_lotMoves (b := b) hb rfl id)

theorem State.sendLoop_lotMoves (n : Nat) : ∀ s : State, s.LotMoves (State.sendLoop n s) := by
  induction n with
  | zero => exact State.LotMoves.rfl'
  | succ n ih =>
    intro s
    unfold State.sendLoop
    split
    next => exact .rfl' s
    next hgo => exact (State.sendOne_lotMoves fun h => hgo (.inr h)).trans (ih _)

theorem State.sendTallies_lotMoves (s : State) : s.LotMoves s.sendTallies := State.sendLoop_lotMoves _ s

theorem State.enterSending_lotMoves (s : State) (i : Nat) : s.LotMoves (s.enterSending i) := by
  unfold State.enterSending
  split
  next => exact .rfl' s
  next b hb =>
    have hmoved := State.setPlace_lotMoves (s := s) (i := i) (b := b)
      (c := { b with state := .sending, nextSlot := some (b.used.head?.getD 0) }) hb rfl (by simp)
    dsimp only
    split
    · exact (hmoved.trans (State.onBatch_lotMoves ⟨rfl, rfl⟩)).trans (State.sendTallies_lotMoves _)
    · exact hmoved.trans (State.onBatch_lotMoves ⟨rfl, rfl⟩)

theorem BatchEntry.count_keeps (b : BatchEntry) (code : Byte) (k : CountName) :
    (b.count code k).number = b.number ∧ (b.count code k).state = b.state ∧ (b.count code k).live = b.live ∧
      (b.count code k).cause = b.cause ∧ (b.count code k).nextSlot = b.nextSlot := by
  unfold BatchEntry.count
  split <;> exact ⟨rfl, rfl, rfl, rfl, rfl⟩

/-- An entry after the report of a removal: one live piece fewer, and the tally of R122 (R121, R122). -/
def BatchEntry.afterRemoval (b : BatchEntry) (article : Byte) (doubt : Bool) (o : Removal) : BatchEntry :=
  match tallyOf o doubt with
  | some k => { b with live := b.live - 1 }.count article k
  | none => { b with live := b.live - 1 }

theorem BatchEntry.afterRemoval_keeps (b : BatchEntry) (article : Byte) (doubt : Bool) (o : Removal) :
    (b.afterRemoval article doubt o).number = b.number ∧ (b.afterRemoval article doubt o).state = b.state ∧
      (b.afterRemoval article doubt o).live = b.live - 1 ∧ (b.afterRemoval article doubt o).cause = b.cause ∧
      (b.afterRemoval article doubt o).nextSlot = b.nextSlot := by
  unfold BatchEntry.afterRemoval
  split
  · exact BatchEntry.count_keeps _ _ _
  · exact ⟨rfl, rfl, rfl, rfl, rfl⟩

/-- The report of a removal from a batch whose entry stands at a place (R121, R122, R130). -/
theorem State.batchRemoved_eq {s : State} {n : Half} {i : Nat} {b : BatchEntry} (article : Byte) (doubt : Bool)
    (o : Removal) (hi : s.placeOf n = some i) (hb : s.batchAt i = some b) : s.batchRemoved n article doubt o =
      if b.state = .closing ∧ b.live - 1 = 0 then
        (s.setPlace i (some (b.afterRemoval article doubt o))).enterSending i
      else s.setPlace i (some (b.afterRemoval article doubt o)) := by
  obtain ⟨-, hstate, hlive, -⟩ := b.afterRemoval_keeps article doubt o
  simp only [State.batchRemoved, hi, hb]
  change (if (b.afterRemoval article doubt o).state = .closing ∧ (b.afterRemoval article doubt o).live = 0 then
    (s.setPlace i (some (b.afterRemoval article doubt o))).enterSending i
    else s.setPlace i (some (b.afterRemoval article doubt o))) = _
  rw [hlive, hstate]

theorem State.batchRemoved_lotMoves (s : State) (n : Half) (a : Byte) (d : Bool) (o : Removal) :
    s.LotMoves (s.batchRemoved n a d o) := by
  cases hi : s.placeOf n with
  | none => rw [State.batchRemoved, hi]; exact .rfl' s
  | some i =>
    cases hb : s.batchAt i with
    | none => simp only [State.batchRemoved, hi, hb]; exact .rfl' s
    | some b =>
      rw [State.batchRemoved_eq a d o hi hb]
      obtain ⟨hnum, hstate, -⟩ := b.afterRemoval_keeps a d o
      have hset := State.setPlace_lotMoves hb hnum (fun h => hstate ▸ h)
      split
      · exact hset.trans (State.enterSending_lotMoves _ _)
      · exact hset

theorem State.closeEntry_lotMoves {s : State} {i : Nat} {b : BatchEntry} (hb : s.batchAt i = some b) (c : ClosureCause) :
    s.LotMoves (s.closeEntry i b c) :=
  ((State.setPlace_lotMoves (c := { b with state := .closing, cause := some c }) hb rfl (by simp)).trans
    (State.onBatch_lotMoves ⟨rfl, rfl⟩)).trans (State.evaluate_lotMoves _)

theorem State.closeCurrent_lotMoves (s : State) (c : ClosureCause) : s.LotMoves (s.closeCurrent c) := by
  unfold State.closeCurrent
  split
  next => exact .rfl' s
  next i _ =>
    split
    next => exact .rfl' s
    next b hb =>
      dsimp only
      split
      · exact ((State.closeEntry_lotMoves hb c).trans (State.enterSending_lotMoves _ _)).trans (State.choose_lotMoves _)
      · exact (State.closeEntry_lotMoves hb c).trans (State.choose_lotMoves _)

theorem State.batchReady_lotMoves (s : State) (n : Half) : s.LotMoves (s.batchReady n) := by
  unfold State.batchReady
  split
  · exact State.onBatch_lotMoves ⟨rfl, rfl⟩
  · exact .rfl' s

end Sys2Proof.Machine

/-! SUPPORT. The moves of the whole part: the single changes, each with what it keeps, that every command but the
requests' changes of the line state and the restarts is made of. -/

namespace Sys2Proof.Machine

open Sys2Proof

/-! ### What is kept of one block -/

/-- The Ring Port's buffers and queues keep within their places, a reserved place counted (R172, R173, R175, R177). -/
def RingPort.Holds (p : RingPort) : Prop :=
  p.transit.length ≤ 2 ∧ p.ownList.length ≤ 32 ∧ p.routine.length + (if p.reserved then 1 else 0) ≤ 16 ∧ p.receiving = []

/-- The Travel Unit's part of `State.travelSound` (R2, R4, R12). -/
def TravelUnit.Bounded (u : TravelUnit) : Prop := u.history.length ≤ 16 ∧ u.remainder < 1024 ∧ u.syncCount < 100

/-- The repeat-fault table keeps within its places, with no key twice (R35). -/
def EyeFilter.Bounded (q : EyeFilter) : Prop := q.repeats.length ≤ 8 ∧ q.repeats.Nodup

/-- At most 128 records, no two with one piece number (R38). -/
def PieceTable.Bounded (t : PieceTable) : Prop :=
  t.records.length ≤ 128 ∧ (t.records.map fun r => r.number).Nodup

/-- The counter and every piece number lie in 1..65535 (R39, R43). -/
def PieceTable.Numbered (t : PieceTable) : Prop := t.counter ≠ 0 ∧ ∀ r ∈ t.records, r.number ≠ 0

/-- Every record has doubt. -/
def PieceTable.Doubted (t : PieceTable) : Prop := ∀ r ∈ t.records, r.doubt = true

/-- A lane holds a request exactly in READY (R94). -/
def FeedSequencer.Requesting (q : FeedSequencer) : Prop :=
  ∀ l, (q.lanes.get l).request.isSome = true ↔ (q.lanes.get l).run = .ready

/-- The request order lists the lanes in READY, each once, and no other (R95). -/
def FeedSequencer.Ordered (q : FeedSequencer) : Prop :=
  q.order.Nodup ∧ ∀ l, l ∈ q.order ↔ (q.lanes.get l).run = .ready

theorem forall_allLanes {P : Lane → Prop} : (∀ l ∈ allLanes, P l) ↔ ∀ l, P l :=
  ⟨fun h l => h l (by cases l <;> simp [allLanes]), fun h l _ => h l⟩

theorem State.recordsSound_iff {s : State} : s.recordsSound = true ↔ s.pieces.Bounded := by
  simp only [State.recordsSound, Bool.and_eq_true, decide_eq_true_eq]
  rfl

theorem State.numbersSound_iff {s : State} : s.numbersSound = true ↔ s.pieces.Numbered := by
  simp [State.numbersSound, PieceTable.Numbered]

theorem State.doubtSound_iff {s : State} : s.doubtSound = true ↔ (s.line.state = .suspect → s.pieces.Doubted) := by
  simp only [State.doubtSound, PieceTable.Doubted, Bool.or_eq_true, bne_iff_ne, List.all_eq_true, ← imp_iff_not_or]

theorem State.requestsSound_iff {s : State} : s.requestsSound = true ↔ s.feed.Requesting := by
  have hiff (l : Lane) : ((s.lane l).request.isSome == ((s.lane l).run == .ready)) = true ↔
      ((s.lane l).request.isSome = true ↔ (s.lane l).run = .ready) := by
    rw [beq_iff_eq, Bool.eq_iff_iff, beq_iff_eq]
  simp only [State.requestsSound, List.all_eq_true, hiff, forall_allLanes]
  rfl

theorem State.orderSound_iff {s : State} : s.orderSound = true ↔ s.feed.Ordered := by
  have hiff (l : Lane) : (s.feed.order.contains l == ((s.lane l).run == .ready)) = true ↔
      (l ∈ s.feed.order ↔ (s.lane l).run = .ready) := by
    rw [beq_iff_eq, Bool.eq_iff_iff, beq_iff_eq, List.contains_iff_mem]
  simp only [State.orderSound, Bool.and_eq_true, decide_eq_true_eq, List.all_eq_true, hiff, forall_allLanes]
  rfl

theorem State.travelSound_iff {s : State} : s.travelSound = true ↔ s.travel.Bounded := by
  simp only [State.travelSound, Bool.and_eq_true, decide_eq_true_eq, and_assoc]
  rfl

theorem State.repeatsSound_iff {s : State} : s.repeatsSound = true ↔ s.eyes.Bounded := by
  simp only [State.repeatsSound, Bool.and_eq_true, decide_eq_true_eq]
  rfl

theorem State.portSound_iff {s : State} : s.portSound = true ↔ s.port.Holds ∧ s.port.reserved = false := by
  simp only [State.portSound, Bool.and_eq_true, decide_eq_true_eq, Bool.not_eq_true', List.isEmpty_iff,
    RingPort.Holds]
  constructor
  · rintro ⟨⟨⟨⟨h1, h2⟩, h3⟩, h4⟩, h5⟩
    exact ⟨⟨h1, h2, by simpa [h4] using (show _ ≤ 16 from h3), h5⟩, h4⟩
  · rintro ⟨⟨h1, h2, h3, h5⟩, h4⟩
    exact ⟨⟨⟨⟨h1, h2⟩, show _ ≤ 16 by simpa [h4] using h3⟩, h4⟩, h5⟩

/-- A routine frame takes a free place within the bounds of the queue (R175). -/
theorem RingPort.Holds.push {s : State} (h : s.port.Holds) (hroom : s.freePlaces ≠ 0) (q : Queued) :
    ({ s.port with routine := s.port.routine ++ [q] } : RingPort).Holds := by
  obtain ⟨h1, h2, h3, h4⟩ := h
  refine ⟨h1, h2, ?_, h4⟩
  simp only [State.freePlaces, Config.routineCapacity] at hroom
  simp only [List.length_append, List.length_singleton]
  omega

/-! ### Moves -/

/-- One change of the part: one of the Feed Sequencer, the Batch Counter or the Fault Monitor, a change of one block that
keeps what is to be kept of it, a change of the hold reasons with the condition refreshed, or a change of the line state
that needs no request. -/
inductive State.Move : State → State → Prop where
  | lots {s t : State} (h : s.LotMove t) : Move s t
  | port (s : State) (p : RingPort) (hown : p.own = s.port.own) (hreserved : p.reserved = s.port.reserved)
      (hholds : s.port.Holds → p.Holds) : Move s { s with port := p }
  | travel (s : State) (u : TravelUnit) (hbounded : s.travel.Bounded → u.Bounded) : Move s { s with travel := u }
  | eyes (s : State) (q : EyeFilter) (hbounded : s.eyes.Bounded → q.Bounded) : Move s { s with eyes := q }
  | other (s : State) (p : Pins) (m : Matcher) (f : FolderHandoff) (g : Management) (i : Nat) :
      Move s { s with pins := p, matcher := m, folder := f, mgmt := g, freeIndex := i }
  | pieces (s : State) (t : PieceTable) (hbounded : s.pieces.Bounded → t.Bounded)
      (hnumbered : s.pieces.Numbered → t.Numbered)
      (hdoubted : s.line.state ≠ .run → s.pieces.Doubted → t.Doubted) : Move s { s with pieces := t }
  | feed (s : State) (q : FeedSequencer) (hhold : q.hold = s.feed.hold) (hfhold : q.fhold = s.feed.fhold)
      (hcondition : q.condition = s.feed.condition) (hrequesting : s.feed.Requesting → q.Requesting)
      (hordered : s.feed.Ordered → q.Ordered) : Move s { s with feed := q }
  | refresh (s : State) (q : FeedSequencer) (hlanes : q.lanes = s.feed.lanes) (horder : q.order = s.feed.order) :
      Move s ({ s with feed := q } : State).refreshFeed
  | owed (s : State) (b : Bool) : Move s { s with line := { s.line with owed := b } }
  | toConfig (s : State) (hstate : s.line.state = .draining) (hempty : s.pieces.records = []) :
      Move s (s.enterLine .config none)
  | toSuspect (s : State) (c : FaultCode) (hstate : s.line.state ≠ .suspect) :
      Move s (s.enterLine .suspect (some c)).doubtAll

/-- A run of moves. -/
def State.Moves (s t : State) : Prop := Relation.ReflTransGen State.Move s t

theorem State.Moves.rfl' (s : State) : s.Moves s := Relation.ReflTransGen.refl

theorem State.Moves.trans {s t u : State} (h : s.Moves t) (k : t.Moves u) : s.Moves u :=
  Relation.ReflTransGen.trans h k

theorem State.Move.moves {s t : State} (h : s.Move t) : s.Moves t := Relation.ReflTransGen.single h

/-- What every single move keeps, a run of moves keeps. -/
theorem State.Moves.keeps {s t : State} {I : State → Prop} (h : s.Moves t)
    (hmove : ∀ {a b : State}, a.Move b → I a → I b) (hs : I s) : I t := by
  induction h with
  | refl => exact hs
  | tail _ hstep ih => exact hmove hstep ih

theorem State.LotMoves.moves {s t : State} (h : s.LotMoves t) : s.Moves t := by
  induction h with
  | refl => exact .rfl' s
  | tail _ hstep ih => exact ih.trans (State.Move.lots hstep).moves

/-! ### Single blocks -/

theorem State.onPort_moves {s : State} {f : RingPort → RingPort} (hown : (f s.port).own = s.port.own)
    (hreserved : (f s.port).reserved = s.port.reserved) (hholds : s.port.Holds → (f s.port).Holds) :
    s.Moves (s.onPort f) := (State.Move.port s (f s.port) hown hreserved hholds).moves

/-- A change of the urgent queue. -/
theorem State.onUrgent_moves (s : State) (f : List Queued → List Queued) :
    s.Moves (s.onPort fun p => { p with urgent := f p.urgent }) := State.onPort_moves rfl rfl id

theorem State.onTravel_moves {s : State} {f : TravelUnit → TravelUnit}
    (hbounded : s.travel.Bounded → (f s.travel).Bounded) : s.Moves (s.onTravel f) :=
  (State.Move.travel s (f s.travel) hbounded).moves

theorem State.onEyes_moves {s : State} {f : EyeFilter → EyeFilter} (hbounded : s.eyes.Bounded → (f s.eyes).Bounded) :
    s.Moves (s.onEyes f) := (State.Move.eyes s (f s.eyes) hbounded).moves

theorem State.onMatcher_moves (s : State) (f : Matcher → Matcher) : s.Moves (s.onMatcher f) :=
  (State.Move.other s s.pins (f s.matcher) s.folder s.mgmt s.freeIndex).moves

theorem State.onFolder_moves (s : State) (f : FolderHandoff → FolderHandoff) : s.Moves (s.onFolder f) :=
  (State.Move.other s s.pins s.matcher (f s.folder) s.mgmt s.freeIndex).moves

theorem State.onMgmt_moves (s : State) (f : Management → Management) : s.Moves (s.onMgmt f) :=
  (State.Move.other s s.pins s.matcher s.folder (f s.mgmt) s.freeIndex).moves

/-- A change of the Feed Sequencer that leaves every lane's run state and request and the request order. -/
theorem State.onFeed_moves {s : State} {f : FeedSequencer → FeedSequencer} (hhold : (f s.feed).hold = s.feed.hold)
    (hfhold : (f s.feed).fhold = s.feed.fhold) (hcondition : (f s.feed).condition = s.feed.condition)
    (hlanes : ∀ l, ((f s.feed).lanes.get l).run = (s.feed.lanes.get l).run ∧
      ((f s.feed).lanes.get l).request = (s.feed.lanes.get l).request)
    (horder : (f s.feed).order = s.feed.order) : s.Moves (s.onFeed f) := by
  refine (State.Move.feed s (f s.feed) hhold hfhold hcondition (fun h l => ?_) fun h => ⟨?_, fun l => ?_⟩).moves
  · rw [(hlanes l).1, (hlanes l).2]
    exact h l
  · rw [horder]
    exact h.1
  · rw [horder, (hlanes l).1]
    exact h.2 l

/-! ### Lanes and the request order (R94, R95) -/

section

variable {q : FeedSequencer} {l : Lane}

/-- A lane whose entry is replaced. -/
theorem FeedSequencer.lanes_set_get (q : FeedSequencer) (l : Lane) (e : LaneEntry) (k : Lane) :
    (q.lanes.set l e).get k = if k = l then e else q.lanes.get k := by
  split
  next h => subst h; exact PerLane.get_set_self _ _ _
  next h => exact PerLane.get_set_other _ _ h

theorem FeedSequencer.Requesting.set (h : q.Requesting) {e : LaneEntry} (he : e.request.isSome = true ↔ e.run = .ready)
    (order : List Lane) : ({ q with lanes := q.lanes.set l e, order := order } : FeedSequencer).Requesting := by
  intro k
  show (((q.lanes.set l e).get k).request.isSome = true ↔ ((q.lanes.set l e).get k).run = .ready)
  rw [q.lanes_set_get]
  split
  · exact he
  · exact h k

/-- A lane that leaves READY, or is in it no more, leaves the order. -/
theorem FeedSequencer.Ordered.leave (h : q.Ordered) {e : LaneEntry} (he : e.run ≠ .ready) :
    ({ q with lanes := q.lanes.set l e, order := q.order.filter (· != l) } : FeedSequencer).Ordered := by
  refine ⟨h.1.filter _, fun k => ?_⟩
  show (k ∈ q.order.filter (· != l) ↔ ((q.lanes.set l e).get k).run = .ready)
  rw [q.lanes_set_get, List.mem_filter, bne_iff_ne]
  split
  next hk => simp [hk, he]
  next hk => simp [hk, h.2 k]

/-- A lane in READY that joins the order where it is not stands in it once. -/
theorem FeedSequencer.Ordered.join (h : q.Ordered) {e : LaneEntry} (he : e.run = .ready) {order : List Lane}
    (hperm : order.Perm (l :: q.order.filter (· != l))) :
    ({ q with lanes := q.lanes.set l e, order := order } : FeedSequencer).Ordered := by
  refine ⟨hperm.nodup_iff.mpr (List.nodup_cons.mpr ⟨by simp, h.1.filter _⟩), fun k => ?_⟩
  show (k ∈ order ↔ ((q.lanes.set l e).get k).run = .ready)
  rw [q.lanes_set_get, hperm.mem_iff, List.mem_cons, List.mem_filter, bne_iff_ne]
  split
  next hk => simp [hk, he]
  next hk => simp [hk, h.2 k]

end

/-- A change of a lane that leaves its run state and its request. -/
theorem State.onLane_moves {s : State} {l : Lane} {f : LaneEntry → LaneEntry}
    (hf : (f (s.lane l)).run = (s.lane l).run ∧ (f (s.lane l)).request = (s.lane l).request) :
    s.Moves (s.onLane l f) := by
  refine State.onFeed_moves rfl rfl rfl (fun k => ?_) rfl
  rw [s.feed.lanes_set_get]
  split
  next hk => subst hk; exact hf
  next => exact ⟨rfl, rfl⟩

theorem State.restLane_moves (s : State) (l : Lane) {run : LaneRun} (hrun : run ≠ .ready) :
    s.Moves (s.restLane l run) :=
  (State.Move.feed s { s.feed with
      lanes := s.feed.lanes.set l { s.feed.lanes.get l with run := run, request := none }
      order := s.feed.order.filter (· != l) } rfl rfl rfl
    (fun h => h.set (by simp [hrun]) _) (fun h => h.leave (by simpa using hrun))).moves

/-- A lane brought to READY with a request, at the back of the order (R95, R97). -/
theorem State.readyBack_moves (s : State) (l : Lane) (r : LaneRequest) :
    s.Moves ((s.onLane l fun e => { e with run := .ready, request := some r }).joinBack l) :=
  (State.Move.feed s { s.feed with
      lanes := s.feed.lanes.set l { s.feed.lanes.get l with run := .ready, request := some r }
      order := s.feed.order.filter (· != l) ++ [l] } rfl rfl rfl
    (fun h => h.set (by simp) _) (fun h => h.join rfl (List.perm_append_singleton _ _))).moves

/-- A lane brought back to READY with its record's request, at the front of the order (R95, R112). -/
theorem State.readyFront_moves (s : State) (r : Piece) : s.Moves ((s.laneBack r).joinFront r.lane) :=
  (State.Move.feed s { s.feed with
      lanes := s.feed.lanes.set r.lane { s.feed.lanes.get r.lane with run := .ready, request := some r.request }
      order := r.lane :: s.feed.order.filter (· != r.lane) } rfl rfl rfl
    (fun h => h.set (by simp) _) (fun h => h.join rfl (.refl _))).moves

theorem State.dropRequests_moves (s : State) : s.Moves s.dropRequests := by
  refine (State.Move.feed s { s.feed with
      lanes := s.feed.lanes.map fun e => if e.run = .ready then { e with run := .idle, request := none } else e
      order := [] } rfl rfl rfl (fun h l => ?_) fun _ => ⟨List.nodup_nil, fun l => ?_⟩).moves
  · simp only [PerLane.get_map]
    split
    · simp
    · exact h l
  · simp only [PerLane.get_map, List.not_mem_nil, false_iff]
    split
    · simp
    · assumption

theorem State.laneToIdle_moves (s : State) (l : Lane) : s.Moves (s.laneToIdle l) :=
  (s.restLane_moves l (by decide)).trans (State.evaluate_lotMoves _).moves

/-! ### Records (R38 to R45) -/

theorem nextNumber_iterate_inj {n : Half} (hn : n ≠ 0) {j k : Nat} (hj : j < 65535) (hk : k < 65535)
    (h : nextNumber^[j] n = nextNumber^[k] n) : j = k := by
  have hnat := congrArg BitVec.toNat h
  rw [nextNumber_iterate_toNat n j hn, nextNumber_iterate_toNat n k hn] at hnat
  have := n.isLt
  omega

/-- From the counter on no number comes twice in 65535 steps, whatever the counter. -/
theorem nextNumber_iterate_nodup (n : Half) (k : Nat) (hk : k ≤ 65535) :
    ((List.range k).map fun j => nextNumber^[j] n).Nodup := by
  refine List.Nodup.map_on (fun i hi j hj h => ?_) List.nodup_range
  rw [List.mem_range] at hi hj
  by_cases hn : n = 0
  · subst hn
    have hone : nextNumber 0 = 1 := by decide
    have hback (m : Nat) : nextNumber^[m] (1 : Half) ≠ 0 := fun h0 => by
      have := nextNumber_iterate_toNat 1 m (by decide)
      rw [h0] at this
      simp at this
    rcases i with _ | i <;> rcases j with _ | j
    · rfl
    · rw [Function.iterate_succ_apply, hone] at h
      exact absurd h.symm (hback j)
    · rw [Function.iterate_succ_apply, hone] at h
      exact absurd h (hback i)
    · rw [Function.iterate_succ_apply, Function.iterate_succ_apply, hone] at h
      rw [nextNumber_iterate_inj (by decide) (by omega) (by omega) h]
  · exact nextNumber_iterate_inj hn (by omega) (by omega) h

theorem State.tableFull_eq_false {s : State} : s.tableFull = false ↔ s.pieces.records.length < 128 :=
  decide_eq_false_iff_not.trans Nat.not_le

/-- With room in the table the number of the next creation is one that no record holds (R43). -/
theorem State.newNumber_free {s : State} (hroom : s.tableFull = false) :
    ∀ r ∈ s.pieces.records, r.number ≠ s.newNumber := by
  refine freeNumber_free _ _ _ ?_
  by_contra hall
  push Not at hall
  have hlen := State.tableFull_eq_false.mp hroom
  have hsub : (List.range (s.pieces.records.length + 1)).map (fun j => nextNumber^[j] s.pieces.counter) ⊆
      s.pieces.records.map fun r => r.number := by
    intro n hn
    obtain ⟨j, hj, rfl⟩ := List.mem_map.mp hn
    obtain ⟨r, hr, hnum⟩ := hall j (List.mem_range.mp hj)
    exact List.mem_map.mpr ⟨r, hr, hnum⟩
  have hle := ((nextNumber_iterate_nodup s.pieces.counter (s.pieces.records.length + 1) (by omega)).subperm
    hsub).length_le
  simp at hle

theorem freeNumber_ne_zero (records : List Piece) :
    ∀ (fuel : Nat) {n : Half}, n ≠ 0 → freeNumber records fuel n ≠ 0 := by
  intro fuel
  induction fuel with
  | zero => exact fun h => h
  | succ fuel ih =>
    intro n h
    unfold freeNumber
    split
    · exact ih (nextNumber_ne_zero n)
    · exact h

/-- A record created under the next number, with doubt where the line is SUSPECT. -/
theorem State.addRecord_moves {s : State} {r : Piece} (hroom : s.tableFull = false) (hnum : r.number = s.newNumber)
    (hdoubt : s.line.state ≠ .run → r.doubt = true) : s.Moves (s.addRecord r) := by
  refine (State.Move.pieces s { s.pieces with records := insertRecord r s.pieces.records, counter := nextNumber r.number }
    (fun h => ⟨?_, ?_⟩) (fun h => ⟨nextNumber_ne_zero _, fun q hq => ?_⟩) (fun hs h q hq => ?_)).moves
  · rw [insertRecord_length]
    exact State.tableFull_eq_false.mp hroom
  · refine ((insertRecord_perm r _).map _).nodup_iff.mpr (List.nodup_cons.mpr ⟨fun hmem => ?_, h.2⟩)
    obtain ⟨q, hq, heq⟩ := List.mem_map.mp hmem
    exact State.newNumber_free hroom q hq (heq.trans hnum)
  · rcases mem_insertRecord.mp hq with rfl | hq
    · rw [hnum]
      exact freeNumber_ne_zero _ _ h.1
    · exact h.2 q hq
  · rcases mem_insertRecord.mp hq with rfl | hq
    · exact hdoubt hs
    · exact h q hq

/-- Records changed with their number kept and no doubt mark cleared. -/
theorem State.mapRecords_moves (s : State) {f : Piece → Piece} (hnum : ∀ q, (f q).number = q.number)
    (hdoubt : ∀ q, q.doubt = true → (f q).doubt = true) :
    s.Moves (s.onPieces fun t => { t with records := t.records.map f }) := by
  refine (State.Move.pieces s { s.pieces with records := s.pieces.records.map f } (fun h => ⟨by simpa using h.1, ?_⟩)
    (fun h => ⟨h.1, fun q hq => ?_⟩) (fun _ h q hq => ?_)).moves
  · have hcomp : (fun r : Piece => r.number) ∘ f = fun r => r.number := funext hnum
    rw [List.map_map, hcomp]
    exact h.2
  · obtain ⟨r, hr, rfl⟩ := List.mem_map.mp hq
    rw [hnum]
    exact h.2 r hr
  · obtain ⟨r, hr, rfl⟩ := List.mem_map.mp hq
    exact hdoubt r (h r hr)

theorem State.onPiece_moves (s : State) (n : Half) {f : Piece → Piece}
    (hnum : ∀ q, (f q).number = q.number := by exact fun _ => rfl)
    (hdoubt : ∀ q, q.doubt = true → (f q).doubt = true := by simp) : s.Moves (s.onPiece n f) := by
  refine s.mapRecords_moves (fun q => ?_) (fun q h => ?_)
  · split
    · exact hnum q
    · rfl
  · split
    · exact hdoubt q h
    · exact h

theorem State.doubtAll_moves (s : State) : s.Moves s.doubtAll := s.mapRecords_moves (fun _ => rfl) fun _ _ => rfl

/-- The totals of a removal are all that it counts. -/
theorem PieceTable.countRemoval_keeps (t : PieceTable) (o : Removal) :
    (t.countRemoval o).records = t.records ∧ (t.countRemoval o).counter = t.counter ∧
      (t.countRemoval o).granted = t.granted := by
  cases o <;> exact ⟨rfl, rfl, rfl⟩

theorem State.takeOut_records (s : State) (r : Piece) (o : Removal) :
    (s.takeOut r o).pieces.records = s.pieces.records.filter fun q => q.number != r.number :=
  (PieceTable.countRemoval_keeps _ o).1

theorem State.takeOut_moves (s : State) (r : Piece) (o : Removal) : s.Moves (s.takeOut r o) := by
  obtain ⟨hrec, hcounter, -⟩ :=
    PieceTable.countRemoval_keeps { s.pieces with records := s.pieces.records.filter fun q => q.number != r.number } o
  refine (State.Move.pieces s _ (fun h => ⟨?_, ?_⟩) (fun h => ⟨hcounter ▸ h.1, fun q hq => ?_⟩)
    fun _ h q hq => ?_).moves
  · rw [hrec]
    exact (List.length_filter_le _ _).trans h.1
  · rw [hrec]
    exact h.2.sublist ((List.filter_sublist).map _)
  · rw [hrec] at hq
    exact h.2 q (List.mem_of_mem_filter hq)
  · rw [hrec] at hq
    exact h q (List.mem_of_mem_filter hq)

/-! ### Line Control and removal -/

theorem State.queueLineState_moves (s : State) : s.Moves s.queueLineState := by
  unfold State.queueLineState
  split
  next h => exact (State.LotMove.routine s _ _ h.2).moves.moves.trans (State.Move.owed _ false).moves
  next => exact .rfl' s

theorem State.enterConfig_moves {s : State} (c : ClosureCause) (hstate : s.line.state = .draining)
    (hempty : s.pieces.records = []) : s.Moves (s.enterConfig c) :=
  (((State.Move.toConfig s hstate hempty).moves.trans (State.dropRequests_moves _)).trans
    (State.orderChanged_lotMoves _).moves).trans (State.closeCurrent_lotMoves _ c).moves

/-- What a lane returned by a removal comes to; the cancellations place their lanes together (R95, R117). -/
theorem State.laneAfterRemoval_moves (s : State) (r : Piece) {o : Removal} (ho : o ≠ .cancelled) :
    s.Moves (s.laneAfterRemoval r o) := by
  cases o
  case releaseMissed => exact s.laneToIdle_moves _
  case purged => exact s.laneToIdle_moves _
  case laneAbsent => exact s.restLane_moves _ (by decide)
  case grantBusy => exact (s.readyFront_moves r).trans (State.orderChanged_lotMoves _).moves
  case cancelled => exact absurd rfl ho
  all_goals exact .rfl' s

theorem State.reportRemoval_moves (s : State) (r : Piece) (o : Removal) : s.Moves (s.reportRemoval r o) := by
  unfold State.reportRemoval
  split
  · exact .rfl' s
  · exact ((State.batchRemoved_lotMoves _ _ _ _ _).moves.trans
      (State.onFeed_moves rfl rfl rfl (fun _ => ⟨rfl, rfl⟩) rfl)).trans (State.retestHold_lotMoves _).moves

theorem State.tableEmptied_moves (s : State) : s.Moves s.tableEmptied := by
  unfold State.tableEmptied
  split
  next h =>
    simp only [Bool.and_eq_true, List.isEmpty_iff, beq_iff_eq] at h
    exact State.enterConfig_moves _ h.2 h.1
  next => exact .rfl' s

theorem State.withdrawRemoved_moves (s : State) (r : Piece) (o : Removal) : s.Moves (s.withdrawRemoved r o) := by
  unfold State.withdrawRemoved
  split
  · exact s.onUrgent_moves _
  · exact .rfl' s

theorem State.removePiece_moves (s : State) (n : Half) {o : Removal} (ho : o ≠ .cancelled) :
    s.Moves (s.removePiece n o) := by
  unfold State.removePiece
  split
  next => exact .rfl' s
  next r _ =>
    have hout := ((s.withdrawRemoved_moves r o).trans (State.takeOut_moves _ r o)).trans
      (State.reportRemoval_moves _ r o)
    dsimp only
    refine State.Moves.trans ?_ (State.tableEmptied_moves _)
    split
    · exact hout.trans (State.laneAfterRemoval_moves _ _ ho)
    · exact hout

/-- A cancelled record is removed as any other, but for the return of its lane. -/
theorem State.removePiece_cancelled (s : State) (n : Half) : ∃ t : State, s.Moves t ∧
    (s.removePiece n .cancelled = t ∨ ∃ r, s.removePiece n .cancelled = (t.laneBack r).tableEmptied) := by
  unfold State.removePiece
  split
  next => exact ⟨s, .rfl' s, .inl rfl⟩
  next r _ =>
    have hout := ((s.withdrawRemoved_moves r .cancelled).trans (State.takeOut_moves _ r .cancelled)).trans
      (State.reportRemoval_moves _ r .cancelled)
    dsimp only
    split
    · exact ⟨_, hout, .inr ⟨r, rfl⟩⟩
    · exact ⟨_, hout.trans (State.tableEmptied_moves _), .inl rfl⟩

/-- What every move keeps, and every return of a lane, the cancellations keep (R117). -/
theorem State.cancelGrants_keeps {I : State → Prop} (hmove : ∀ {a b : State}, a.Move b → I a → I b)
    (hback : ∀ (a : State) (r : Piece), I a → I (a.laneBack r)) (hfront : ∀ (a : State) (l : Lane), I a → I (a.joinFront l))
    {s : State} (hs : I s) : I s.cancelGrants := by
  have hremove (u : State) (n : Half) (h : I u) : I (u.removePiece n .cancelled) := by
    obtain ⟨t, ht, heq | ⟨r, heq⟩⟩ := u.removePiece_cancelled n
    · exact heq ▸ ht.keeps hmove h
    · exact heq ▸ (State.tableEmptied_moves _).keeps hmove (hback _ r (ht.keeps hmove h))
  have hreturn (u : State) (lanes : List Lane) (h : I u) : I (u.returnLanes lanes) := by
    unfold State.returnLanes
    induction lanes.filter fun l => (u.lane l).run == .ready with
    | nil => exact h
    | cons l rest ih => exact hfront _ l ih
  refine (State.orderChanged_lotMoves _).moves.keeps hmove (hreturn _ _ ?_)
  exact foldl_keeps (R := fun a b => I a → I b) (fun _ h => h) (fun h k hs => k (h hs)) hremove _ _
    ((s.onUrgent_moves _).keeps hmove hs)

/-- A move, or the cancellation of the grants that wait, which only as a whole keeps the request order (R117). -/
def State.MoveOrCancel (s t : State) : Prop := s.Move t ∨ (s.line.state = .suspect ∧ t = s.cancelGrants)

/-- A run of moves and cancellations. -/
def State.Reaches (s t : State) : Prop := Relation.ReflTransGen State.MoveOrCancel s t

theorem State.Reaches.rfl' (s : State) : s.Reaches s := Relation.ReflTransGen.refl

theorem State.Reaches.trans {s t u : State} (h : s.Reaches t) (k : t.Reaches u) : s.Reaches u :=
  Relation.ReflTransGen.trans h k

/-- What every move keeps, and every cancellation, such a run keeps. -/
theorem State.Reaches.keeps {s t : State} {I : State → Prop} (h : s.Reaches t)
    (hmove : ∀ {a b : State}, a.Move b → I a → I b)
    (hcancel : ∀ a : State, a.line.state = .suspect → I a → I a.cancelGrants) (hs : I s) : I t := by
  induction h with
  | refl => exact hs
  | tail _ hstep ih =>
    rcases hstep with hstep | ⟨hsuspect, rfl⟩
    · exact hmove hstep ih
    · exact hcancel _ hsuspect ih

theorem State.Moves.reaches {s t : State} (h : s.Moves t) : s.Reaches t := by
  induction h with
  | refl => exact .rfl' s
  | tail _ hstep ih => exact ih.trans (Relation.ReflTransGen.single (.inl hstep))

theorem State.LotMoves.reaches {s t : State} (h : s.LotMoves t) : s.Reaches t := h.moves.reaches

end Sys2Proof.Machine

/-! SUPPORT. What the operations of the tracking blocks come to as runs of moves: faults with the entry to SUSPECT, the
Folder Hand-off, the Checkpoint Matcher, the Eye Filter, the Travel Unit and the requests of the lanes. -/

namespace Sys2Proof.Machine

open Sys2Proof

/-! ### Faults and the entry to SUSPECT -/

theorem State.oweLineState_line (s : State) : s.oweLineState.line.state = s.line.state ∧
    s.oweLineState.line.cause = s.line.cause ∧ s.oweLineState.line.tfault = s.line.tfault := by
  unfold State.oweLineState State.queueLineState
  split <;> exact ⟨rfl, rfl, rfl⟩

theorem State.enterLine_line (s : State) (l : LineState) (c : Option FaultCode) : (s.enterLine l c).line.state = l ∧
    (s.enterLine l c).line.cause = c ∧ (s.enterLine l c).line.tfault = (l == .suspect) := by
  rw [State.enterLine, (State.refreshFeed_feedOnly _).line]
  exact State.oweLineState_line _

theorem State.enterSuspect_reaches {s : State} (c : FaultCode) (hstate : s.line.state ≠ .suspect) :
    s.Reaches (s.enterSuspect c) := by
  have hsuspect : (s.enterLine .suspect (some c)).doubtAll.line.state = .suspect := (s.enterLine_line _ _).1
  have hcancel : State.Reaches (s.enterLine .suspect (some c)).doubtAll
      (s.enterLine .suspect (some c)).doubtAll.cancelGrants := Relation.ReflTransGen.single (.inr ⟨hsuspect, rfl⟩)
  exact ((State.Move.toSuspect s c hstate).moves.reaches.trans hcancel).trans
    (State.onUrgent_moves _ fun l => l.map fun q => if q.ticketPiece.isSome then { q with suspect := true } else q).reaches

theorem State.recordFault_reaches (s : State) (f : Raised) : s.Reaches (s.recordFault f) := by
  unfold State.recordFault
  split
  next h =>
    exact (s.logFault_lotMoves f).reaches.trans
      (State.enterSuspect_reaches _ (by rw [(s.logFault_lotsOnly f).line]; exact h.2))
  next => exact (s.logFault_lotMoves f).reaches

theorem State.onPiece_reaches (s : State) (n : Half) {f : Piece → Piece}
    (hnum : ∀ q, (f q).number = q.number := by exact fun _ => rfl)
    (hdoubt : ∀ q, q.doubt = true → (f q).doubt = true := by simp) : s.Reaches (s.onPiece n f) :=
  (s.onPiece_moves n hnum hdoubt).reaches

theorem State.doubtWith_reaches (s : State) (n : Half) (f : Raised) : s.Reaches (s.doubtWith n f) := by
  unfold State.doubtWith
  split
  · exact .rfl' s
  · split
    · exact .rfl' s
    · exact (s.onPiece_reaches n).trans (State.recordFault_reaches _ _)

theorem State.logRepeating_reaches (s : State) (k : RepeatKey) (f : Raised) : s.Reaches (s.logRepeating k f) := by
  unfold State.logRepeating
  split
  next => exact .rfl' s
  next hnew =>
    split
    next hroom =>
      refine State.Reaches.trans (State.onEyes_moves fun h => ⟨?_, ?_⟩).reaches (State.logFault_lotMoves _ f).reaches
      · simpa using Nat.succ_le_of_lt (show _ < 8 from hroom)
      · exact List.nodup_append.mpr ⟨h.2, List.nodup_singleton k, by
          intro a ha b hb
          rw [List.mem_singleton.mp hb]
          rintro rfl
          exact hnew (List.contains_iff_mem.mpr ha)⟩
    next => exact (s.logFault_lotMoves f).reaches

/-! ### Requests of the lanes and returns of grants -/

theorem State.acceptReady_moves (s : State) (l : Lane) (r : LaneRequest) : s.Moves (s.acceptReady l r) :=
  (((s.readyBack_moves l r).trans (State.orderChanged_lotMoves _).moves).trans
    (State.batchReady_lotMoves _ _).moves).trans (State.evaluate_lotMoves _).moves

theorem State.dropRequest_moves (s : State) (l : Lane) : s.Moves (s.dropRequest l) :=
  (s.restLane_moves l (by simp)).trans (State.orderChanged_lotMoves _).moves

theorem State.takeReady_reaches (s : State) (lane span article : Byte) (batch : Half) :
    s.Reaches (s.takeReady lane span article batch) := by
  have hready (l : Lane) : s.Reaches (s.readyFor l span article batch) := by
    unfold State.readyFor
    split
    · exact .rfl' s
    · exact (State.onLane_moves ⟨rfl, rfl⟩).reaches
    · split
      · exact (s.acceptReady_moves _ _).reaches
      · exact s.recordFault_reaches _
    · split
      · exact (s.acceptReady_moves _ _).reaches
      · exact (s.dropRequest_moves _).reaches.trans (State.recordFault_reaches _ _)
  unfold State.takeReady
  split
  · exact .rfl' s
  · split
    · exact .rfl' s
    · split
      · exact .rfl' s
      · exact hready _

theorem State.takeWithdraw_reaches (s : State) (lane : Byte) : s.Reaches (s.takeWithdraw lane) := by
  unfold State.takeWithdraw
  split
  · exact .rfl' s
  · split
    · exact (s.dropRequest_moves _).reaches
    · exact s.recordFault_reaches _
    · exact .rfl' s
    · exact .rfl' s

theorem State.removePiece_reaches (s : State) (n : Half) {o : Removal} (ho : o ≠ .cancelled) :
    s.Reaches (s.removePiece n o) := (s.removePiece_moves n ho).reaches

theorem State.grantReturned_reaches (s : State) (marks : Byte) (n : Half) : s.Reaches (s.grantReturned marks n) := by
  unfold State.grantReturned
  split
  · exact .rfl' s
  · split
    · split
      · exact (s.removePiece_reaches _ (by simp)).trans (State.recordFault_reaches _ _)
      · exact s.recordFault_reaches _
    · split
      · exact .rfl' s
      · split
        · exact (s.removePiece_reaches _ (by simp)).trans (State.recordFault_reaches _ _)
        · exact s.recordFault_reaches _

/-! ### The Folder Hand-off -/

theorem State.onChannel_moves (s : State) (c : Lane) (f : Channel → Channel) : s.Moves (s.onChannel c f) :=
  s.onFolder_moves _

theorem State.assignSlot_moves (s : State) (c : Lane) (n : SlotName) (r : Piece) : s.Moves (s.assignSlot c n r) :=
  ((s.onChannel_moves _ _).trans (State.onPiece_moves _ _)).trans
    (State.onUrgent_moves _ fun l => l ++ [_])

theorem State.servePending_moves (s : State) (c : Lane) (n : SlotName) : s.Moves (s.servePending c n) := by
  unfold State.servePending
  split
  · exact .rfl' s
  · exact s.assignSlot_moves _ _ _

theorem State.handOver_moves (s : State) (n : Half) : s.Moves (s.handOver n) := by
  unfold State.handOver
  split
  · exact .rfl' s
  · dsimp only
    split
    · exact s.assignSlot_moves _ _ _
    · split
      · exact s.assignSlot_moves _ _ _
      · exact s.onPiece_moves _

theorem State.testDeadline_reaches (s : State) (r : Piece) : s.Reaches (s.testDeadline r) := by
  unfold State.testDeadline
  split
  · split
    · exact ((s.recordFault_reaches _).trans (State.onPiece_reaches _ _)).trans
        (State.removePiece_reaches _ _ (by simp))
    · exact .rfl' s
  · exact .rfl' s

theorem State.testDeadlines_reaches (s : State) (before : List Piece) : s.Reaches (s.testDeadlines before) :=
  foldl_keeps State.Reaches.rfl' State.Reaches.trans
    (fun _ _ => foldl_keeps State.Reaches.rfl' State.Reaches.trans State.testDeadline_reaches _ _) _ s

theorem State.ticketReturned_reaches (s : State) (marks : Byte) (c : Lane) (n : SlotName) (p : Half) :
    s.Reaches (s.ticketReturned marks c n p) := by
  unfold State.ticketReturned
  split
  · exact .rfl' s
  · split
    · exact s.onPiece_reaches _
    · exact ((((s.recordFault_reaches _).trans (State.onChannel_moves _ _ _).reaches).trans
        (State.onPiece_reaches _ _)).trans (State.removePiece_reaches _ _ (by simp))).trans
        (State.servePending_moves _ _ _).reaches

theorem State.noteMismatch_reaches (s : State) (c : Lane) (o k : Half) : s.Reaches (s.noteMismatch c o k) := by
  unfold State.noteMismatch
  split
  · exact .rfl' s
  · exact s.recordFault_reaches _

theorem State.noteJam_reaches (s : State) (c : Lane) (n : Half) (o : Removal) : s.Reaches (s.noteJam c n o) := by
  unfold State.noteJam
  split
  · exact s.recordFault_reaches _
  · exact .rfl' s

/-- The folder's outcomes are three, and no cancellation. -/
theorem folderOutcome_ne_cancelled {b : Byte} {o : Removal} (h : folderOutcome b = some o) : o ≠ .cancelled := by
  unfold folderOutcome at h
  split at h <;> simp_all <;> subst h <;> decide

theorem State.slotFreed_reaches (s : State) (channel slot : Byte) (p : Half) (outcome : Byte) :
    s.Reaches (s.slotFreed channel slot p outcome) := by
  unfold State.slotFreed
  split
  next c n o _ _ ho =>
    split
    next => exact s.recordFault_reaches _
    next owner _ =>
      have hnoted := (s.noteMismatch_reaches c owner p).trans (State.noteJam_reaches _ c owner o)
      have hfreed := (hnoted.trans (State.onUrgent_moves _ fun l => l.filter fun q => q.ticketPiece != some owner).reaches).trans
        (State.onChannel_moves _ c fun q => q.setOwner n none).reaches
      exact (hfreed.trans (State.removePiece_reaches _ owner (folderOutcome_ne_cancelled ho))).trans
        (State.servePending_moves _ c n).reaches
  next => exact .rfl' s

/-! ### The Checkpoint Matcher -/

theorem State.settleStale_reaches (s : State) (n : Half) (t : Transition) : s.Reaches (s.settleStale n t) := by
  unfold State.settleStale
  split
  · exact s.doubtWith_reaches _ _
  · exact .rfl' s

theorem State.settleAmbiguity_reaches (s : State) (n : Half) (b : Bool) (t : Transition) :
    s.Reaches (s.settleAmbiguity n b t) := by
  unfold State.settleAmbiguity
  split
  · exact s.doubtWith_reaches _ _
  · exact .rfl' s

theorem State.updateTails_moves (s : State) (r : Piece) (t : Pos) : s.Moves (s.updateTails r t) := by
  unfold State.updateTails
  split
  · refine State.onLane_moves ?_
    split
    · exact ⟨rfl, rfl⟩
    · split <;> exact ⟨rfl, rfl⟩
  · exact foldl_keeps State.Moves.rfl' State.Moves.trans (fun _ _ => State.onLane_moves ⟨rfl, rfl⟩) _ s

theorem Piece.withReason_keeps (r : Piece) (x : RejectReason) :
    (r.withReason x).number = r.number ∧ (r.withReason x).doubt = r.doubt := by
  unfold Piece.withReason
  split <;> exact ⟨rfl, rfl⟩

theorem State.lengthCheck_reaches (s : State) (r : Piece) (len : Int) (t : Pos) : s.Reaches (s.lengthCheck r len t) := by
  have hreason (x : RejectReason) (f : Raised) :
      s.Reaches ((s.onPiece r.number fun q => q.withReason x).recordFault f) :=
    (s.onPiece_reaches _ (fun q => (q.withReason_keeps x).1) fun q h => (q.withReason_keeps x).2.trans h).trans
      (State.recordFault_reaches _ f)
  unfold State.lengthCheck
  split
  · exact .rfl' s
  · split
    · exact hreason _ _
    · split
      · exact hreason _ _
      · exact .rfl' s

theorem State.finalTrail_reaches (s : State) (r : Piece) (t : Pos) : s.Reaches (s.finalTrail r t) :=
  ((s.onPiece_reaches _).trans (State.lengthCheck_reaches _ _ _ _)).trans
    (State.updateTails_moves _ _ _).reaches

theorem State.testClearing_reaches (s : State) (n : Half) : s.Reaches (s.testClearing n) := by
  unfold State.testClearing
  split
  · exact .rfl' s
  · split
    · exact .rfl' s
    · split
      · exact .rfl' s
      · split
        · exact s.finalTrail_reaches _ _
        · exact .rfl' s

theorem State.testLimit_reaches (s : State) (n : Half) : s.Reaches (s.testLimit n) := by
  unfold State.testLimit
  split
  · exact .rfl' s
  · split
    · dsimp only
      split
      · exact (s.onPiece_reaches _).trans (State.finalTrail_reaches _ _ _)
      · split
        · exact s.finalTrail_reaches _ _
        · exact .rfl' s
    · exact .rfl' s

theorem State.learnSlip_moves (s : State) (n : Half) : s.Moves (s.learnSlip n) := by
  unfold State.learnSlip
  split
  · exact .rfl' s
  · split
    · exact .rfl' s
    · split
      · exact s.onMatcher_moves _
      · exact .rfl' s

/-- What the three matches have in common: the lead written, and the doubts of R20 and R70 settled. -/
theorem State.settle_reaches (s : State) (n : Half) {f : Piece → Piece} (several : Bool) (t : Transition)
    (hnum : ∀ q, (f q).number = q.number := by exact fun _ => rfl)
    (hdoubt : ∀ q, q.doubt = true → (f q).doubt = true := by simp) :
    s.Reaches (((s.onPiece n f).settleAmbiguity n several t).settleStale n t) :=
  ((s.onPiece_reaches n hnum hdoubt).trans (State.settleAmbiguity_reaches _ _ _ _)).trans
    (State.settleStale_reaches _ _ _)

theorem State.matchTo_reaches (s : State) (r : Piece) (b : Bool) (t : Transition) : s.Reaches (s.matchTo r b t) := by
  unfold State.matchTo
  split
  · exact ((s.settle_reaches r.number b t).trans
      (State.onPiece_reaches _ _)).trans (State.laneToIdle_moves _ _).reaches
  · exact (s.settle_reaches r.number b t).trans
      (State.onPiece_reaches _ _)
  · exact (((s.settle_reaches r.number b t).trans
      (State.onPiece_reaches _ _)).trans (State.learnSlip_moves _ _).reaches).trans
      (State.handOver_moves _ _).reaches

theorem Piece.dropOwed_keeps (r : Piece) (k : Checkpoint) (l : Lane) :
    (r.dropOwed k l).number = r.number ∧ (r.dropOwed k l).doubt = r.doubt := by
  cases k <;> exact ⟨rfl, rfl⟩

theorem State.absorb_reaches (s : State) (r : Piece) (t : Transition) : s.Reaches (s.absorb r t) := by
  have hdrop : s.Reaches (s.onPiece r.number fun q => q.dropOwed t.kind t.lane) :=
    s.onPiece_reaches _ (fun q => (q.dropOwed_keeps _ _).1) fun q h => (q.dropOwed_keeps _ _).2.trans h
  unfold State.absorb
  split
  · dsimp only
    refine State.Reaches.trans ?_ (State.settleStale_reaches _ _ _)
    split
    · exact hdrop.trans (State.doubtWith_reaches _ _ _)
    · exact hdrop
  · exact s.settleStale_reaches _ _

theorem State.countOrphan_moves (s : State) (k : Checkpoint) : s.Moves (s.countOrphan k) := by
  unfold State.countOrphan
  split <;> exact s.onMatcher_moves _

theorem State.orphan_reaches (s : State) (t : Transition) : s.Reaches (s.orphan t).1 := by
  refine (s.countOrphan_moves t.kind).reaches.trans ?_
  unfold State.orphan
  dsimp only
  split
  next => dsimp only; exact State.recordFault_reaches _ _
  next =>
    split <;> dsimp only
    next => exact State.recordFault_reaches _ _
    next hroom =>
      exact (State.addRecord_moves (by simpa using hroom) rfl fun _ => rfl).reaches.trans
        (State.recordFault_reaches _ _)
  next =>
    split <;> dsimp only
    next => exact State.recordFault_reaches _ _
    next hroom =>
      exact ((State.addRecord_moves (by simpa using hroom) rfl fun _ => rfl).reaches.trans
        (State.recordFault_reaches _ _)).trans (State.handOver_moves _ _).reaches

theorem State.takeBlock_reaches (s : State) (t : Transition) : s.Reaches (s.takeBlock t).1 := by
  unfold State.takeBlock
  split
  · exact s.matchTo_reaches _ _ _
  · split
    · exact s.absorb_reaches _ _
    · exact s.orphan_reaches _

theorem State.takeClear_reaches (s : State) (t : Transition) : s.Reaches (s.takeClear t) := by
  unfold State.takeClear
  split
  · exact .rfl' s
  · exact .rfl' s
  · split
    · exact .rfl' s
    · exact ((s.onPiece_reaches _).trans (State.settleStale_reaches _ _ _)).trans
        (State.testClearing_reaches _ _)

theorem State.predictPass_moves (s : State) (r : Piece) (w : Window) : s.Moves (s.predictPass r w) := by
  unfold State.predictPass
  split
  · exact (s.onPiece_moves _).trans (State.laneToIdle_moves _ _)
  · exact (s.onPiece_moves _).trans (State.handOver_moves _ _)
  · exact .rfl' s

theorem missingOutcome_ne_cancelled (k : Checkpoint) : missingOutcome k ≠ .cancelled := by
  cases k <;> decide

theorem State.testWindow_reaches (s : State) (n : Half) : s.Reaches (s.testWindow n) := by
  have hinlet (r : Piece) (w : Window) : s.Reaches (s.predictInlet r w) :=
    (s.onPiece_reaches _).trans (State.finalTrail_reaches _ _ _)
  unfold State.testWindow
  split
  · exact .rfl' s
  · split
    · exact .rfl' s
    · split
      · split
        · split
          · exact hinlet _ _
          · exact (s.predictPass_moves _ _).reaches
          · exact (s.predictPass_moves _ _).reaches
        · exact .rfl' s
      · split
        · exact (s.recordFault_reaches _).trans (State.removePiece_reaches _ _ (missingOutcome_ne_cancelled _))
        · exact .rfl' s

theorem State.testAbsorption_reaches (s : State) (n : Half) : s.Reaches (s.testAbsorption n) := by
  unfold State.testAbsorption
  split
  · exact .rfl' s
  · split
    · exact .rfl' s
    · split
      · exact s.onPiece_reaches _
      · exact .rfl' s

theorem State.testRecord_reaches (s : State) (b : Piece) : s.Reaches (s.testRecord b) := by
  have hif {c : Bool} {u v : State} (h : u.Reaches v) : u.Reaches (if c = true then v else u) := by
    split
    · exact h
    · exact .rfl' u
  unfold State.testRecord
  exact (((s.testClearing_reaches b.number).trans (hif (State.testLimit_reaches _ _))).trans
    (hif (State.testAbsorption_reaches _ _))).trans (hif (State.testWindow_reaches _ _))

theorem State.testRecords_reaches (s : State) (before : List Piece) : s.Reaches (s.testRecords before) :=
  foldl_keeps State.Reaches.rfl' State.Reaches.trans State.testRecord_reaches before s

/-! ### The Eye Filter -/

theorem State.onEye_moves (s : State) (i : Nat) (f : EyeDynamic → EyeDynamic) : s.Moves (s.onEye i f) :=
  State.onEyes_moves id

theorem State.handTransition_reaches (s : State) (i : Nat) (t : Transition) : s.Reaches (s.handTransition i t) := by
  unfold State.handTransition
  split
  · exact .rfl' s
  · split
    · exact (s.takeBlock_reaches _).trans (State.onEye_moves _ _ _).reaches
    · exact s.takeClear_reaches _

theorem State.confirm_reaches (s : State) (i : Nat) (c : EyeConfig) (p : PendingTransition) :
    s.Reaches (s.confirm i c p) := by
  unfold State.confirm
  dsimp only
  split
  · exact (s.onEye_moves _ _).reaches
  · exact (s.onEye_moves _ _).reaches.trans (State.handTransition_reaches _ _ _)

theorem State.startPending_reaches (s : State) (i : Nat) (c : EyeConfig) (p : PendingTransition) :
    s.Reaches (s.startPending i c p) := by
  unfold State.startPending
  split
  · exact s.confirm_reaches _ _ _
  · exact (s.onEye_moves _ _).reaches

theorem State.degrade_reaches (s : State) (i : Nat) (c : EyeConfig) (n : Nat) : s.Reaches (s.degrade i c n) := by
  unfold State.degrade
  split
  · exact (s.onEye_moves _ _).reaches.trans (State.recordFault_reaches _ _)
  · exact .rfl' s

theorem State.glitch_reaches (s : State) (i : Nat) (c : EyeConfig) (n : Nat) : s.Reaches (s.glitch i c n) :=
  ((s.onEye_moves _ _).reaches.trans (State.logRepeating_reaches _ _ _)).trans (State.degrade_reaches _ _ _ _)

theorem State.takeEdge_reaches (s : State) (i : Nat) (e : Eye) (p : PendingTransition) : s.Reaches (s.takeEdge i e p) := by
  unfold State.takeEdge
  dsimp only
  split
  · exact (s.onEye_moves _ _).reaches.trans (State.startPending_reaches _ _ _ _)
  · split
    · exact (s.onEye_moves _ _).reaches.trans (State.glitch_reaches _ _ _ _)
    · exact ((s.onEye_moves _ _).reaches.trans (State.confirm_reaches _ _ _ _)).trans
        (State.startPending_reaches _ _ _ _)

theorem State.trackEdge_reaches (s : State) (i : Nat) (e : Eye) (k : Edge) (t : Stamp) :
    s.Reaches (s.trackEdge i e k t).1 := by
  unfold State.trackEdge
  split
  · exact (s.onEye_moves _ _).reaches.trans (State.logRepeating_reaches _ _ _)
  · exact s.takeEdge_reaches _ _ _

theorem State.classifyEdge_reaches (s : State) (src channel edge : Byte) (t : Stamp) :
    s.Reaches (s.classifyEdge src channel edge t).1 := by
  unfold State.classifyEdge
  split
  · exact .rfl' s
  · split
    · split
      · exact .rfl' s
      · split
        · exact .rfl' s
        · exact .rfl' s
        · exact .rfl' s
        · split
          · exact .rfl' s
          · exact s.trackEdge_reaches _ _ _ _
    · exact .rfl' s

theorem State.confirmDue_reaches (s : State) : s.Reaches s.confirmDue := by
  refine foldl_keeps State.Reaches.rfl' State.Reaches.trans (fun u i => ?_) _ s
  unfold State.confirmEye
  split
  · exact .rfl' u
  · split
    · exact .rfl' u
    · exact u.confirm_reaches _ _ _

/-! ### The Travel Unit -/

theorem State.actOnSample_reaches (s : State) : s.Reaches s.actOnSample := by
  refine State.Reaches.trans (t := s.confirmDue.matcherSample s.pieces.records)
    (s.confirmDue_reaches.trans ?_) ((State.evaluate_lotMoves _).reaches.trans (State.testDeadlines_reaches _ _))
  unfold State.matcherSample
  split
  · exact .rfl' _
  · exact State.testRecords_reaches _ _

/-- A stamp taken or replaced keeps the history within its 16 samples (R12, R13). -/
theorem TravelUnit.enterHistory_bounded {u : TravelUnit} (t : Stamp) (h : u.Bounded) : (u.enterHistory t).Bounded := by
  obtain ⟨hlen, hrest⟩ := h
  unfold TravelUnit.enterHistory
  split
  · refine ⟨?_, hrest⟩
    unfold appendSample
    by_cases hroom : u.history.length < Config.historyCapacity
    · rw [if_pos hroom, List.length_append]
      exact hroom
    · rw [if_neg hroom, List.length_append, List.length_drop]
      exact (Nat.sub_add_cancel (Nat.lt_of_lt_of_le (by decide) (Nat.not_lt.mp hroom))).trans_le hlen
  · refine ⟨?_, hrest⟩
    simp only [replaceNewest]
    split
    · exact hlen
    · simp
      omega

theorem State.stepTravel_reaches (s : State) (src : Byte) (c : Nat) : s.Reaches (s.stepTravel src c) := by
  unfold State.stepTravel
  split
  · exact ((State.onTravel_moves fun h => ⟨h.1, Nat.succ_pos 1023, h.2.2⟩).reaches.trans
      (State.recordFault_reaches _ _)).trans (State.doubtAll_moves _).reaches
  · exact (State.onTravel_moves fun h => ⟨h.1, Nat.mod_lt _ (by simp), h.2.2⟩).reaches

theorem State.appliedSample_reaches (s : State) (x : AppliedSample) : s.Reaches (s.appliedSample x) :=
  (State.onTravel_moves (f := fun q => { q with sample := some x }) id).reaches.trans (State.actOnSample_reaches _)

theorem State.forwardTravel_reaches (s : State) (src : Byte) (c : Nat) (stamp : Stamp) :
    s.Reaches (s.forwardTravel src c stamp) :=
  ((s.stepTravel_reaches src c).trans (State.onTravel_moves (TravelUnit.enterHistory_bounded stamp)).reaches).trans
    (State.appliedSample_reaches _ _)

theorem State.takeTravel_reaches (s : State) (src : Byte) (delta : Half) (stamp : Stamp) (run : Byte) :
    s.Reaches (s.takeTravel src delta stamp run) := by
  unfold State.takeTravel
  refine State.Reaches.trans (State.onTravel_moves (f := fun q => q.heard run) id).reaches ?_
  dsimp only
  split
  · exact State.recordFault_reaches _ _
  · exact State.forwardTravel_reaches _ _ _ _

end Sys2Proof.Machine

/-! SUPPORT. What a step comes to: a run of moves, a request with its REPLY, or a power-on state. -/

namespace Sys2Proof.Machine

open Sys2Proof

/-! ### The clock, FHOLD and the waiting blocks -/

theorem State.ringTicked_moves (s : State) (fhold : Bool) : s.Moves (s.ringTicked fhold) := by
  refine State.Moves.trans (State.Moves.trans (State.onTravel_moves fun h => ⟨h.1, h.2.1, ?_⟩)
    (State.onFeed_moves rfl rfl rfl (fun _ => ⟨rfl, rfl⟩) rfl)) (State.onPort_moves rfl rfl fun h => ?_)
  · show (if s.travel.syncCount + 1 < Config.syncPeriod then s.travel.syncCount + 1 else 0) < 100
    split
    · assumption
    · decide
  · exact ⟨h.1, (List.length_map _).trans_le h.2.1, h.2.2⟩

theorem State.takePeriodEnd_moves (s : State) : s.Moves s.takePeriodEnd := by
  have hsync (u : State) (t : Stamp) : u.Moves (u.queueSync t) := by
    unfold State.queueSync
    split
    · exact u.onUrgent_moves fun l => l.map fun q => if q.isSync then { q with msg := .sync t } else q
    · exact u.onUrgent_moves fun l => l ++ [{ dest := 31, msg := .sync t, suspect := false }]
  have hended (u : State) (t : Stamp) : u.Moves (u.periodEnded t) :=
    ((hsync u t).trans (State.onBatch_lotMoves (s := u.queueSync t) ⟨rfl, rfl⟩).moves).trans
      (State.onFaults_lotMoves ⟨rfl, rfl⟩).moves
  unfold State.takePeriodEnd
  split
  · exact .rfl' s
  · refine State.Moves.trans (State.onTravel_moves ?_) (hended _ _)
    exact id

theorem State.takeLoss_reaches (s : State) : s.Reaches s.takeLoss := by
  unfold State.takeLoss
  split
  · refine State.Reaches.trans (State.onTravel_moves ?_).reaches (State.recordFault_reaches _ _)
    exact id
  · exact .rfl' s
  · exact .rfl' s

theorem State.takeIdle_moves (s : State) : s.Moves s.takeIdle := by
  unfold State.takeIdle
  split
  · exact (s.closeCurrent_lotMoves _).moves
  · exact .rfl' s
  · exact .rfl' s

theorem State.takeHoldoff_moves (s : State) : s.Moves s.takeHoldoff := by
  unfold State.takeHoldoff
  split
  · split
    · exact .rfl' s
    · split
      · exact (State.onFaults_lotMoves ⟨rfl, rfl⟩).moves
      · exact s.queueAlert_lotMoves.moves
  · exact .rfl' s
  · exact .rfl' s

theorem State.takeAssert_moves (s : State) : s.Moves s.takeAssert := by
  unfold State.takeAssert
  split
  · exact (State.Move.refresh s { s.feed with fhold := true } rfl rfl).moves
  · exact .rfl' s

theorem State.takeRelease_moves (s : State) : s.Moves s.takeRelease := by
  unfold State.takeRelease
  split
  · exact (State.Move.refresh s { s.feed with fhold := false } rfl rfl).moves.trans (State.evaluate_lotMoves _).moves
  · exact .rfl' s

/-! ### The Ring Port -/

theorem removeFirst_length_le (f : OwnEntry → Bool) : ∀ l : List OwnEntry, (removeFirst f l).length ≤ l.length
  | [] => le_refl _
  | e :: rest => by
    unfold removeFirst
    split
    · exact Nat.le_succ _
    · exact Nat.succ_le_succ (removeFirst_length_le f rest)

theorem State.ringBroken_reaches (s : State) : s.Reaches s.ringBroken := by
  unfold State.ringBroken
  split
  · exact .rfl' s
  · exact (State.onPort_moves rfl rfl fun h => ⟨h.1, (removeFirst_length_le _ _).trans h.2.1, h.2.2⟩).reaches.trans
      (State.recordFault_reaches _ _)

theorem State.transitOut_moves (s : State) : s.Moves s.transitOut := by
  unfold State.transitOut
  split
  next f rest _ hrest =>
    refine State.onPort_moves rfl rfl fun h => ⟨?_, h.2⟩
    have := h.1
    rw [hrest] at this
    exact (Nat.le_succ _).trans this
  next => exact .rfl' s

theorem State.offerPlace_moves (s : State) : s.Moves s.offerPlace := by
  unfold State.offerPlace
  split
  · exact s.queueLineState_moves
  · split
    · exact s.queueAlert_lotMoves.moves
    · split
      · exact .rfl' s
      · exact s.sendTallies_lotMoves.moves

theorem State.tryInsert_moves (s : State) : s.Moves s.tryInsert := by
  unfold State.tryInsert
  split
  next hmay =>
    simp only [State.mayInsert, Bool.and_eq_true] at hmay
    have hroom : s.port.ownList.length < 32 := of_decide_eq_true hmay.2
    have hown (q : Queued) : (s.port.ownList ++ [q.entry]).length ≤ 32 := by
      rw [List.length_append]
      exact hroom
    unfold State.insertNext
    split
    next q rest hurgent =>
      exact (s.onUrgent_moves fun _ => rest).trans (State.onPort_moves rfl rfl fun h => ⟨h.1, hown q, h.2.2⟩)
    next =>
      split
      next q rest hroutine =>
        refine State.Moves.trans (State.Moves.trans (State.onPort_moves rfl rfl fun h => ⟨h.1, h.2.1, ?_, h.2.2.2⟩)
          (State.onPort_moves rfl rfl fun h => ⟨h.1, hown q, h.2.2⟩)) (State.offerPlace_moves _)
        have := h.2.2.1
        rw [hroutine, List.length_cons] at this
        exact le_trans (Nat.add_le_add_right (Nat.le_succ _) _) this
      next => exact .rfl' s
  next => exact .rfl' s

theorem State.forward_moves {s : State} (f : Frame) (hroom : s.port.transit.length < 2) : s.Moves (s.forward f) := by
  refine State.onPort_moves rfl rfl fun h => ⟨?_, h.2⟩
  rw [List.length_append]
  exact hroom

/-- A frame taken by an operation that leaves the transit buffer alone is passed on. -/
theorem State.Reaches.forward {s t : State} (h : s.Reaches t) (hport : s.port.queuesOnly t.port)
    (hroom : s.port.transit.length < 2) (f : Frame) : s.Reaches (t.forward f) := by
  refine h.trans (State.forward_moves f ?_).reaches
  rw [hport]
  exact hroom

/-- A change of the counts of section 9.6 alone. -/
theorem State.onCounts_moves {s : State} {f : RingPort → RingPort} (hown : (f s.port).own = s.port.own := by rfl)
    (hreserved : (f s.port).reserved = s.port.reserved := by rfl) (hholds : s.port.Holds → (f s.port).Holds := by exact id) :
    s.Moves (s.onPort f) := State.onPort_moves hown hreserved hholds

theorem State.takeTravel_port (s : State) (src : Byte) (delta : Half) (stamp : Stamp) (run : Byte) :
    s.port.queuesOnly (s.takeTravel src delta stamp run).port := by
  unfold State.takeTravel
  dsimp only
  split
  · exact (State.recordFault_trackOnly (s.onTravel fun q => q.heard run) _).port
  · unfold State.forwardTravel
    refine RingPort.queuesOnly_trans ?_ (State.actOnSample_trackOnly _).port
    unfold State.stepTravel
    split
    · exact (State.recordFault_trackOnly ((s.onTravel fun q => q.heard run).onTravel fun u =>
        u.clampedStep s.mgmt.line.maxStep) _).port
    · exact RingPort.queuesOnly_rfl _

/-! ### Requests -/

/-- What a request's performance does: moves alone, an entry to RUN, to DRAINING or, with an empty table, to CONFIG with
moves after it, or a restart. -/
inductive State.Performs (s : State) : State → Prop where
  | moves {t : State} (h : s.Reaches t) (hport : s.port.queuesOnly t.port) : Performs s t
  | line {t : State} (l : LineState) (hmove : lineMove s.line.state l = true) (hl : l ≠ .suspect)
      (hrun : l = .run → s.line.state = .config) (hdraining : l = .draining → s.line.state = .run)
      (hempty : l = .config → s.pieces.records = []) (h : (s.enterLine l none).Reaches t)
      (hport : s.port.queuesOnly t.port) : Performs s t
  | power (straps : BitVec 5) : Performs s (s.powerUp straps)
  | retrack : Performs s (s.retracked.oweLineState.queueFeedState (.hold .line))

theorem State.Performs.none (s : State) : s.Performs s := .moves (.rfl' s) (RingPort.queuesOnly_rfl _)

theorem State.doSeek_performs (s : State) (table index : Byte) : s.Performs (s.doSeek table index).state := by
  unfold State.doSeek
  split
  · exact .none s
  · split
    · dsimp only
      exact .moves (s.onMgmt_moves _).reaches rfl
    · exact .none s

theorem State.doGet_performs (s : State) (part : Byte) : s.Performs (s.doGet part).state := by
  unfold State.doGet
  split
  · exact .none s
  · split
    · exact .none s
    · refine .moves (State.Move.other s s.pins s.matcher s.folder (s.afterGet part.toNat).mgmt (s.freeIndex + 1)
        |> fun h => ?_) ?_
      · unfold State.afterGet at h ⊢
        split at h <;> simp_all only [if_true, if_false] <;> exact h.moves.reaches
      · unfold State.afterGet
        split <;> exact rfl

theorem State.writeLane_reaches (s : State) (l : Lane) (c : LaneConfig) :
    s.Reaches (s.writeLane l c) ∧ s.port.queuesOnly (s.writeLane l c).port := by
  have hrest (u : State) (lanes : List Lane) : u.Moves (lanes.foldl (fun u k => u.restLane k .idle) u) :=
    foldl_keeps State.Moves.rfl' State.Moves.trans (fun u k => u.restLane_moves k (by simp)) lanes u
  have hrestPort (u : State) (lanes : List Lane) : u.LineOnly (lanes.foldl (fun u k => u.restLane k .idle) u) :=
    foldl_keeps State.LineOnly.rfl' State.LineOnly.trans (fun u k => (u.restLane_feedOnly k _).lots.lineOnly) lanes u
  have hspan (u : State) (lanes : List Lane) : u.Reaches (u.dropSpanning lanes) ∧ u.LineOnly (u.dropSpanning lanes) := by
    unfold State.dropSpanning
    split
    · exact ⟨.rfl' u, .rfl' u⟩
    · exact ⟨((hrest u lanes).trans (State.orderChanged_lotMoves _).moves).reaches.trans
        (foldl_keeps State.Reaches.rfl' State.Reaches.trans (fun _ _ => State.recordFault_reaches _ _) lanes _),
        ((hrestPort u lanes).trans (State.orderChanged_lotsOnly _).lineOnly).trans
        (foldl_keeps State.LineOnly.rfl' State.LineOnly.trans (fun _ _ => State.recordFault_lineOnly _ _) lanes _)⟩
  have hidle (u : State) (lanes : List Lane) : u.Reaches (u.evaluateIdle lanes) ∧ u.LineOnly (u.evaluateIdle lanes) :=
    ⟨foldl_keeps State.Reaches.rfl' State.Reaches.trans (fun u _ => u.evaluate_lotMoves.reaches) lanes u,
      foldl_keeps State.LineOnly.rfl' State.LineOnly.trans (fun u _ => u.evaluate_feedOnly.lots.lineOnly) lanes u⟩
  have hput : s.Moves ((s.onLane l fun e => { e with cfg := c, early := 0 }).restLane l
      (if c.enabled then .idle else .offline)) :=
    (State.onLane_moves ⟨rfl, rfl⟩).trans (State.restLane_moves _ _ (by split <;> simp))
  unfold State.writeLane
  dsimp only
  exact ⟨(hput.reaches.trans (hspan _ _).1).trans (hidle _ _).1, ((hspan _ _).2.trans (hidle _ _).2).port⟩

theorem State.putAnswer_performs {s t : State} {fields : List Byte} {clamped : Bool}
    (h : s.putAnswer fields = .written t clamped) : s.Reaches t ∧ s.port.queuesOnly t.port := by
  have hmgmt (f : Management → Management) : s.Reaches (s.onMgmt f) ∧ s.port.queuesOnly (s.onMgmt f).port :=
    ⟨(s.onMgmt_moves f).reaches, rfl⟩
  have hflow (p : PathFlow) : s.Reaches (s.writePathFlow p) ∧ s.port.queuesOnly (s.writePathFlow p).port :=
    ⟨((s.onMgmt_moves fun q => { q with flow := p }).trans (State.retestHold_lotMoves _).moves).reaches.trans
      (State.evaluate_lotMoves _).reaches,
      ((State.retestHold_feedOnly (s.onMgmt fun q => { q with flow := p })).trans (State.evaluate_feedOnly _)).port⟩
  have heye (i : Nat) (c : EyeConfig) : s.Reaches (s.writeEye i c) ∧ s.port.queuesOnly (s.writeEye i c).port :=
    ⟨(State.onEyes_moves fun h => ⟨(List.length_filter_le _ _).trans h.1, h.2.filter _⟩).reaches, rfl⟩
  unfold State.putAnswer at h
  split at h
  · exact absurd h (by simp)
  split at h
  · exact absurd h (by simp)
  split at h
  · exact absurd h (by simp)
  unfold State.putEntry at h
  split at h
  case _ =>
    unfold State.putEye at h
    split at h
    · exact absurd h (by simp)
    · split at h
      · exact absurd h (by simp)
      · split at h
        · obtain ⟨rfl, -⟩ := PutAnswer.written.inj h
          exact heye _ _
        · exact absurd h (by simp)
  case _ =>
    split at h
    · exact absurd h (by simp)
    · unfold State.putLane at h
      split at h
      · exact absurd h (by simp)
      · split at h
        · exact absurd h (by simp)
        · obtain ⟨rfl, -⟩ := PutAnswer.written.inj h
          exact s.writeLane_reaches _ _
  case _ =>
    unfold State.putArticle at h
    split at h
    · obtain ⟨rfl, -⟩ := PutAnswer.written.inj h
      exact hmgmt _
    · split at h
      · exact absurd h (by simp)
      · split at h
        · exact absurd h (by simp)
        · obtain ⟨rfl, -⟩ := PutAnswer.written.inj h
          exact hmgmt _
  case _ =>
    split at h
    · unfold State.putPathLine at h
      split at h
      · exact absurd h (by simp)
      · split at h
        · exact absurd h (by simp)
        · obtain ⟨rfl, -⟩ := PutAnswer.written.inj h
          exact hmgmt _
    · unfold State.putPathWindows at h
      split at h
      · exact absurd h (by simp)
      · obtain ⟨rfl, -⟩ := PutAnswer.written.inj h
        exact hmgmt _
    · unfold State.putPathFlow at h
      split at h
      · exact absurd h (by simp)
      · obtain ⟨rfl, -⟩ := PutAnswer.written.inj h
        exact hflow _
  all_goals exact absurd h (by simp)

theorem State.doPut_performs (s : State) (fields : List Byte) : s.Performs (s.doPut fields).state := by
  unfold State.doPut
  split
  next => exact .none s
  next t clamped h =>
    obtain ⟨hreach, hport⟩ := State.putAnswer_performs h
    dsimp only
    exact .moves (hreach.trans (t.onMgmt_moves _).reaches) hport

theorem State.doRun_performs (s : State) : s.Performs s.doRun.state := by
  unfold State.doRun
  split
  next => exact .none s
  next hstate =>
    have hconfig : s.line.state = .config := by simpa using hstate
    split
    next => exact .none s
    next =>
      refine .line .run (by rw [hconfig]; rfl) (by simp) (fun _ => hconfig) (by simp) (by simp)
        ((State.choose_lotMoves _).trans (State.evaluate_lotMoves _)).reaches ?_
      exact (((s.enterLine_lineOnly .run none).trans (State.choose_lotsOnly _).lineOnly).trans
        (State.evaluate_feedOnly _).lots.lineOnly).port

theorem State.doStop_performs (s : State) : s.Performs s.doStop.state := by
  unfold State.doStop
  split
  next hstate =>
    refine .line .draining (by rw [hstate]; rfl) (by simp) (by simp) (fun _ => hstate) (by simp) (t := s.enterDraining) ?_ ?_
    · unfold State.enterDraining
      dsimp only
      split
      next hempty =>
        exact (State.enterConfig_moves _ (s.enterLine_line _ _).1 (List.isEmpty_iff.mp hempty)).reaches
      next => exact .rfl' _
    · unfold State.enterDraining
      dsimp only
      split
      · exact ((s.enterLine_lineOnly _ _).trans (State.enterConfig_lineOnly _ _)).port
      · exact (s.enterLine_lineOnly _ _).port
  next => exact .none s

theorem State.doRecover_performs (s : State) : s.Performs s.doRecover.state := by
  unfold State.doRecover
  split
  next => exact .none s
  next hstate =>
    have hsuspect : s.line.state = .suspect := by simpa using hstate
    split
    next hempty =>
      exact .line .config (by rw [hsuspect]; rfl) (by simp) (by simp) (by simp) (fun _ => List.isEmpty_iff.mp hempty)
        (((State.dropRequests_moves _).trans (State.orderChanged_lotMoves _).moves).trans
          (State.closeCurrent_lotMoves _ _).moves).reaches (s.enterConfig_lineOnly _).port
    next => exact .none s

theorem State.doPurge_performs (s : State) (n : Half) : s.Performs (s.doPurge n).state := by
  unfold State.doPurge
  split
  · exact .none s
  · split
    · exact .none s
    · split
      · exact .none s
      · exact .moves (s.removePiece_reaches _ (by simp)) (s.removePiece_lineOnly _ _).port

theorem State.purgeEvery_performs (s : State) : s.Performs s.purgeEvery := by
  have hfold : s.Reaches ((s.pieces.records.map fun r => r.number).foldl (fun u n => u.removePiece n .purged) s) :=
    foldl_keeps State.Reaches.rfl' State.Reaches.trans (fun u n => u.removePiece_reaches n (by simp)) _ s
  have hport : s.LineOnly ((s.pieces.records.map fun r => r.number).foldl (fun u n => u.removePiece n .purged) s) :=
    foldl_keeps State.LineOnly.rfl' State.LineOnly.trans (fun u n => u.removePiece_lineOnly n .purged) _ s
  exact .moves ((hfold.trans (State.onFolder_moves _ _).reaches).trans
    (State.onUrgent_moves _ fun l => l.filter fun q => q.grantPiece.isNone && q.ticketPiece.isNone).reaches)
    (RingPort.queuesOnly_trans hport.port rfl)

theorem State.doCommand_performs (s : State) (code : Byte) (operand : List Byte) :
    s.Performs (s.doCommand code operand).state := by
  unfold State.doCommand
  split
  · split
    · exact s.doPurge_performs _
    · exact .none s
  · split
    · exact .none s
    · split
      · exact s.doRun_performs
      · exact s.doStop_performs
      · exact .power _
      · exact .retrack
      · exact s.doRecover_performs
      · unfold State.doPurgeAll
        split
        · exact .none s
        · exact .none s
        · exact s.purgeEvery_performs
        · exact s.purgeEvery_performs
      · unfold State.doCloseBatch
        split
        · exact .none s
        · exact .moves (s.closeCurrent_lotMoves _).reaches (s.closeCurrent_lotsOnly _).port
      · refine .moves ((State.Move.lots (.faults s { s.faults with list := [], overflow := 0 } fun _ => rfl)).moves.trans
          (State.onEyes_moves (f := fun q => { q with repeats := [] }) fun _ =>
            ⟨Nat.zero_le _, List.nodup_nil⟩)).reaches rfl
      · exact .moves (State.onEyes_moves (f := EyeFilter.clearEyes) id).reaches rfl
      · exact .none s

theorem State.perform_performs (s : State) (code : Byte) (ops : List Byte) : s.Performs (s.perform code ops).state := by
  unfold State.perform
  split
  · exact s.doSeek_performs _ _
  · exact s.doPut_performs _
  · exact s.doGet_performs _
  · exact s.doCommand_performs _ _
  · exact .none s

/-! ### The step -/

/-- The state with the strap pins at other levels. -/
def State.strapped (s : State) (straps : BitVec 5) : State := s.onPins fun p => { p with straps := straps }

/-- What a command comes to: a run of moves, a request performed, answered and passed on, or a power-on state, with its
reports or held without them. -/
inductive State.Comes (s : State) : State → Prop where
  | moves {t : State} (h : s.Reaches t) : Comes s t
  | request {t : State} (straps : BitVec 5) (f : Frame) (result : Byte) (data : List Byte)
      (h : (s.strapped straps).performing.Performs t)
      (hroom : s.freePlaces ≠ 0) (htransit : s.port.transit.length < 2) : Comes s (t.answered f result data)
  | power (u : State) (straps : BitVec 5) : Comes s (u.powerUp straps)
  | held (u : State) (p : Pins) (own : Byte) (hown : own = s.port.own ∨ ∃ straps, own = ownAddress straps) :
      Comes s (u.heldBlank p own)

theorem State.received_moves (s : State) : s.Moves s.received :=
  State.onPort_moves (f := fun p => { p with receiving := [] }) rfl rfl fun h => ⟨h.1, h.2.1, h.2.2.1, rfl⟩

theorem State.damagedFrame_reaches (s : State) : s.Reaches s.damagedFrame :=
  State.Reaches.trans (State.Moves.reaches State.onCounts_moves) (State.logRepeating_reaches _ _ _)

theorem State.ownReturn_reaches (s : State) (f : Frame) : s.Reaches (s.ownReturn f) := by
  have hreport (u : State) : u.Reaches (u.reportReturn f) := by
    unfold State.reportReturn State.ticketHome
    split
    · exact u.grantReturned_reaches _ _
    · split
      · split
        · exact u.ticketReturned_reaches _ _ _ _
        · exact .rfl' u
      · exact .rfl' u
  unfold State.ownReturn
  split
  · exact (State.onPort_moves rfl rfl fun h => ⟨h.1, (removeFirst_length_le _ _).trans h.2.1, h.2.2⟩).reaches.trans
      (hreport _)
  · exact s.recordFault_reaches _

theorem State.unhandledFrame_reaches {s : State} (f : Frame) (hroom : s.port.transit.length < 2) :
    s.Reaches (s.unhandledFrame f) :=
  State.Reaches.trans (State.Moves.reaches State.onCounts_moves) (State.forward_moves f (by exact hroom)).reaches

theorem State.takeEdgeFrame_reaches {s : State} (f : Frame) (hroom : s.port.transit.length < 2) :
    s.Reaches (s.takeEdgeFrame f) := by
  have hclassify := s.classifyEdge_reaches f.src (byteAt f.body 0) (byteAt f.body 1) (stampAt f.body 2)
  have hport := (s.classifyEdge_trackOnly f.src (byteAt f.body 0) (byteAt f.body 1) (stampAt f.body 2)).port
  unfold State.takeEdgeFrame State.afterEdge
  dsimp only
  split
  · exact hclassify
  · exact hclassify.forward hport hroom _
  · exact hclassify.forward hport hroom _

theorem State.addressed_comes {s : State} (f : Frame) (hroom : s.port.transit.length < 2) :
    s.addressed f = s.takeRequestFrame f ∨ s.Reaches (s.addressed f) := by
  unfold State.addressed
  split
  · exact .inr ((State.takeTravel_reaches _ _ _ _ _).forward (State.takeTravel_port _ _ _ _ _) hroom _)
  · exact .inr ((State.takeReady_reaches _ _ _ _ _).forward (State.takeReady_lineOnly _ _ _ _ _).port hroom _)
  · exact .inr ((State.takeWithdraw_reaches _ _).forward (State.takeWithdraw_lineOnly _ _).port hroom _)
  · exact .inr ((State.slotFreed_reaches _ _ _ _ _).forward (State.slotFreed_trackOnly _ _ _ _ _).port hroom _)
  · exact .inl rfl
  · exact .inr (State.unhandledFrame_reaches _ hroom)

theorem State.takeRequestFrame_comes {s : State} (f : Frame) (hroom : s.port.transit.length < 2) :
    s.Comes (s.received.takeRequestFrame f) := by
  unfold State.takeRequestFrame
  split
  next => exact .moves (s.received_moves.trans (State.forward_moves _ hroom)).reaches
  next hfree =>
    cases hbody : f.body with
    | nil => exact .moves (s.received_moves.trans (State.forward_moves _ hroom)).reaches
    | cons code ops =>
      have hreply := (s.performing.perform code ops).reply_forward f
      have hcode : byteAt f.body 0 = code := by rw [hbody]; rfl
      rw [hcode] at hreply
      have hcomes : s.Comes ((s.performing.perform code ops).state.answered f (s.performing.perform code ops).result
          (s.performing.perform code ops).data) :=
        .request s.pins.straps f _ _ (s.performing.perform_performs code ops) hfree hroom
      rw [← hreply] at hcomes
      exact hcomes

theorem State.receive_comes (s : State) (f : Frame) : s.Comes (s.receive f) := by
  rw [State.receive_eq]
  unfold State.sortFrame
  split
  · exact .moves (s.received_moves.reaches.trans (State.damagedFrame_reaches _))
  · split
    · exact .moves (s.received_moves.reaches.trans (State.ownReturn_reaches _ _))
    · split
      · exact .moves (s.received_moves.trans State.onCounts_moves).reaches
      · split
        next => exact .moves ((s.received_moves.trans State.onCounts_moves).reaches.trans (State.recordFault_reaches _ _))
        next htransit =>
          have hroom : s.port.transit.length < 2 := Nat.not_le.mp htransit
          unfold State.passing
          split
          · split
            · rcases State.addressed_comes (s := s.received) f hroom with heq | hreach
              · exact heq ▸ State.takeRequestFrame_comes f hroom
              · exact .moves (s.received_moves.reaches.trans hreach)
            · exact .moves (s.received_moves.reaches.trans (State.unhandledFrame_reaches _ hroom))
          · split
            · exact .moves (s.received_moves.reaches.trans (State.takeEdgeFrame_reaches _ hroom))
            · exact .moves (s.received_moves.trans (State.forward_moves _ hroom)).reaches

theorem State.receiveBytes_comes (s : State) (bytes : List Byte) : s.Comes (s.receiveBytes bytes) := by
  unfold State.receiveBytes
  split
  · exact s.receive_comes _
  · exact .moves (s.received_moves.reaches.trans (State.damagedFrame_reaches _))

theorem State.live_comes {s t : State} {f : State → State} (h : s.live f = .next t) (hf : s.Comes (f s)) : s.Comes t := by
  obtain rfl := Host.Outcome.next.inj h
  split
  · exact .moves (.rfl' s)
  · exact hf

/-- What the strap pins show changes nothing of what a frame comes to. -/
theorem State.straps_comes (s : State) (straps : BitVec 5) (f : Frame) :
    s.Comes ((s.strapped straps).receive f) := by
  have hpins : s.Reaches (s.strapped straps) :=
    (State.Move.other s { s.pins with straps := straps } s.matcher s.folder s.mgmt s.freeIndex).moves.reaches
  have hcomes := (s.strapped straps).receive_comes f
  generalize (s.strapped straps).receive f = t at hcomes
  cases hcomes with
  | moves h => exact .moves (hpins.trans h)
  | request straps g result data h hroom htransit => exact .request straps g result data h hroom htransit
  | power v b => exact .power v b
  | held v p own hown => exact .held v p own hown

theorem exec_comes {c : Instr} {s t : State} (h : exec c s = .next t) : s.Comes t := by
  cases c
  case powerOn straps =>
    obtain rfl := Host.Outcome.next.inj h
    split
    · exact .held s _ _ (.inr ⟨straps, rfl⟩)
    · exact .power s straps
  case resetAssert =>
    obtain rfl := Host.Outcome.next.inj h
    exact .held s _ _ (.inl rfl)
  case resetRelease straps =>
    obtain rfl := Host.Outcome.next.inj h
    split
    · exact .power _ straps
    · exact .moves (.rfl' s)
  case ringTick fhold => exact State.live_comes (f := fun u => u.ringTicked fhold) h (.moves (s.ringTicked_moves _).reaches)
  case syncPeriodEnd => exact State.live_comes h (.moves s.takePeriodEnd_moves.reaches)
  case historyAgeOut =>
    exact State.live_comes (f := fun u => u.onTravel TravelUnit.dropAged) h
      (.moves (State.onTravel_moves fun h => ⟨(List.length_filter_le _ _).trans h.1, h.2⟩).reaches)
  case travelLoss => exact State.live_comes h (.moves s.takeLoss_reaches)
  case idleTimeout => exact State.live_comes h (.moves s.takeIdle_moves.reaches)
  case holdoffEnd => exact State.live_comes h (.moves s.takeHoldoff_moves.reaches)
  case ringBreak => exact State.live_comes h (.moves s.ringBroken_reaches)
  case fholdAssert => exact State.live_comes h (.moves s.takeAssert_moves.reaches)
  case fholdRelease => exact State.live_comes h (.moves s.takeRelease_moves.reaches)
  case frameReceive bytes => exact State.live_comes (f := fun u => u.receiveBytes bytes) h (s.receiveBytes_comes bytes)
  case transitForward => exact State.live_comes h (.moves s.transitOut_moves.reaches)
  case frameInsert => exact State.live_comes h (.moves s.tryInsert_moves.reaches)
  case ringOutComplete => exact State.live_comes h (.moves (State.onCounts_moves (f := fun p => { p with out := .idle })).reaches)
  case lineStateQueue => exact State.live_comes h (.moves s.queueLineState_moves.reaches)
  case alertQueue =>
    refine State.live_comes h (.moves (State.LotMoves.reaches ?_))
    unfold State.offerAlertSpace
    split
    · exact s.queueAlert_lotMoves
    · exact .rfl' s
  case tallyQueue => exact State.live_comes h (.moves s.sendTallies_lotMoves.reaches)
  case restartFull e =>
    exact State.live_comes (f := fun u => (u.strapped e.straps).receive (commandFrame e.frame 3 [])) h (s.straps_comes _ _)
  all_goals exact State.live_comes (f := fun u => u.receive _) h (s.receive_comes _)

end Sys2Proof.Machine

/-! SUPPORT. What a grant leaves in each block, and the invariants that every step keeps: one lemma for each says that a
move keeps it. -/

namespace Sys2Proof.Machine

open Sys2Proof

/-! ### The grant, block by block (R102) -/

theorem State.testHold_feed (s : State) : s.testHold.feed =
    { s.feed with hold := s.holdAfter, condition := (s.onFeed fun q => { q with hold := s.holdAfter }).feedCondition } := by
  rw [State.testHold, State.refreshFeed_feed]
  rfl

theorem State.testHold_blocks (s : State) : s.testHold.pieces = s.pieces ∧ s.testHold.batch = s.batch :=
  State.refreshFeed_blocks (s.onFeed fun q => { q with hold := s.holdAfter })

/-- A change made lane by lane over a list of lanes. -/
theorem State.foldl_onLane (f : LaneEntry → LaneEntry) (hf : ∀ e, f (f e) = f e) : ∀ (lanes : List Lane) (s : State),
    (lanes.foldl (fun u k => u.onLane k f) s).feed =
        { s.feed with lanes := (lanes.foldl (fun u k => u.onLane k f) s).feed.lanes } ∧
      (lanes.foldl (fun u k => u.onLane k f) s).pieces = s.pieces ∧
      ∀ k, (lanes.foldl (fun u k => u.onLane k f) s).lane k = if k ∈ lanes then f (s.lane k) else s.lane k := by
  intro lanes
  induction lanes with
  | nil => exact fun s => ⟨rfl, rfl, fun k => by simp⟩
  | cons l rest ih =>
    intro s
    obtain ⟨hfeed, hpieces, hlane⟩ := ih (s.onLane l f)
    refine ⟨hfeed, hpieces, fun k => ?_⟩
    rw [List.foldl_cons, hlane k]
    by_cases hk : k = l
    · subst hk
      rw [State.onLane_lane_self]
      simp only [hf, ite_self, List.mem_cons, true_or, if_true]
    · rw [State.onLane_lane_other _ _ hk]
      simp only [List.mem_cons, hk, false_or]

theorem mem_spanLanes {sp : Span} {k : Lane} : k ∈ spanLanes sp ↔ spanHas sp k = true := by
  rw [spanLanes, List.mem_filter]
  exact and_iff_right (by cases k <;> simp [allLanes])

theorem State.setTails_lane (s : State) (sp : Span) (t : Tail) (k : Lane) :
    (s.setTails sp t).lane k = { s.lane k with tail := if spanHas sp k then some t else (s.lane k).tail } := by
  rw [State.setTails, (State.foldl_onLane (fun e => { e with tail := some t }) (fun _ => rfl) _ s).2.2 k]
  simp only [mem_spanLanes]
  split <;> rfl

theorem State.setTails_feed (s : State) (sp : Span) (t : Tail) :
    (s.setTails sp t).feed = { s.feed with lanes := (s.setTails sp t).feed.lanes } ∧ (s.setTails sp t).pieces = s.pieces :=
  have h := State.foldl_onLane (fun e => { e with tail := some t }) (fun _ => rfl) (spanLanes sp) s
  ⟨h.1, h.2.1⟩

/-- A lane given a run state without a request, and the others as they were. -/
theorem State.restLane_lane (s : State) (l : Lane) (run : LaneRun) (k : Lane) :
    (s.restLane l run).lane k = if k = l then { s.lane l with run := run, request := none } else s.lane k := by
  split
  next h => subst h; exact PerLane.get_set_self _ _ _
  next h => exact PerLane.get_set_other _ _ h

section

variable {s : State} {l : Lane} {r : LaneRequest}

/-- The tail that a grant gives the lanes of its span (R106). -/
def State.grantTail (s : State) (l : Lane) (r : LaneRequest) : Tail :=
  { pos := posAdd (s.predictedLead l) (s.lengthBasis (s.grantRecord l r) : Nat), gap := s.trailGap (s.grantRecord l r),
    owner := s.newNumber }

/-- The state of a grant before the hold flag is tested: steps 1 to 6 of R102. -/
def State.granting (s : State) (l : Lane) (r : LaneRequest) : State :=
  (((s.addRecord (s.grantRecord l r)).onPieces fun t => { t with granted := t.granted + 1 }).grantLane l
    (s.grantRecord l r)).onFeed fun q => { q with occupancy := q.occupancy + 1 }

theorem State.grant_eq (hroom : s.tableFull = false) : s.grant l r =
    ((s.granting l r).testHold.batchGranted r.batch).pushUrgent
      { dest := (s.lane l).cfg.node, msg := .grant l r.span s.newNumber, suspect := false } := by
  rw [State.grant, if_neg (by simp [hroom])]
  rfl

theorem State.granting_lane (k : Lane) : (s.granting l r).lane k =
    { s.lane k with
      run := if k = l then .granted else (s.lane k).run
      request := if k = l then none else (s.lane k).request
      tail := if spanHas r.span k then some (s.grantTail l r) else (s.lane k).tail } := by
  have h : (s.granting l r).lane k = _ := State.setTails_lane (State.restLane
    ((s.addRecord (s.grantRecord l r)).onPieces fun t => { t with granted := t.granted + 1 }) l .granted) r.span
    (s.grantTail l r) k
  rw [h, State.restLane_lane]
  by_cases hk : k = l
  · subst hk
    simp only [if_true]
    rfl
  · simp only [hk, if_false]
    rfl

theorem State.granting_feed : (s.granting l r).feed =
    { s.feed with
      lanes := (s.granting l r).feed.lanes
      order := s.feed.order.filter (· != l)
      lastBatch := some r.batch
      pointer := l.next
      occupancy := s.feed.occupancy + 1 } := by
  have h := (State.setTails_feed (State.restLane
    ((s.addRecord (s.grantRecord l r)).onPieces fun t => { t with granted := t.granted + 1 }) l .granted) r.span
    (s.grantTail l r)).1
  exact congrArg (fun q : FeedSequencer =>
    { q with lastBatch := some r.batch, pointer := l.next, occupancy := q.occupancy + 1 }) h

theorem State.granting_pieces : (s.granting l r).pieces =
    { s.pieces with
      records := insertRecord (s.grantRecord l r) s.pieces.records
      counter := nextNumber s.newNumber
      granted := s.pieces.granted + 1 } :=
  (State.setTails_feed (State.restLane
    ((s.addRecord (s.grantRecord l r)).onPieces fun t => { t with granted := t.granted + 1 }) l .granted) r.span
    (s.grantTail l r)).2

theorem State.granting_batch : (s.granting l r).batch = s.batch :=
  State.setTails_batch (State.restLane
    ((s.addRecord (s.grantRecord l r)).onPieces fun t => { t with granted := t.granted + 1 }) l .granted) r.span
    (s.grantTail l r)

theorem State.granting_feedOnly (s : State) (l : Lane) (r : LaneRequest) : s.FeedOnly (s.granting l r) :=
  (((s.onPieces_feedOnly _).trans (State.onPieces_feedOnly _ _)).trans (State.grantLane_feedOnly _ _ _)).trans
    (State.onFeed_feedOnly _ _)

variable (hroom : s.tableFull = false)
include hroom

theorem State.grant_feed : (s.grant l r).feed = (s.granting l r).testHold.feed := by
  rw [State.grant_eq hroom]
  rfl

theorem State.grant_lane (k : Lane) : (s.grant l r).lane k = (s.granting l r).lane k := by
  rw [State.lane, State.grant_feed hroom, State.testHold_feed]
  rfl

theorem State.grant_order : (s.grant l r).feed.order = s.feed.order.filter (· != l) := by
  rw [State.grant_feed hroom, State.testHold_feed, State.granting_feed]

theorem State.grant_pieces : (s.grant l r).pieces =
    { s.pieces with
      records := insertRecord (s.grantRecord l r) s.pieces.records
      counter := nextNumber s.newNumber
      granted := s.pieces.granted + 1 } := by
  rw [State.grant_eq hroom, ← State.granting_pieces]
  exact (State.testHold_blocks _).1

theorem State.grant_batch : (s.grant l r).batch =
    { s.batch with
      places := s.batch.places.map fun e => e.map fun b => if b.number == r.batch then { b with live := b.live + 1 } else b
      idle := .running 0 false } := by
  rw [State.grant_eq hroom, ← (State.granting_batch (s := s) (l := l) (r := r)),
    ← (State.testHold_blocks (s.granting l r)).2]
  rfl

end

/-! ### The batch list and the fault list (R119, R158) -/

theorem State.LotMove.placesSound {a b : State} (h : a.LotMove b) (hs : placesSound a.batch.places) :
    placesSound b.batch.places := by
  cases h with
  | dropTails => exact hs
  | grant l r hrun hrequest hqualifies hroom =>
    rw [State.grant_batch hroom]
    refine placesSound_map hs fun b => ?_
    split <;> exact ⟨rfl, rfl⟩
  | testHold => rwa [(State.testHold_blocks a).2]
  | batch b hblock hsound => exact hsound hs
  | block b hsound =>
    rw [State.refreshFeed_batch]
    exact hsound hs
  | routine => exact hs
  | faults => exact hs

theorem State.enterLine_blocks (s : State) (l : LineState) (c : Option FaultCode) :
    (s.enterLine l c).batch = s.batch ∧ (s.enterLine l c).pieces = s.pieces ∧ (s.enterLine l c).faults = s.faults ∧
      (s.enterLine l c).feed.lanes = s.feed.lanes ∧ (s.enterLine l c).feed.order = s.feed.order := by
  have howe : (s.setLine l c).oweLineState.batch = s.batch ∧ (s.setLine l c).oweLineState.pieces = s.pieces ∧
      (s.setLine l c).oweLineState.faults = s.faults ∧ (s.setLine l c).oweLineState.feed = s.feed := by
    unfold State.oweLineState State.queueLineState
    split <;> exact ⟨rfl, rfl, rfl, rfl⟩
  obtain ⟨hbatch, hpieces, hfaults, hfeed⟩ := howe
  unfold State.enterLine
  rw [State.refreshFeed_batch, (State.refreshFeed_blocks _).1, (State.refreshFeed_feedOnly _).faults,
    State.refreshFeed_feed, hfeed]
  exact ⟨hbatch, hpieces, hfaults, rfl, rfl⟩

theorem State.Move.placesSound {a b : State} (h : a.Move b) (hs : placesSound a.batch.places) :
    placesSound b.batch.places := by
  cases h with
  | lots h => exact h.placesSound hs
  | refresh q => rwa [State.refreshFeed_batch]
  | toConfig => rwa [(a.enterLine_blocks _ _).1]
  | toSuspect c => exact ((a.enterLine_blocks _ _).1 ▸ hs :)
  | _ => exact hs

theorem State.Move.faultsSound {a b : State} (h : a.Move b) (hs : a.faultsSound = true) : b.faultsSound = true := by
  have hkeep {t : State} (ht : t.faults = a.faults) : t.faultsSound = true := by
    rw [State.faultsSound, ht]
    exact hs
  cases h with
  | lots h =>
    cases h with
    | grant l r => exact hkeep (a.grant_feedOnly l r).faults
    | testHold => exact hkeep a.testHold_feedOnly.faults
    | block b => exact hkeep (State.refreshFeed_feedOnly _).faults
    | faults m hsound => exact hsound hs
    | _ => exact hs
  | refresh q => exact hkeep (State.refreshFeed_feedOnly _).faults
  | toConfig => exact hkeep (a.enterLine_blocks _ _).2.2.1
  | toSuspect c => exact hkeep (a.enterLine_blocks .suspect (some c)).2.2.1
  | _ => exact hs

/-! ### The travel state and the repeat-fault table (R2, R4, R12, R35) -/

theorem State.Move.travelSound {a b : State} (h : a.Move b) (hs : a.travel.Bounded) : b.travel.Bounded := by
  cases h with
  | lots h =>
    cases h with
    | grant l r => rwa [(a.grant_feedOnly l r).travel]
    | testHold => rwa [a.testHold_feedOnly.travel]
    | block b => rwa [(State.refreshFeed_feedOnly _).travel]
    | _ => exact hs
  | travel u hbounded => exact hbounded hs
  | refresh q => rwa [(State.refreshFeed_feedOnly _).travel]
  | toConfig => rwa [(a.enterLine_lineOnly _ _).travel]
  | toSuspect c => exact ((a.enterLine_lineOnly .suspect (some c)).travel ▸ hs :)
  | _ => exact hs

theorem State.Move.repeatsSound {a b : State} (h : a.Move b) (hs : a.eyes.Bounded) : b.eyes.Bounded := by
  cases h with
  | lots h =>
    cases h with
    | grant l r => rwa [(a.grant_feedOnly l r).eyes]
    | testHold => rwa [a.testHold_feedOnly.eyes]
    | block b => rwa [(State.refreshFeed_feedOnly _).eyes]
    | _ => exact hs
  | eyes q hbounded => exact hbounded hs
  | refresh q => rwa [(State.refreshFeed_feedOnly _).eyes]
  | toConfig => rwa [(a.enterLine_lineOnly _ _).eyes]
  | toSuspect c => exact ((a.enterLine_lineOnly .suspect (some c)).eyes ▸ hs :)
  | _ => exact hs

/-! ### The Ring Port (R172 to R178) -/

theorem RingPort.Holds.queues {p q : RingPort} (h : p.Holds) (hport : p.queuesOnly q) (hroutine : q.routine = p.routine) :
    q.Holds := by
  obtain ⟨htransit, hown, hplaces, hreceiving⟩ := h
  rw [hport]
  exact ⟨htransit, hown, by rw [hroutine]; exact hplaces, hreceiving⟩

theorem State.FeedOnly.holds {a b : State} (h : a.FeedOnly b) (hs : a.port.Holds) : b.port.Holds :=
  hs.queues h.port h.routine

theorem State.enterLine_holds {s : State} (l : LineState) (c : Option FaultCode) (hs : s.port.Holds) :
    (s.enterLine l c).port.Holds := by
  refine (State.refreshFeed_feedOnly _).holds ?_
  unfold State.oweLineState State.queueLineState
  split
  next h => exact hs.push h.2 _
  next => exact hs

/-- What a move keeps of the Ring Port: its bounds, the reservation and the own address. -/
def RingPort.KeptBy (p q : RingPort) : Prop := (p.Holds → q.Holds) ∧ q.reserved = p.reserved ∧ q.own = p.own

theorem State.FeedOnly.keptBy {a b : State} (h : a.FeedOnly b) : a.port.KeptBy b.port :=
  ⟨h.holds, (congrArg RingPort.reserved h.port :), (congrArg RingPort.own h.port :)⟩

theorem State.enterLine_keptBy (s : State) (l : LineState) (c : Option FaultCode) :
    s.port.KeptBy (s.enterLine l c).port :=
  have h := (s.enterLine_lineOnly l c).port
  ⟨State.enterLine_holds l c, (congrArg RingPort.reserved h :), (congrArg RingPort.own h :)⟩

theorem State.Move.keptBy {a b : State} (h : a.Move b) : a.port.KeptBy b.port := by
  cases h with
  | lots h =>
    cases h with
    | grant l r => exact (a.grant_feedOnly l r).keptBy
    | testHold => exact a.testHold_feedOnly.keptBy
    | block b => exact (State.refreshFeed_feedOnly { a with batch := b }).keptBy
    | routine d m hroom => exact ⟨fun hs => hs.push hroom _, rfl, rfl⟩
    | _ => exact ⟨id, rfl, rfl⟩
  | port p hown hreserved hholds => exact ⟨hholds, hreserved, hown⟩
  | refresh q => exact (State.refreshFeed_feedOnly { a with feed := q }).keptBy
  | toConfig => exact a.enterLine_keptBy _ _
  | toSuspect c => exact a.enterLine_keptBy .suspect (some c)
  | _ => exact ⟨id, rfl, rfl⟩

/-! ### The piece table (R38, R39, R43, R154, R155) -/

/-- What a move keeps of the piece table. -/
structure PieceTable.KeptBy (t u : PieceTable) : Prop where
  bounded : t.Bounded → u.Bounded
  numbered : t.Numbered → u.Numbered

theorem PieceTable.KeptBy.of_eq {t u : PieceTable} (h : u = t) : t.KeptBy u := h ▸ ⟨id, id⟩

/-- A record placed under the next number leaves the table as it is to be. -/
theorem State.insert_keptBy {s : State} {r : Piece} (hroom : s.tableFull = false) (hnum : r.number = s.newNumber)
    (granted : Count) : s.pieces.KeptBy
      { s.pieces with records := insertRecord r s.pieces.records, counter := nextNumber s.newNumber, granted := granted } := by
  refine ⟨fun h => ⟨?_, ?_⟩, fun h => ⟨nextNumber_ne_zero _, fun q hq => ?_⟩⟩
  · rw [insertRecord_length]
    exact State.tableFull_eq_false.mp hroom
  · refine ((insertRecord_perm r _).map _).nodup_iff.mpr (List.nodup_cons.mpr ⟨fun hmem => ?_, h.2⟩)
    obtain ⟨q, hq, heq⟩ := List.mem_map.mp hmem
    exact State.newNumber_free hroom q hq (heq.trans hnum)
  · rcases mem_insertRecord.mp hq with rfl | hq
    · rw [hnum]
      exact freeNumber_ne_zero _ _ h.1
    · exact h.2 q hq

/-- Doubt on every record keeps their number and their numbers. -/
theorem PieceTable.doubted_keptBy (t : PieceTable) :
    t.KeptBy { t with records := t.records.map fun r => { r with doubt := true } } := by
  refine ⟨fun h => ⟨(List.length_map _).trans_le h.1, ?_⟩, fun h => ⟨h.1, fun q hq => ?_⟩⟩
  · rw [List.map_map]
    exact h.2
  · obtain ⟨r, hr, rfl⟩ := List.mem_map.mp hq
    exact h.2 r hr

theorem State.Move.pieces_keptBy {a b : State} (h : a.Move b) : a.pieces.KeptBy b.pieces := by
  cases h with
  | lots h =>
    cases h with
    | grant l r hrun hrequest hqualifies hroom =>
      rw [State.grant_pieces hroom]
      exact State.insert_keptBy hroom rfl _
    | testHold => exact .of_eq (State.testHold_blocks a).1
    | block b => exact .of_eq (State.refreshFeed_blocks _).1
    | _ => exact .of_eq rfl
  | pieces t hbounded hnumbered => exact ⟨hbounded, hnumbered⟩
  | refresh q => exact .of_eq (State.refreshFeed_blocks _).1
  | toConfig => exact .of_eq (a.enterLine_blocks _ _).2.1
  | toSuspect c =>
    have hsuspect := (a.enterLine_blocks .suspect (some c)).2.1
    exact hsuspect ▸ PieceTable.doubted_keptBy _
  | _ => exact .of_eq rfl

/-- While the line is SUSPECT every record has doubt. -/
def State.Doubts (s : State) : Prop := s.line.state = .suspect → s.pieces.Doubted

theorem State.qualifies_run {s : State} {l : Lane} {r : LaneRequest} (h : s.qualifies l r = true) :
    s.line.state = .run := by
  by_contra hne
  rw [State.qualifies_notRun s l r hne] at h
  exact absurd h (by simp)

theorem State.Move.doubts {a b : State} (h : a.Move b) (hs : a.Doubts) : b.Doubts := by
  cases h with
  | lots h =>
    cases h with
    | grant l r hrun hrequest hqualifies hroom =>
      intro hsuspect
      rw [(a.grant_feedOnly l r).line, State.qualifies_run hqualifies] at hsuspect
      exact absurd hsuspect (by simp)
    | testHold =>
      rw [State.Doubts, a.testHold_feedOnly.line, (State.testHold_blocks a).1]
      exact hs
    | block b =>
      rw [State.Doubts, (State.refreshFeed_feedOnly _).line, (State.refreshFeed_blocks _).1]
      exact hs
    | _ => exact hs
  | pieces t hbounded hnumbered hdoubted =>
    exact fun hsuspect => hdoubted (by rw [show a.line.state = .suspect from hsuspect]; simp) (hs hsuspect)
  | refresh q =>
    rw [State.Doubts, (State.refreshFeed_feedOnly _).line, (State.refreshFeed_blocks _).1]
    exact hs
  | toConfig hstate =>
    intro hsuspect
    rw [(a.enterLine_line _ _).1] at hsuspect
    exact absurd hsuspect (by simp)
  | toSuspect c =>
    intro _ q hq
    obtain ⟨r, -, rfl⟩ := List.mem_map.mp hq
    rfl
  | _ => exact hs

/-! ### Lanes, requests and the order (R94, R95) -/

/-- What a move keeps of the lanes' requests and of the request order. -/
structure FeedSequencer.KeptBy (q p : FeedSequencer) : Prop where
  requesting : q.Requesting → p.Requesting
  ordered : q.Ordered → p.Ordered

theorem FeedSequencer.KeptBy.of_same {q p : FeedSequencer}
    (hlanes : ∀ l, (p.lanes.get l).run = (q.lanes.get l).run ∧ (p.lanes.get l).request = (q.lanes.get l).request)
    (horder : p.order = q.order) : q.KeptBy p := by
  refine ⟨fun h l => ?_, fun h => ⟨horder ▸ h.1, fun l => ?_⟩⟩
  · rw [(hlanes l).1, (hlanes l).2]
    exact h l
  · rw [horder, (hlanes l).1]
    exact h.2 l

theorem FeedSequencer.KeptBy.of_eq {q p : FeedSequencer} (hlanes : p.lanes = q.lanes) (horder : p.order = q.order) :
    q.KeptBy p := .of_same (fun l => by rw [hlanes]; exact ⟨rfl, rfl⟩) horder

theorem State.refreshFeed_keptBy (s : State) : s.feed.KeptBy s.refreshFeed.feed := by
  rw [State.refreshFeed_feed]
  exact .of_eq rfl rfl

theorem State.grant_keptBy {s : State} {l : Lane} {r : LaneRequest} (hroom : s.tableFull = false) :
    s.feed.KeptBy (s.grant l r).feed := by
  have hlane (k : Lane) : ((s.grant l r).feed.lanes.get k).run = (if k = l then .granted else (s.lane k).run) ∧
      ((s.grant l r).feed.lanes.get k).request = if k = l then none else (s.lane k).request := by
    have h := (State.grant_lane (l := l) (r := r) hroom k).trans (State.granting_lane k)
    exact ⟨congrArg LaneEntry.run h, congrArg LaneEntry.request h⟩
  refine ⟨fun h k => ?_, fun h => ⟨?_, fun k => ?_⟩⟩
  · rw [(hlane k).1, (hlane k).2]
    split
    · simp
    · exact h k
  · rw [State.grant_order hroom]
    exact h.1.filter _
  · rw [State.grant_order hroom, (hlane k).1, List.mem_filter, bne_iff_ne]
    split
    next hk => simp [hk]
    next hk => simp [hk, h.2 k, State.lane]

theorem State.Move.feed_keptBy {a b : State} (h : a.Move b) : a.feed.KeptBy b.feed := by
  cases h with
  | lots h =>
    cases h with
    | dropTails => exact .of_same (fun l => by simp [State.dropTails]) rfl
    | grant l r hrun hrequest hqualifies hroom => exact State.grant_keptBy hroom
    | testHold => exact .of_eq (by rw [State.testHold_feed]) (by rw [State.testHold_feed])
    | block b => exact (State.refreshFeed_keptBy { a with batch := b })
    | _ => exact .of_eq rfl rfl
  | feed q hhold hfhold hcondition hrequesting hordered => exact ⟨hrequesting, hordered⟩
  | refresh q hlanes horder =>
    rw [State.refreshFeed_feed]
    exact .of_eq hlanes horder
  | toConfig => exact .of_eq (a.enterLine_blocks _ _).2.2.2.1 (a.enterLine_blocks _ _).2.2.2.2
  | toSuspect c =>
    exact .of_eq (a.enterLine_blocks .suspect (some c)).2.2.2.1 (a.enterLine_blocks .suspect (some c)).2.2.2.2
  | _ => exact .of_eq rfl rfl

/-! ### The feed-permitted condition (R110) -/

/-- The held condition is the one that the state gives. -/
def State.Conditioned (s : State) : Prop := s.feed.condition = s.feedCondition

theorem State.conditionSound_iff {s : State} : s.conditionSound = true ↔ s.Conditioned := beq_iff_eq

theorem State.refreshFeed_conditioned (s : State) : s.refreshFeed.Conditioned := s.refreshFeed_sound.symm

/-- The condition depends on the line state, the hold reasons and the block alone. -/
theorem State.Conditioned.same {a b : State} (h : a.Conditioned) (hstate : b.line.state = a.line.state)
    (hfhold : b.feed.fhold = a.feed.fhold) (hhold : b.feed.hold = a.feed.hold)
    (hcondition : b.feed.condition = a.feed.condition) (hblock : b.batch.block = a.batch.block) : b.Conditioned := by
  unfold State.Conditioned State.feedCondition at *
  rw [hstate, hfhold, hhold, hcondition, hblock]
  exact h

theorem State.testHold_conditioned (s : State) : s.testHold.Conditioned := State.refreshFeed_conditioned _

theorem State.grant_conditioned {s : State} {l : Lane} {r : LaneRequest} (hroom : s.tableFull = false) :
    (s.grant l r).Conditioned := by
  refine State.Conditioned.same (State.testHold_conditioned (s.granting l r)) ?_ ?_ ?_ ?_ ?_
  · rw [(s.grant_feedOnly l r).line, (State.testHold_feedOnly _).line, (s.granting_feedOnly l r).line]
  · rw [State.grant_feed hroom]
  · rw [State.grant_feed hroom]
  · rw [State.grant_feed hroom]
  · rw [State.grant_batch hroom, (State.testHold_blocks _).2, State.granting_batch]

theorem State.Move.conditioned {a b : State} (h : a.Move b) (hs : a.Conditioned) : b.Conditioned := by
  cases h with
  | lots h =>
    cases h with
    | grant l r hrun hrequest hqualifies hroom => exact State.grant_conditioned hroom
    | testHold => exact a.testHold_conditioned
    | batch b hblock => exact hs.same rfl rfl rfl rfl hblock
    | block b => exact State.refreshFeed_conditioned _
    | _ => exact hs
  | feed q hhold hfhold hcondition => exact hs.same rfl hfhold hhold hcondition rfl
  | refresh q => exact State.refreshFeed_conditioned _
  | toConfig => exact State.refreshFeed_conditioned _
  | toSuspect c => exact State.refreshFeed_conditioned ((a.setLine .suspect (some c)).oweLineState)
  | _ => exact hs

/-! ### The line state (R148, R149, R154) -/

/-- The suspect cause and TFAULT stand exactly in SUSPECT. -/
def LineControl.Sound (q : LineControl) : Prop :=
  q.tfault = (q.state == .suspect) ∧ q.cause.isSome = (q.state == .suspect)

theorem State.lineSound_iff {s : State} : s.lineSound = true ↔ s.line.Sound := by
  simp only [State.lineSound, Bool.and_eq_true, beq_iff_eq]
  rfl

theorem State.enterLine_sound {s : State} {l : LineState} {c : Option FaultCode} (hcause : c.isSome = (l == .suspect)) :
    (s.enterLine l c).line.Sound := by
  obtain ⟨hstate, hc, htfault⟩ := s.enterLine_line l c
  exact ⟨by rw [hstate, htfault], by rw [hstate, hc]; exact hcause⟩

theorem State.LotMove.line_eq {a b : State} (h : a.LotMove b) : b.line = a.line := by
  cases h with
  | grant l r => exact (a.grant_feedOnly l r).line
  | testHold => exact a.testHold_feedOnly.line
  | block b => exact (State.refreshFeed_feedOnly { a with batch := b }).line
  | _ => rfl

/-- Without a request the line state stays, goes to SUSPECT, or goes from DRAINING to CONFIG. -/
def driftsTo (l m : LineState) : Prop := m = l ∨ m = .suspect ∨ (l = .draining ∧ m = .config)

theorem driftsTo_trans {l m n : LineState} (h : driftsTo l m) (k : driftsTo m n) : driftsTo l n := by
  rcases h with rfl | rfl | ⟨rfl, rfl⟩
  · exact k
  · rcases k with rfl | rfl | ⟨h, -⟩
    · exact .inr (.inl rfl)
    · exact .inr (.inl rfl)
    · exact absurd h (by simp)
  · rcases k with rfl | rfl | ⟨h, -⟩
    · exact .inr (.inr ⟨rfl, rfl⟩)
    · exact .inr (.inl rfl)
    · exact absurd h (by simp)

theorem State.Move.line {a b : State} (h : a.Move b) :
    (a.line.Sound → b.line.Sound) ∧ driftsTo a.line.state b.line.state := by
  have hsame {t : State} (ht : t.line = a.line) : (a.line.Sound → t.line.Sound) ∧ driftsTo a.line.state t.line.state := by
    rw [ht]
    exact ⟨id, .inl rfl⟩
  cases h with
  | lots h => exact hsame h.line_eq
  | refresh q => exact hsame (State.refreshFeed_feedOnly { a with feed := q }).line
  | owed => exact ⟨id, .inl rfl⟩
  | toConfig hstate =>
    exact ⟨fun _ => State.enterLine_sound rfl, .inr (.inr ⟨hstate, (a.enterLine_line _ _).1⟩)⟩
  | toSuspect c =>
    exact ⟨fun _ => State.enterLine_sound (s := a) rfl, .inr (.inl (a.enterLine_line .suspect (some c)).1)⟩
  | _ => exact hsame rfl

end Sys2Proof.Machine

/-! SUPPORT. Operations outside RUN, where nothing is granted; the cancellations of R117; and the statements that every
step keeps. -/

namespace Sys2Proof.Machine

open Sys2Proof

/-! ### Outside RUN -/

/-- Two lane entries agree but for their tails. -/
def LaneEntry.Agrees (e f : LaneEntry) : Prop := f = { e with tail := f.tail }

theorem LaneEntry.Agrees.trans {e f g : LaneEntry} (h : e.Agrees f) (k : f.Agrees g) : e.Agrees g := by
  unfold LaneEntry.Agrees at *
  rw [k, h]

theorem LaneEntry.Agrees.run {e f : LaneEntry} (h : e.Agrees f) : f.run = e.run ∧ f.request = e.request :=
  ⟨(congrArg LaneEntry.run h :), (congrArg LaneEntry.request h :)⟩

/-- The records, the lanes but for their tails, the request order and the line are as they were. -/
structure State.Quiet (s t : State) : Prop where
  pieces : t.pieces = s.pieces
  order : t.feed.order = s.feed.order
  lanes : ∀ l, (s.lane l).Agrees (t.lane l)
  occupancy : t.feed.occupancy = s.feed.occupancy
  line : t.line = s.line

theorem State.Quiet.rfl' (s : State) : s.Quiet s := ⟨rfl, rfl, fun _ => rfl, rfl, rfl⟩

theorem State.Quiet.trans {s t u : State} (h : s.Quiet t) (k : t.Quiet u) : s.Quiet u := by
  exact ⟨k.pieces.trans h.pieces, k.order.trans h.order, fun l => (h.lanes l).trans (k.lanes l),
    k.occupancy.trans h.occupancy, k.line.trans h.line⟩

theorem State.refreshFeed_quiet (s : State) : s.Quiet s.refreshFeed := by
  have hfeed := s.refreshFeed_feed
  refine ⟨s.refreshFeed_blocks.1, by rw [hfeed], fun l => ?_, by rw [hfeed], s.refreshFeed_feedOnly.line⟩
  rw [LaneEntry.Agrees, State.lane, State.lane, hfeed]

theorem State.testHold_quiet (s : State) : s.Quiet s.testHold :=
  have h := State.refreshFeed_quiet (s.onFeed fun q => { q with hold := s.holdAfter })
  ⟨h.pieces, h.order, h.lanes, h.occupancy, h.line⟩

theorem State.dropTails_quiet (s : State) : s.Quiet s.dropTails := by
  refine ⟨rfl, rfl, fun l => ?_, rfl, rfl⟩
  simp only [LaneEntry.Agrees, State.lane, State.dropTails, State.onFeed, PerLane.get_map]

/-- Outside RUN the Sequencer, the Batch Counter and the Fault Monitor leave records and lanes alone. -/
theorem State.LotMoves.quiet {s t : State} (h : s.LotMoves t) (hrun : s.line.state ≠ .run) : s.Quiet t := by
  induction h with
  | refl => exact .rfl' s
  | @tail u _ _ hstep ih =>
    refine ih.trans ?_
    cases hstep with
    | dropTails => exact State.dropTails_quiet _
    | grant l r _ _ hqualifies => exact absurd (ih.line ▸ State.qualifies_run hqualifies) hrun
    | testHold => exact State.testHold_quiet _
    | block b =>
      have h := State.refreshFeed_quiet { u with batch := b }
      exact ⟨h.pieces, h.order, h.lanes, h.occupancy, h.line⟩
    | _ => exact ⟨rfl, rfl, fun _ => rfl, rfl, rfl⟩

/-- The lane after a record's cancellation: READY with the record's request where the record was in GRANTED (R112, R117). -/
def Piece.cancelledLane (r : Piece) (l : Lane) (e : LaneEntry) : LaneEntry :=
  if l = r.lane ∧ r.state = .granted ∧ r.anonymous = false then { e with run := .ready, request := some r.request } else e

/-- What the cancellation of one record leaves in SUSPECT (R117). -/
structure State.Cancels (s t : State) (r : Piece) : Prop where
  records : t.pieces.records = s.pieces.records.filter fun q => q.number != r.number
  order : t.feed.order = s.feed.order
  lanes : ∀ l, (r.cancelledLane l (s.lane l)).Agrees (t.lane l)
  line : t.line = s.line

theorem State.reportRemoval_quiet {s : State} (r : Piece) (o : Removal) (hrun : s.line.state ≠ .run) :
    (s.reportRemoval r o).pieces = s.pieces ∧ (s.reportRemoval r o).feed.order = s.feed.order ∧
      (s.reportRemoval r o).line = s.line ∧
      ∀ l, (s.lane l).Agrees ((s.reportRemoval r o).lane l) := by
  unfold State.reportRemoval
  split
  · exact ⟨rfl, rfl, rfl, fun _ => rfl⟩
  · have hbatch := (s.batchRemoved_lotMoves r.batch r.article r.doubt o).quiet hrun
    have hhold := (State.retestHold_lotMoves ((s.batchRemoved r.batch r.article r.doubt o).onFeed fun q =>
      { q with occupancy := q.occupancy - 1 })).quiet (by rw [State.onFeed_line, hbatch.line]; exact hrun)
    exact ⟨hhold.pieces.trans hbatch.pieces, hhold.order.trans hbatch.order, hhold.line.trans hbatch.line,
      fun l => (hbatch.lanes l).trans (hhold.lanes l)⟩

theorem State.removePiece_cancels {s : State} {n : Half} {r : Piece} (hsuspect : s.line.state = .suspect)
    (hr : s.findPiece n = some r) : s.Cancels (s.removePiece n .cancelled) r := by
  have hwithdrawn : s.withdrawRemoved r .cancelled = s := by simp [State.withdrawRemoved]
  have hrun : (s.takeOut r .cancelled).line.state ≠ .run := by
    rw [State.takeOut, State.onPieces_line, hsuspect]
    simp
  obtain ⟨hpieces, horder, hline, hlanes⟩ := State.reportRemoval_quiet r .cancelled hrun
  have hfilled (t : State) (ht : t.line = s.line) : t.tableEmptied = t := by
    simp [State.tableEmptied, ht, hsuspect]
  simp only [State.removePiece, hr, hwithdrawn]
  have hrecords := (congrArg PieceTable.records hpieces).trans (s.takeOut_records r .cancelled)
  split
  next hgranted =>
    rw [hfilled _ (by exact hline)]
    refine ⟨hrecords, horder, fun l => ?_, hline⟩
    by_cases hl : l = r.lane
    · subst hl
      simp only [Piece.cancelledLane, hgranted, and_self, if_true, State.laneAfterRemoval, State.laneBack,
        State.onLane_lane_self]
      rw [hlanes]
      rfl
    · simp only [Piece.cancelledLane, hl, false_and, if_false, State.laneAfterRemoval, State.laneBack,
        State.onLane_lane_other _ _ hl]
      exact hlanes l
  next hgranted =>
    rw [hfilled _ hline]
    refine ⟨hrecords, horder, fun l => ?_, hline⟩
    simp only [Piece.cancelledLane, hgranted, and_false, if_false]
    exact hlanes l

/-- The record found under a number where records under other numbers are gone is the one found before. -/
theorem findPiece_of_sublist {s t : State} {n : Half} {r : Piece} {removed : List Half}
    (hrecords : t.pieces.records = s.pieces.records.filter fun q => !removed.contains q.number)
    (h : t.findPiece n = some r) : s.findPiece n = some r := by
  have hnum : r.number = n := by simpa using List.find?_some h
  have hin := List.mem_of_find?_eq_some h
  rw [hrecords, List.mem_filter] at hin
  rw [State.findPiece, hrecords, List.find?_filter] at h
  rw [State.findPiece, ← h]
  congr 1
  funext q
  by_cases hq : q.number = n
  · have := hin.2
    simp_all
  · simp [hq]

/-- What the cancellations of some numbers leave in SUSPECT: the lanes changed are those of records found. -/
structure State.CancelledTo (s t : State) (lanes : List Lane) : Prop where
  records : ∃ removed : List Half, t.pieces.records = s.pieces.records.filter fun q => !removed.contains q.number
  order : t.feed.order = s.feed.order
  lanes : ∀ l, (t.lane l).run = (s.lane l).run ∨ (l ∈ lanes ∧ (t.lane l).run = .ready)
  line : t.line = s.line

theorem State.cancel_fold {s : State} (hsuspect : s.line.state = .suspect) (lanes : List Lane) (numbers : List Half)
    (hlanes : ∀ n ∈ numbers, ∀ r, s.findPiece n = some r → r.lane ∈ lanes) :
    s.CancelledTo (numbers.foldl (fun u n => u.removePiece n .cancelled) s) lanes := by
  have general : ∀ (numbers : List Half) (u : State), s.CancelledTo u lanes →
      (∀ n ∈ numbers, ∀ r, s.findPiece n = some r → r.lane ∈ lanes) →
      s.CancelledTo (numbers.foldl (fun u n => u.removePiece n .cancelled) u) lanes := by
    intro numbers
    induction numbers with
    | nil => exact fun u hu _ => hu
    | cons n rest ih =>
      intro u hu hall
      refine ih _ ?_ fun m hm => hall m (List.mem_cons_of_mem _ hm)
      cases hr : u.findPiece n with
      | none => simp only [State.removePiece, hr]; exact hu
      | some r =>
        obtain ⟨removed, hremoved⟩ := hu.records
        have hfound := findPiece_of_sublist hremoved hr
        have hcancels := State.removePiece_cancels (by rw [hu.line]; exact hsuspect) hr
        refine ⟨⟨r.number :: removed, ?_⟩, hcancels.order.trans hu.order, fun l => ?_, hcancels.line.trans hu.line⟩
        · rw [hcancels.records, hremoved, List.filter_filter]
          congr 1
          funext q
          by_cases hq : q.number = r.number <;> simp [hq]
        · rw [(hcancels.lanes l).run.1]
          unfold Piece.cancelledLane
          split
          next hl => exact .inr ⟨hl.1 ▸ hall n (by simp) r hfound, rfl⟩
          next => exact hu.lanes l
  exact general numbers s ⟨⟨[], by simp⟩, rfl, fun _ => .inl rfl, rfl⟩ hlanes

/-- Lanes in READY joined at the front of the order one by one. -/
theorem State.joinFronts (lanes : List Lane) (s : State) (hnodup : s.feed.order.Nodup) :
    (lanes.foldr (fun l u => u.joinFront l) s).feed.lanes = s.feed.lanes ∧
      (lanes.foldr (fun l u => u.joinFront l) s).feed.order.Nodup ∧
      ∀ k, k ∈ (lanes.foldr (fun l u => u.joinFront l) s).feed.order ↔ k ∈ lanes ∨ k ∈ s.feed.order := by
  induction lanes with
  | nil => exact ⟨rfl, hnodup, fun k => by simp⟩
  | cons l rest ih =>
    obtain ⟨hlanes, hnodup', hmem⟩ := ih
    refine ⟨hlanes, List.nodup_cons.mpr ⟨by simp, hnodup'.filter _⟩, fun k => ?_⟩
    show k ∈ l :: List.filter (· != l) _ ↔ _
    rw [List.mem_cons, List.mem_filter, bne_iff_ne, hmem k, List.mem_cons]
    by_cases hk : k = l <;> simp [hk]

theorem State.withdrawGrants_findPiece (s : State) (n : Half) : s.withdrawGrants.findPiece n = s.findPiece n := rfl

/-- A number of the cancel list finds a record whose lane is listed. -/
theorem State.cancelList_lane {s : State} {n : Half} (hn : n ∈ s.cancelList.map fun r => r.number) {r : Piece}
    (hr : s.findPiece n = some r) : r.lane ∈ s.cancelList.map fun r => r.lane := by
  obtain ⟨q, hq, rfl⟩ := List.mem_map.mp hn
  obtain ⟨x, -, hx⟩ := List.mem_filterMap.mp hq
  split at hx
  · exact absurd hx (by simp)
  · next m _ =>
    obtain ⟨hfound, -⟩ := Option.filter_eq_some_iff.mp hx
    have hnum : q.number = m := by simpa using List.find?_some hfound
    rw [hnum, hfound] at hr
    exact List.mem_map.mpr ⟨q, hq, by rw [Option.some.inj hr]⟩

/-- The cancellations keep the request order the list of the lanes in READY (R95, R117). -/
theorem State.cancelGrants_ordered {s : State} (hsuspect : s.line.state = .suspect) (h : s.feed.Ordered) :
    s.cancelGrants.feed.Ordered := by
  have hfold := State.cancel_fold (s := s.withdrawGrants) hsuspect (s.cancelList.map fun r => r.lane)
    (s.cancelList.map fun r => r.number) fun n hn r hr => State.cancelList_lane hn (by exact hr)
  have hmoved (u : State) (hu : u.feed.Ordered) : u.orderChanged.feed.Ordered :=
    u.orderChanged_lotMoves.keeps (I := fun v => v.feed.Ordered)
      (fun hm => (State.Move.lots hm).feed_keptBy.ordered) hu
  unfold State.cancelGrants
  generalize (s.cancelList.map fun r => r.number).foldl (fun u n => u.removePiece n .cancelled) s.withdrawGrants = t at hfold
  refine hmoved _ ?_
  have hnodup : t.feed.order.Nodup := hfold.order ▸ h.1
  obtain ⟨hlanes, hnodup', hmem⟩ := State.joinFronts
    ((s.cancelList.map fun r => r.lane).filter fun l => (t.lane l).run == .ready) t hnodup
  refine ⟨hnodup', fun k => (hmem k).trans ?_⟩
  rw [State.returnLanes, hlanes, List.mem_filter, beq_iff_eq, hfold.order]
  change (k ∈ _ ∧ (t.lane k).run = .ready ∨ k ∈ s.feed.order) ↔ (t.lane k).run = .ready
  rw [h.2 k]
  change _ ∨ (s.lane k).run = .ready ↔ _
  rcases hfold.lanes k with hsame | ⟨hlisted, hready⟩
  · change (t.lane k).run = (s.lane k).run at hsame
    rw [hsame]
    exact ⟨fun h => h.elim And.right id, .inr⟩
  · exact ⟨fun _ => hready, fun _ => .inl ⟨hlisted, hready⟩⟩

/-! ### What every step keeps -/

/-- What a step has to keep of a property that does not depend on the Ring Port. -/
structure State.StepKeeps (I : State → Prop) : Prop where
  move : ∀ {a b : State}, a.Move b → I a → I b
  cancel : ∀ a : State, a.line.state = .suspect → I a → I a.cancelGrants
  line : ∀ (a : State) (l : LineState), l ≠ .suspect → I a → I (a.enterLine l none)
  power : ∀ (a : State) (straps : BitVec 5), I (a.powerUp straps)
  held : ∀ (a : State) (p : Pins) (own : Byte), I (a.heldBlank p own)
  retrack : ∀ a : State, I a → I (a.retracked.oweLineState.queueFeedState (.hold .line))
  straps : ∀ (a : State) (straps : BitVec 5), I a → I (a.strapped straps).performing
  answered : ∀ (a : State) (f : Frame) (result : Byte) (data : List Byte), I a → I (a.answered f result data)
  queue : ∀ (a : State) (l : List Instr), I a → I { a with pending := l }

theorem State.StepKeeps.performs {I : State → Prop} (k : State.StepKeeps I) {s t : State} (h : s.Performs t) (hs : I s) :
    I t := by
  cases h with
  | moves h => exact h.keeps k.move k.cancel hs
  | line l _ hl _ _ _ h => exact h.keeps k.move k.cancel (k.line s l hl hs)
  | power straps => exact k.power s straps
  | retrack => exact k.retrack s hs

theorem State.StepKeeps.comes {I : State → Prop} (k : State.StepKeeps I) {s t : State} (h : s.Comes t) (hs : I s) : I t := by
  cases h with
  | moves h => exact h.keeps k.move k.cancel hs
  | request straps f result data h => exact k.answered _ f result data (k.performs h (k.straps s straps hs))
  | power u straps => exact k.power u straps
  | held u p own => exact k.held u p own

/-- A step idles, or comes to what its command comes to with the rest of the queue. -/
theorem step_comes {s t : State} (h : step s = .next t) :
    t = s ∨ ∃ rest, ({ s with pending := rest } : State).Comes t := by
  unfold step at h
  split at h
  · exact .inl (Host.Outcome.next.inj h).symm
  · exact .inr ⟨_, exec_comes h⟩

theorem State.StepKeeps.step {I : State → Prop} (k : State.StepKeeps I) {s t : State} (h : step s = .next t)
    (hs : I s) : I t := by
  rcases step_comes h with rfl | ⟨rest, hcomes⟩
  · exact hs
  · exact k.comes hcomes (k.queue s rest hs)

/-- The blocks of the power-on state, whatever its reports (R162). -/
theorem State.powerUp_blocks (s : State) (straps : BitVec 5) : s.powerUp straps =
    { State.reset with
      pins := { s.pins with straps := straps }
      port := { State.reset.port with own := ownAddress straps }
      freeIndex := s.freeIndex
      pending := s.pending } := rfl

theorem State.retrack_blocks (s : State) : ∃ p b, s.retracked.oweLineState.queueFeedState (.hold .line) =
    { s.retracked with port := p, line := { state := .config, cause := none, tfault := false, owed := b } } := by
  unfold State.oweLineState State.queueLineState State.queueFeedState
  split <;> split <;> exact ⟨_, _, rfl⟩

/-- An invariant that only the request-free moves can touch. -/
theorem State.StepKeeps.of_blocks {I : State → Prop} (move : ∀ {a b : State}, a.Move b → I a → I b)
    (cancel : ∀ a : State, a.line.state = .suspect → I a → I a.cancelGrants)
    (line : ∀ (a : State) (l : LineState), l ≠ .suspect → I a → I (a.enterLine l none))
    (port : ∀ (a : State) (g : Pins) (p : RingPort) (i : Nat) (l : List Instr), I a →
      I { a with pins := g, port := p, freeIndex := i, pending := l })
    (reset : I State.reset) (blank : I (State.blank { straps := 0, resetHeld := false } 1 0 []))
    (retrack : ∀ (a : State) (b : Bool), I a →
      I { a.retracked with line := { state := .config, cause := none, tfault := false, owed := b } }) :
    State.StepKeeps I where
  move := move
  cancel := cancel
  line := line
  power a straps := port State.reset { a.pins with straps := straps } { State.reset.port with own := ownAddress straps }
    a.freeIndex a.pending reset
  held a p own := port _ p (RingPort.powerOn own) a.freeIndex a.pending blank
  retrack a h := by
    obtain ⟨p, b, heq⟩ := a.retrack_blocks
    rw [heq]
    exact port _ a.pins p a.freeIndex a.pending (retrack a b h)
  straps a straps h := port a { a.pins with straps := straps }
    { a.port with receiving := [], reserved := true } a.freeIndex a.pending h
  answered a f result data h := port a a.pins _ a.freeIndex a.pending h
  queue a l h := port a a.pins a.port a.freeIndex l h

/-- A property of the line alone. -/
theorem lineSound_keeps : State.StepKeeps fun s => s.line.Sound :=
  .of_blocks (fun h => h.line.1) (fun _ _ => State.cancelGrants_keeps (I := fun s => s.line.Sound) (fun h => h.line.1) (fun _ _ h => h) fun _ _ h => h)
    (fun a l hl _ => State.enterLine_sound (by cases l <;> simp_all) ) (fun _ _ _ _ _ h => h) ⟨rfl, rfl⟩ ⟨rfl, rfl⟩
    fun _ _ _ => ⟨rfl, rfl⟩

/-- Settles O3, since TFAULT and the cause change with the line state alone. -/
theorem lineSoundKept : Obligations.LineSoundKept := by
  intro s t hs h
  exact State.lineSound_iff.mpr (lineSound_keeps.step h (State.lineSound_iff.mp hs))

theorem faultsSound_keeps : State.StepKeeps fun s => s.faultsSound = true := by
  have hmove {a b : State} (h : a.Move b) : a.faultsSound = true → b.faultsSound = true := h.faultsSound
  refine .of_blocks hmove (fun _ _ => State.cancelGrants_keeps hmove (fun _ _ h => h) fun _ _ h => h)
    (fun a l _ h => ?_) (fun _ _ _ _ _ h => h) rfl rfl fun _ _ h => h
  rw [State.faultsSound, (a.enterLine_blocks l none).2.2.1]
  exact h

theorem repeatsSound_keeps : State.StepKeeps fun s => s.eyes.Bounded :=
  .of_blocks (fun h => h.repeatsSound)
    (fun _ _ => State.cancelGrants_keeps (I := fun s => s.eyes.Bounded) (fun h => h.repeatsSound) (fun _ _ h => h) fun _ _ h => h)
    (fun a l _ h => by rw [(a.enterLine_lineOnly l none).eyes]; exact h) (fun _ _ _ _ _ h => h)
    ⟨Nat.zero_le _, List.nodup_nil⟩ ⟨Nat.zero_le _, List.nodup_nil⟩ fun _ _ h => h

theorem travelSound_keeps : State.StepKeeps fun s => s.travel.Bounded :=
  .of_blocks (fun h => h.travelSound)
    (fun _ _ => State.cancelGrants_keeps (I := fun s => s.travel.Bounded) (fun h => h.travelSound) (fun _ _ h => h) fun _ _ h => h)
    (fun a l _ h => by rw [(a.enterLine_lineOnly l none).travel]; exact h) (fun _ _ _ _ _ h => h)
    (by simp [TravelUnit.Bounded, State.reset, State.blank, TravelUnit.powerOn])
    (by simp [TravelUnit.Bounded, State.blank, TravelUnit.powerOn]) fun _ _ h => h

theorem placesSound_powerOn : placesSound BatchCounter.powerOn.places := by
  refine ⟨rfl, ?_, ?_⟩ <;> decide

theorem batchesSound_keeps : State.StepKeeps fun s => placesSound s.batch.places :=
  .of_blocks (fun h => h.placesSound)
    (fun _ _ => State.cancelGrants_keeps (I := fun s => placesSound s.batch.places) (fun h => h.placesSound) (fun _ _ h => h) fun _ _ h => h)
    (fun a l _ h => by rw [(a.enterLine_blocks l none).1]; exact h) (fun _ _ _ _ _ h => h)
    placesSound_powerOn placesSound_powerOn fun _ _ _ => placesSound_powerOn

/-- Settles O4, block by block: each bound is kept by every move. -/
theorem boundsKept : Obligations.BoundsKept := by
  refine fun s t h => ⟨faultsSound_keeps.step h, fun hs => ?_, fun hs => ?_, fun hs => ?_⟩
  · exact State.repeatsSound_iff.mpr (repeatsSound_keeps.step h (State.repeatsSound_iff.mp hs))
  · exact State.travelSound_iff.mpr (travelSound_keeps.step h (State.travelSound_iff.mp hs))
  · exact State.batchesSound_iff.mpr (batchesSound_keeps.step h (State.batchesSound_iff.mp hs))

theorem recordsSound_keeps : State.StepKeeps fun s => s.pieces.Bounded :=
  .of_blocks (fun h => h.pieces_keptBy.bounded)
    (fun _ _ => State.cancelGrants_keeps (I := fun s => s.pieces.Bounded) (fun h => h.pieces_keptBy.bounded) (fun _ _ h => h) fun _ _ h => h)
    (fun a l _ h => by rw [(a.enterLine_blocks l none).2.1]; exact h) (fun _ _ _ _ _ h => h)
    ⟨Nat.zero_le _, List.nodup_nil⟩ ⟨Nat.zero_le _, List.nodup_nil⟩ fun _ _ _ => ⟨Nat.zero_le _, List.nodup_nil⟩

theorem numbersSound_keeps : State.StepKeeps fun s => s.pieces.Numbered :=
  .of_blocks (fun h => h.pieces_keptBy.numbered)
    (fun _ _ => State.cancelGrants_keeps (I := fun s => s.pieces.Numbered) (fun h => h.pieces_keptBy.numbered) (fun _ _ h => h) fun _ _ h => h)
    (fun a l _ h => by rw [(a.enterLine_blocks l none).2.1]; exact h) (fun _ _ _ _ _ h => h)
    ⟨by decide, fun _ h => absurd h List.not_mem_nil⟩ ⟨by decide, fun _ h => absurd h List.not_mem_nil⟩
    fun _ _ h => ⟨h.1, fun _ h => absurd h List.not_mem_nil⟩

/-- Settles O6: a creation takes a number that no record holds, and nothing else makes a record or changes its number. -/
theorem recordsKept : Obligations.RecordsKept := by
  refine fun s t h => ⟨fun hs => ?_, fun hs => ?_⟩
  · exact State.recordsSound_iff.mpr (recordsSound_keeps.step h (State.recordsSound_iff.mp hs))
  · exact State.numbersSound_iff.mpr (numbersSound_keeps.step h (State.numbersSound_iff.mp hs))

theorem State.enterLine_keeps_feed (s : State) (l : LineState) (c : Option FaultCode) :
    s.feed.KeptBy (s.enterLine l c).feed :=
  .of_eq (s.enterLine_blocks l c).2.2.2.1 (s.enterLine_blocks l c).2.2.2.2

theorem powerOn_lane (l : Lane) : FeedSequencer.powerOn.lanes.get l = LaneEntry.powerOn := by
  cases l <;> rfl

theorem FeedSequencer.powerOn_requesting : FeedSequencer.powerOn.Requesting := fun l => by
  rw [powerOn_lane]
  simp [LaneEntry.powerOn]

theorem FeedSequencer.powerOn_ordered : FeedSequencer.powerOn.Ordered :=
  ⟨List.nodup_nil, fun l => by rw [powerOn_lane]; simp [LaneEntry.powerOn, FeedSequencer.powerOn]⟩

theorem LaneEntry.retracked_notReady (e : LaneEntry) : e.retracked.run ≠ .ready := by
  unfold LaneEntry.retracked
  dsimp only
  split <;> simp

theorem requestsSound_keeps : State.StepKeeps fun s => s.feed.Requesting := by
  have hmove {a b : State} (h : a.Move b) : a.feed.Requesting → b.feed.Requesting := h.feed_keptBy.requesting
  refine .of_blocks hmove (fun _ _ => State.cancelGrants_keeps (I := fun s => s.feed.Requesting) hmove
    (fun a r h => h.set (by simp) _) fun _ _ h => h) (fun a l _ => (a.enterLine_keeps_feed l none).requesting)
    (fun _ _ _ _ _ h => h) FeedSequencer.powerOn_requesting FeedSequencer.powerOn_requesting fun a _ _ l => ?_
  show ((a.feed.lanes.map LaneEntry.retracked).get l).request.isSome = true ↔ _
  rw [PerLane.get_map]
  exact ⟨fun h => absurd h (by simp [LaneEntry.retracked]),
    fun h => absurd ((congrArg LaneEntry.run (PerLane.get_map _ _ l)).symm.trans h) (LaneEntry.retracked_notReady _)⟩

theorem orderSound_keeps : State.StepKeeps fun s => s.feed.Ordered := by
  refine .of_blocks (fun h => h.feed_keptBy.ordered) (fun _ => State.cancelGrants_ordered)
    (fun a l _ => (a.enterLine_keeps_feed l none).ordered) (fun _ _ _ _ _ h => h) FeedSequencer.powerOn_ordered
    FeedSequencer.powerOn_ordered fun a _ _ => ⟨List.nodup_nil, fun l => ?_⟩
  exact ⟨fun h => absurd h List.not_mem_nil,
    fun h => absurd ((congrArg LaneEntry.run (PerLane.get_map _ _ l)).symm.trans h) (LaneEntry.retracked_notReady _)⟩

/-- Settles O7: a lane gets or loses its request with its run state and its place in the order, and the lanes of cancelled
grants join the order together. -/
theorem requestsKept : Obligations.RequestsKept := by
  refine fun s t h => ⟨fun hs => ?_, fun hs => ?_⟩
  · exact State.requestsSound_iff.mpr (requestsSound_keeps.step h (State.requestsSound_iff.mp hs))
  · exact State.orderSound_iff.mpr (orderSound_keeps.step h (State.orderSound_iff.mp hs))

theorem conditionSound_keeps : State.StepKeeps State.Conditioned :=
  .of_blocks (fun h => h.conditioned)
    (fun _ _ => State.cancelGrants_keeps (fun h => h.conditioned) (fun _ _ h => h.same rfl rfl rfl rfl rfl)
      fun _ _ h => h.same rfl rfl rfl rfl rfl)
    (fun _ _ _ _ => State.refreshFeed_conditioned _) (fun _ _ _ _ _ h => h.same rfl rfl rfl rfl rfl) rfl rfl
    fun _ _ _ => rfl

/-- Settles O9: whatever changes the line state, the hold reasons or the block re-evaluates the condition. -/
theorem feedConditionKept : Obligations.FeedConditionKept := by
  intro s t hs h
  exact State.conditionSound_iff.mpr (conditionSound_keeps.step h (State.conditionSound_iff.mp hs))

theorem doubtSound_keeps : State.StepKeeps State.Doubts := by
  have hconfig {a : State} {l : LineState} (hl : l ≠ .suspect) (ha : a.line.state = l) : a.Doubts :=
    fun hsuspect => absurd (ha.symm.trans hsuspect) hl
  exact .of_blocks (fun h => h.doubts) (fun _ _ => State.cancelGrants_keeps (fun h => h.doubts) (fun _ _ h => h) fun _ _ h => h)
    (fun a l hl _ => hconfig hl (a.enterLine_line l none).1) (fun _ _ _ _ _ h => h)
    (hconfig (l := .config) (by simp) rfl) (hconfig (l := .config) (by simp) rfl)
    fun _ _ _ => hconfig (l := .config) (by simp) rfl

/-- Settles O10: the entry to SUSPECT sets every doubt mark, no move clears one, and in SUSPECT none but orphans' records
are created, which have doubt. -/
theorem suspectDoubtKept : Obligations.SuspectDoubtKept := by
  intro s t hs h
  exact State.doubtSound_iff.mpr (doubtSound_keeps.step h (State.doubtSound_iff.mp hs))

/-! ### The moves of the line state -/

theorem State.Reaches.drifts {s t : State} (h : s.Reaches t) : driftsTo s.line.state t.line.state :=
  h.keeps (I := fun u => driftsTo s.line.state u.line.state) (fun hm ha => driftsTo_trans ha hm.line.2)
    (fun _ _ => State.cancelGrants_keeps (I := fun u => driftsTo s.line.state u.line.state)
      (fun hm ha => driftsTo_trans ha hm.line.2) (fun _ _ h => h) fun _ _ h => h) (.inl rfl)

theorem lineMove_self (l : LineState) : lineMove l l = true := by
  cases l <;> rfl

theorem lineMove_suspect (l : LineState) : lineMove l .suspect = true := by
  cases l <;> rfl

theorem lineMove_config (l : LineState) : lineMove l .config = true := by
  cases l <;> rfl

theorem lineMove_drifts {l m : LineState} (h : driftsTo l m) : lineMove l m = true := by
  rcases h with rfl | rfl | ⟨rfl, rfl⟩
  · exact lineMove_self m
  · exact lineMove_suspect l
  · rfl

/-- Settles O11: without a request the line goes to SUSPECT, or from DRAINING to CONFIG, and a request makes one move of
the table before. -/
theorem lineMovesAllowed : Obligations.LineMovesAllowed := by
  intro s t h
  rcases step_comes h with rfl | ⟨rest, hcomes⟩
  · exact lineMove_self _
  clear h
  cases hcomes with
  | moves h => exact lineMove_drifts h.drifts
  | request straps f result data h =>
    show lineMove s.line.state _ = true
    cases h with
    | moves h => exact lineMove_drifts h.drifts
    | line l hmove hl hrun hdraining hempty h =>
      have hdrift := h.drifts
      rw [(State.enterLine_line _ l none).1] at hdrift
      rcases hdrift with heq | heq | ⟨-, heq⟩
      · rw [State.answered_line, heq]; exact hmove
      · rw [State.answered_line, heq]; exact lineMove_suspect _
      · rw [State.answered_line, heq]; exact lineMove_config _
    | power straps => exact lineMove_config _
    | retrack =>
      obtain ⟨p, b, heq⟩ := State.retrack_blocks (({ s with pending := rest } : State).strapped straps).performing
      rw [State.answered_line, heq]
      exact lineMove_config _
  | power u straps => exact lineMove_config _
  | held u p own => exact lineMove_config _

/-! ### The Ring Port -/

theorem RingPort.KeptBy.trans {p q r : RingPort} (h : p.KeptBy q) (k : q.KeptBy r) : p.KeptBy r :=
  ⟨fun hp => k.1 (h.1 hp), k.2.1.trans h.2.1, k.2.2.trans h.2.2⟩

theorem State.Reaches.keptBy {s t : State} (h : s.Reaches t) : s.port.KeptBy t.port := by
  have hmove {a b : State} (hm : a.Move b) (ha : s.port.KeptBy a.port) : s.port.KeptBy b.port := ha.trans hm.keptBy
  exact h.keeps (I := fun u => s.port.KeptBy u.port) hmove
    (fun _ _ => State.cancelGrants_keeps (I := fun u => s.port.KeptBy u.port) hmove (fun _ _ h => h) fun _ _ h => h)
    ⟨id, rfl, rfl⟩

theorem ownAddress_sound (straps : BitVec 5) : 1 ≤ (ownAddress straps).toNat ∧ (ownAddress straps).toNat ≤ 30 := by
  revert straps
  decide

/-- What a request leaves of the Ring Port before its REPLY, taken with its place reserved. -/
structure RingPort.Performed (p q : RingPort) : Prop where
  holds : p.Holds → q.Holds
  places : p.Holds → q.routine.length < 16
  transit : q.transit.length ≤ p.transit.length
  own : q.own = p.own ∨ ∃ straps, q.own = ownAddress straps

theorem State.Performs.performed {s t : State} (h : s.Performs t) (hreserved : s.port.reserved = true) :
    s.port.Performed t.port := by
  have hkept {u : State} (hk : s.port.KeptBy u.port) (hport : s.port.queuesOnly u.port) : s.port.Performed u.port := by
    refine ⟨hk.1, fun hs => ?_, (congrArg (fun p => p.transit.length) hport).le, .inl hk.2.2⟩
    have := (hk.1 hs).2.2.1
    rw [hk.2.1, hreserved] at this
    exact this
  cases h with
  | moves h hport => exact hkept h.keptBy hport
  | line l _ _ _ _ _ h hport => exact hkept ((s.enterLine_keptBy l Option.none).trans h.keptBy) hport
  | power straps =>
    exact ⟨fun _ => by simp [State.powerUp_blocks, State.reset, RingPort.Holds, State.blank, RingPort.powerOn],
      fun _ => by simp [State.powerUp_blocks, State.reset, State.blank, RingPort.powerOn], Nat.zero_le _, .inr ⟨straps, rfl⟩⟩
  | retrack =>
    have hretracked : s.port.KeptBy s.retracked.port ∧ s.port.queuesOnly s.retracked.port := ⟨⟨id, rfl, rfl⟩, rfl⟩
    have howe : s.retracked.Moves s.retracked.oweLineState :=
      (State.Move.owed s.retracked true).moves.trans (State.queueLineState_moves _)
    have hfeed := State.queueFeedState_feedOnly s.retracked.oweLineState (.hold .line)
    exact hkept ((hretracked.1.trans howe.reaches.keptBy).trans hfeed.keptBy)
      (RingPort.queuesOnly_trans (RingPort.queuesOnly_trans hretracked.2 s.retracked.oweLineState_lineOnly.port) hfeed.port)

theorem State.Comes.port {s t : State} (h : s.Comes t) :
    (s.port.Holds ∧ s.port.reserved = false → t.port.Holds ∧ t.port.reserved = false) ∧
      (t.port.own = s.port.own ∨ ∃ straps, t.port.own = ownAddress straps) := by
  cases h with
  | moves h =>
    obtain ⟨hholds, hreserved, hown⟩ := h.keptBy
    exact ⟨fun hs => ⟨hholds hs.1, hreserved.trans hs.2⟩, .inl hown⟩
  | request straps f result data h hroom htransit =>
    have hperformed := h.performed rfl
    refine ⟨fun ⟨hs, hreserved⟩ => ⟨?_, rfl⟩, hperformed.own⟩
    have hperforming : (s.strapped straps).performing.port.Holds := by
      refine ⟨hs.1, hs.2.1, ?_, rfl⟩
      simp only [State.freePlaces, Config.routineCapacity, hreserved] at hroom
      show s.port.routine.length + 1 ≤ 16
      simp at hroom
      omega
    obtain ⟨-, hownList, -, hreceiving⟩ := hperformed.holds hperforming
    refine ⟨?_, hownList, ?_, hreceiving⟩
    · refine le_trans (List.length_append ..).le ?_
      have : _ ≤ s.port.transit.length := hperformed.transit
      simp only [List.length_singleton]
      omega
    · have := hperformed.places hperforming
      show (_ ++ [_]).length + 0 ≤ 16
      rw [List.length_append]
      exact this
  | power u straps =>
    exact ⟨fun _ => ⟨by simp [State.powerUp_blocks, State.reset, RingPort.Holds, State.blank, RingPort.powerOn], rfl⟩,
      .inr ⟨straps, rfl⟩⟩
  | held u p own hown =>
    exact ⟨fun _ => ⟨by simp [State.heldBlank, RingPort.Holds, State.blank, RingPort.powerOn], rfl⟩, hown⟩

/-- Settles O5: frames enter the buffers and queues where there is room alone, a place is reserved for the time of a
request, and the own address changes with the straps alone. -/
theorem portBounded : Obligations.PortBounded := by
  intro s t h
  rcases step_comes h with rfl | ⟨rest, hcomes⟩
  · exact ⟨id, id⟩
  obtain ⟨hsound, hown⟩ := hcomes.port
  refine ⟨fun hs => State.portSound_iff.mpr (hsound (State.portSound_iff.mp hs)), fun hs => ?_⟩
  simp only [State.addressSound, Bool.and_eq_true, decide_eq_true_eq] at hs ⊢
  rcases hown with hown | ⟨straps, hown⟩
  · rw [hown]
    exact hs
  · rw [hown]
    exact ownAddress_sound straps

end Sys2Proof.Machine

/-! SUPPORT. The commands of the pins, the clock and Ring Out, block by block. -/

namespace Sys2Proof.Machine

open Sys2Proof

/-! ### A command with RESET held and with RESET released -/

theorem State.live_released {s : State} (f : State → State) (h : s.pins.resetHeld = false) : s.live f = .next (f s) := by
  simp [State.live, h]

theorem State.live_held {s : State} (f : State → State) (h : s.pins.resetHeld = true) : s.live f = .next s := by
  simp [State.live, h]

/-- A command whose effect is none changes nothing, held or not. -/
theorem State.live_still {s : State} {f : State → State} (h : f s = s) : s.live f = .next s := by
  simp [State.live, h]

/-! ### The step and the pins -/

/-- Settles O1: a step takes the command at the front of the queue. -/
theorem stepRunsFront : Obligations.StepRunsFront :=
  ⟨fun _ _ _ => rfl, fun s h => by simp [step, h]⟩

/-- Settles O2: each invariant evaluates to true on the one power-on state. -/
theorem resetIsSound : Obligations.ResetIsSound := by
  unfold Obligations.ResetIsSound
  decide

theorem ownAddress_toNat (straps : BitVec 5) :
    (ownAddress straps).toNat = if straps.toNat = 0 ∨ straps.toNat = 31 then 1 else straps.toNat := by
  revert straps
  decide

/-- Settles O12: power-up and the held power-on state, block by block. -/
theorem powerOnAndReset : Obligations.PowerOnAndReset := by
  refine ⟨fun straps s hheld => ?_, fun straps s hheld => ?_, fun s => rfl, fun straps s hheld => ?_, ownAddress_toNat⟩
  · show Host.Outcome.next _ = _
    rw [hheld, if_neg Bool.false_ne_true, State.powerUp_blocks]
    simp only [hheld]
  · show Host.Outcome.next _ = _
    rw [hheld, if_pos rfl, State.powerUp_blocks]
    rfl
  · show Host.Outcome.next _ = _
    rw [hheld, if_pos rfl]
    simp only [State.heldBlank, hheld]
    rfl

/-- Settles O13: every command but those of the supply and of RESET takes its effect through `State.live`. -/
theorem heldResetIgnores : Obligations.HeldResetIgnores := by
  intro c s hheld hpower hassert hrelease
  cases c with
  | powerOn straps => exact absurd rfl (hpower straps)
  | resetAssert => exact absurd rfl hassert
  | resetRelease straps => exact absurd rfl (hrelease straps)
  | _ => exact congrArg Host.Outcome.next (if_pos hheld)

/-! ### The clock -/

/-- Settles O14: a tick changes three blocks, each by its own count. -/
theorem ringTickCounts : Obligations.RingTickCounts :=
  fun fhold _ hheld => State.live_released (fun u => u.ringTicked fhold) hheld

theorem satSucc_eq_min {top n : Nat} : satSucc top n = min top (n + 1) := by
  unfold satSucc
  split <;> omega

theorem State.queueSync_eq (s : State) (t : Stamp) : s.queueSync t = { s with
    port := { s.port with
      urgent := if s.port.urgent.any Queued.isSync then
          s.port.urgent.map fun q => if q.isSync then { q with msg := .sync t } else q
        else s.port.urgent ++ [{ dest := 31, msg := .sync t, suspect := false }] } } := by
  unfold State.queueSync
  split <;> rfl

theorem IdleTimer.count_eq (t : IdleTimer) (timeout : Nat) : t.count timeout =
    match t with
    | .stopped => .stopped
    | .running n due =>
      .running (min 65535 (n + 1)) (due || (decide (timeout ≠ 0) && decide (timeout ≤ min 65535 (n + 1)))) := by
  cases t with
  | stopped => rfl
  | running n due => simp only [IdleTimer.count, satSucc_eq_min]

theorem Holdoff.count_eq (h : Holdoff) : h.count =
    match h with
    | .idle => .idle
    | .owed => .owed
    | .running n => .running (min (n + 1) 10) := by
  cases h <;> rfl

/-- Settles O15: the period end at the front of the list, and its three effects. -/
theorem syncPeriodEnds : Obligations.SyncPeriodEnds := by
  refine ⟨fun s t rest hheld hends => ?_, fun s hends => State.live_still (by simp [State.takePeriodEnd, hends])⟩
  refine (State.live_released State.takePeriodEnd hheld).trans ?_
  simp only [State.takePeriodEnd, hends, State.periodEnded, State.queueSync_eq, State.onTravel, State.onBatch,
    State.onFaults, IdleTimer.count_eq, Holdoff.count_eq] <;>
    rfl

/-- Settles O16: the samples kept are those that pass the age test. -/
theorem historyAgesOut : Obligations.HistoryAgesOut := by
  refine fun s hheld => ⟨_, State.live_released (fun u => u.onTravel TravelUnit.dropAged) hheld, List.filter_sublist, fun x hx => ?_⟩
  rw [List.mem_filter, and_iff_right hx, TravelUnit.ageOk, decide_eq_true_eq, abs_lt]
  rfl

/-! ### The end of the hold-off -/

theorem State.queueAlert_queued {s : State} {m : Merged} (hacc : s.faults.acc = some m) (hroom : s.freePlaces ≠ 0) :
    s.queueAlert = { s with
      port := { s.port with routine := s.port.routine ++ [{ dest := 0, msg := .alert m, suspect := false }] }
      faults := { s.faults with acc := none, holdoff := .running 0 } } := by
  simp only [State.queueAlert, hacc, hroom, if_false]
  rfl

theorem State.queueAlert_owed {s : State} {m : Merged} (hacc : s.faults.acc = some m) (hroom : s.freePlaces = 0) :
    s.queueAlert = { s with faults := { s.faults with holdoff := .owed } } := by
  have howed : s.queueAlert = s.onFaults fun q => { q with holdoff := .owed } := by
    simp only [State.queueAlert, hacc, hroom, if_true]
  exact howed

/-- Settles O19: the hold-off that is due, by what has been merged meanwhile and by the places free. -/
theorem holdoffEnds : Obligations.HoldoffEnds := by
  have hdue {s : State} {n : Nat} (hrun : s.faults.holdoff = .running n) (hn : 10 ≤ n) :
      s.takeHoldoff = match s.faults.acc with
        | none => s.onFaults fun q => { q with holdoff := .idle }
        | some _ => s.queueAlert := by
    simp only [State.takeHoldoff, hrun]
    rw [if_neg (show ¬ n < Config.holdoffPeriods from Nat.not_lt.mpr hn)] <;>
      rfl
  refine ⟨fun s n hheld hrun hn hacc => ?_, fun s n m hheld hrun hn hacc hroom => ?_,
    fun s n m hheld hrun hn hacc hroom => ?_, fun s hnot => State.live_still ?_⟩
  · refine (State.live_released State.takeHoldoff hheld).trans ?_
    rw [hdue hrun hn, hacc]
    rfl
  · refine (State.live_released State.takeHoldoff hheld).trans ?_
    rw [hdue hrun hn, hacc, ← State.queueAlert_queued hacc hroom]
  · refine (State.live_released State.takeHoldoff hheld).trans ?_
    rw [hdue hrun hn, hacc, ← State.queueAlert_owed hacc hroom]
  · unfold State.takeHoldoff
    split
    · next n hrun => exact if_pos (hnot n hrun)
    · rfl
    · rfl

/-! ### Ring Out -/

/-- Settles O40: the three cases of Ring Out. -/
theorem ringOutMoves : Obligations.RingOutMoves := by
  refine ⟨fun s f rest hheld hout htransit => ?_, fun s hidle => State.live_still ?_,
    fun s hheld => State.live_released State.ringOutDone hheld⟩
  · refine (State.live_released State.transitOut hheld).trans ?_
    simp only [State.transitOut, hout, htransit]
    rfl
  · unfold State.transitOut
    split
    next hout htransit => simp [hout, htransit] at hidle
    next => rfl

/-! ### A frame received -/

theorem State.live_receives {s t : State} {f : Frame} (hheld : s.pins.resetHeld = false) (h : s.receive f = t) :
    (s.live fun u => u.receive f) = .next t := by
  rw [State.live_released _ hheld, h]

theorem exec_frameReceive {bytes : List Byte} {f : Frame} {s : State} (hparse : parseFrame bytes = some f)
    (hheld : s.pins.resetHeld = false) : exec (.frameReceive bytes) s = .next (s.receive f) := by
  refine (State.live_released (fun u => u.receiveBytes bytes) hheld).trans ?_
  simp only [State.receiveBytes, hparse]

/-- Settles O22: the last row of R168. -/
theorem passingFrameForwarded : Obligations.PassingFrameForwarded := by
  intro bytes f s hparse hadmits hdest hedge
  rw [exec_frameReceive hparse (s.admits_held f hadmits), s.receive_admits f hadmits, State.passing,
    if_neg (show ¬ f.dest = s.received.port.own from hdest), if_neg fun h => hedge ⟨h.1, h.2.1⟩]
  rfl

/-! ### Frames that do not leave (R35, R168) -/

/-- A fault of a held key is suppressed (R35). -/
theorem State.logRepeating_held {s : State} {key : RepeatKey} (f : Raised) (h : key ∈ s.eyes.repeats) :
    s.logRepeating key f = s := by
  rw [State.logRepeating, if_pos (by simpa using h)]

/-- A fault of a key that is not held is recorded, and its key takes a free entry (R35). -/
theorem State.logRepeating_free {s : State} {key : RepeatKey} (f : Raised) (h : key ∉ s.eyes.repeats)
    (hroom : s.eyes.repeats.length < 8) :
    s.logRepeating key f = (s.onEyes fun q => { q with repeats := q.repeats ++ [key] }).logFault f := by
  rw [State.logRepeating, if_neg (by simpa using h), if_pos (show _ < Config.repeatCapacity from hroom)]

/-- A fault of a key that is not held is recorded, with a full table too (R35). -/
theorem State.logRepeating_full {s : State} {key : RepeatKey} (f : Raised) (h : key ∉ s.eyes.repeats)
    (hfull : 8 ≤ s.eyes.repeats.length) : s.logRepeating key f = s.logFault f := by
  rw [State.logRepeating, if_neg (by simpa using h), if_neg (show ¬ _ < Config.repeatCapacity from by
    simpa [Config.repeatCapacity] using hfull)]

theorem State.logFault_recorded (s : State) (f : Raised) : State.recorded s (s.logFault f) f :=
  ⟨s.logFault_list f, s.logFault_overflow f⟩

/-- The fault of a key that is not held is recorded, whether its key takes an entry or not (R35). -/
theorem State.logRepeating_recorded {s : State} {key : RepeatKey} (f : Raised) (h : key ∉ s.eyes.repeats) :
    State.recorded s (s.logRepeating key f) f := by
  rcases Nat.lt_or_ge s.eyes.repeats.length 8 with hroom | hfull
  · rw [State.logRepeating_free f h hroom]
    exact State.logFault_recorded _ f
  · rw [State.logRepeating_full f h hfull]
    exact State.logFault_recorded _ f

theorem State.logRepeating_blocks (s : State) (key : RepeatKey) (f : Raised) :
    (s.logRepeating key f).pieces = s.pieces ∧ (s.logRepeating key f).feed = s.feed ∧
      (s.logRepeating key f).batch = s.batch ∧ (s.logRepeating key f).line = s.line := by
  unfold State.logRepeating
  split
  · exact ⟨rfl, rfl, rfl, rfl⟩
  · split
    · obtain ⟨hpieces, hfeed, hbatch, -⟩ :=
        (s.onEyes fun q => { q with repeats := q.repeats ++ [key] }).logFault_blocks f
      exact ⟨hpieces, hfeed, hbatch, (State.logFault_lotsOnly _ f).line⟩
    · obtain ⟨hpieces, hfeed, hbatch, -⟩ := s.logFault_blocks f
      exact ⟨hpieces, hfeed, hbatch, (s.logFault_lotsOnly f).line⟩

theorem State.TrackOnly.sameOuter {s t : State} (h : s.TrackOnly t) : State.sameOuter s t :=
  ⟨h.pins, h.mgmt, h.freeIndex, h.pending, (congrArg RingPort.own h.port :)⟩

theorem State.LineOnly.sameTracking {s t : State} (h : s.LineOnly t) : State.sameTracking s t :=
  ⟨h.travel, h.eyes, h.matcher, h.folder⟩

theorem State.receiveBytes_damaged {bytes : List Byte} (s : State)
    (h : parseFrame bytes = none ∨ ∃ f, parseFrame bytes = some f ∧ f.intact = false) :
    s.receiveBytes bytes = s.received.damagedFrame := by
  rcases h with hnone | ⟨f, hsome, hdamaged⟩
  · simp only [State.receiveBytes, hnone]
    rfl
  · simp only [State.receiveBytes, hsome]
    rw [s.receive_eq, State.sortFrame, if_pos hdamaged]

/-- Settles O23: the count, and the fault as the repeat-fault table lets it pass. -/
theorem damagedFrameCounted : Obligations.DamagedFrameCounted := by
  intro bytes s hheld hbytes
  refine ⟨_, (State.live_released (fun u => u.receiveBytes bytes) hheld).trans
    (congrArg _ (s.receiveBytes_damaged hbytes)), ?_⟩
  let counted := s.received.onPort fun p => { p with damaged := p.damaged + 1 }
  let fault : Raised :=
    { code := .frameDamaged, severity := .noted, piece := none, site := .ring, position := some s.travel.position }
  have htrack := counted.logRepeating_trackOnly .frameDamaged fault
  obtain ⟨hpieces, hfeed, -, hline⟩ := counted.logRepeating_blocks .frameDamaged fault
  refine ⟨(congrArg RingPort.damaged htrack.port :), (congrArg RingPort.transit htrack.port :), hline, hpieces, hfeed,
    htrack.sameOuter, fun hkey => ?_, fun hkey hroom => ?_, fun hkey hfull => ?_⟩
  · have hheld := counted.logRepeating_held fault hkey
    exact ⟨(congrArg State.faults hheld :), (congrArg State.eyes hheld :)⟩
  · have hfree := counted.logRepeating_free fault hkey hroom
    exact ⟨(congrArg (fun t : State => t.eyes.repeats) hfree).trans
      (congrArg EyeFilter.repeats (State.logFault_lotsOnly _ fault).eyes), counted.logRepeating_recorded fault hkey⟩
  · have hfull := counted.logRepeating_full fault hkey hfull
    exact ⟨(congrArg State.eyes hfull).trans (counted.logFault_lotsOnly fault).eyes,
      counted.logRepeating_recorded fault hkey⟩

theorem State.sortFrame_stripped {s : State} {f : Frame} (hintact : f.intact = true) (hsrc : f.src ≠ s.port.own)
    (hmark : isMonitored f.marks = true) : s.sortFrame f = s.monitorStrip := by
  rw [State.sortFrame, if_neg (by simp [hintact]), if_neg hsrc, if_pos hmark]

theorem State.sortFrame_overrun {s : State} {f : Frame} (hintact : f.intact = true) (hsrc : f.src ≠ s.port.own)
    (hmark : isMonitored f.marks = false) (hfull : 2 ≤ s.port.transit.length) :
    s.sortFrame f = s.transitOverrun f.src := by
  rw [State.sortFrame, if_neg (by simp [hintact]), if_neg hsrc, if_neg (by simp [hmark]),
    if_pos (show Config.transitCapacity ≤ _ from hfull)]

/-- A frame whose kind no block takes is counted and forwarded (R170). -/
theorem State.addressed_unhandled {s : State} {f : Frame} (htravel : f.kind.toNat ≠ 2) (hready : f.kind.toNat ≠ 4)
    (hwithdraw : f.kind.toNat ≠ 5) (hslotFree : f.kind.toNat ≠ 9) (hrequest : f.kind.toNat ≠ 13) :
    s.addressed f = s.unhandledFrame f := by
  unfold State.addressed
  split <;> first | contradiction | rfl

/-- Settles O24, row by row of R168 and R170. -/
theorem strippedDroppedUnhandled : Obligations.StrippedDroppedUnhandled := by
  refine ⟨fun bytes f s hparse hheld hintact hsrc hmark => ?_, fun bytes f s hparse hheld hintact hsrc hmark hfull => ?_,
    fun bytes f s hparse hown hkind => ?_⟩
  · rw [exec_frameReceive hparse hheld, s.receive_eq, State.sortFrame_stripped (s := s.received) hintact hsrc hmark]
    rfl
  · let counted := s.received.onPort fun p => { p with overruns := p.overruns + 1 }
    let fault : Raised :=
      { code := .transitOverrun, severity := .noted, piece := none, site := .node f.src, position := none }
    have hlog : s.received.transitOverrun f.src = counted.logFault fault :=
      counted.recordFault_eq_logFault fault (.inl (by simp [fault]))
    have hlots := counted.logFault_lotsOnly fault
    obtain ⟨hpieces, hfeed, -, -⟩ := counted.logFault_blocks fault
    refine ⟨_, (exec_frameReceive hparse hheld).trans (congrArg _ ?_), congrArg RingPort.overruns hlots.port,
      (congrArg RingPort.transit hlots.port :), hlots.line, hpieces, hfeed, hlots.lineOnly.sameTracking,
      hlots.lineOnly.track.sameOuter, counted.logFault_recorded fault⟩
    rw [s.receive_eq, State.sortFrame_overrun (s := s.received) hintact hsrc hmark hfull, hlog]
  · rw [exec_frameReceive hparse (s.admits_held f (s.admitsOwn_admits f hown))]
    cases hknown : knownKind f.kind f.body.length with
    | false =>
      rw [s.receive_unhandled f hown hknown]
      rfl
    | true =>
      obtain hunknown | ⟨htravel, hready, hwithdraw, hslotFree, hrequest⟩ := hkind
      · exact absurd (hknown.symm.trans hunknown) (by simp)
      · rw [s.receive_admitsOwn f hown hknown, State.addressed_unhandled htravel hready hwithdraw hslotFree hrequest]
        rfl

end Sys2Proof.Machine

/-! SUPPORT. Requests as they are answered, frames that come home or pass, the fault list, and the statements of these. -/

namespace Sys2Proof.Machine

open Sys2Proof

/-! ### Requests as they are answered (R180) -/

/-- A request that finds a place is performed, answered and passed on (R170, R180). -/
theorem State.receive_performed {s : State} {e : Envelope} {code : Byte} {ops : List Byte}
    (h : s.admitsRequest (requestFrame e (code :: ops)) = true) :
    s.receive (requestFrame e (code :: ops)) = (s.performing.perform code ops).state.answered
      (requestFrame e (code :: ops)) (s.performing.perform code ops).result (s.performing.perform code ops).data := by
  rw [← Answer.reply_forward]
  exact s.receive_request e code ops h

/-- The command of a request that finds a place, by the answer it is given. -/
theorem exec_request {c : Instr} {s : State} {e : Envelope} {code : Byte} {ops : List Byte} {a : Answer}
    (h : s.admitsRequest (requestFrame e (code :: ops)) = true) (ha : s.performing.perform code ops = a)
    (hexec : exec c s = s.live fun u => u.receive (requestFrame e (code :: ops)) := by rfl) :
    exec c s = .next (a.state.answered (requestFrame e (code :: ops)) a.result a.data) := by
  rw [hexec, State.live_receives (State.admitsRequest_held h) (State.receive_performed h), ha]

/-- The command of a COMMAND that finds a place, by the answer it is given. -/
theorem exec_command {c : Instr} {s : State} {e : Envelope} {code : Byte} {operand : List Byte} {a : Answer}
    (h : s.admitsRequest (commandFrame e code operand) = true) (ha : s.performing.doCommand code operand = a)
    (hexec : exec c s = s.live fun u => u.receive (commandFrame e code operand) := by rfl) :
    exec c s = .next (a.state.answered (commandFrame e code operand) a.result a.data) := by
  rw [hexec, State.live_receives (State.admitsRequest_held h) (State.receive_command h), ha]

/-- Settles O44: SEEK by the table and the index that it names. -/
theorem seekSetsCursor : Obligations.SeekSetsCursor := by
  refine ⟨fun e table index s t hadmits htable hindex => ?_, fun e table index s hadmits hbad => ?_⟩
  · have hseek : s.performing.perform 1 [table, index] =
        { state := s.performing.onMgmt fun q => { q with table := t, index := index.toNat }, result := resDone,
          data := [table, index] } := by
      show s.performing.doSeek table index = _
      simp only [State.doSeek, htable, hindex, if_true]
    exact exec_request hadmits hseek
  · have hseek : s.performing.perform 1 [table, index] = s.performing.refuse resBadIndex := by
      show s.performing.doSeek table index = _
      rcases hbad with hnone | ⟨t, htable, hindex⟩
      · simp only [State.doSeek, hnone]
      · simp only [State.doSeek, htable, Nat.not_lt.mpr hindex, if_false]
    exact exec_request hadmits hseek

theorem knownRequest_command {command : Byte} {operand : List Byte} (h : knownRequest (4 :: command :: operand) = false) :
    (plainCommandCode command = false ∨ operand ≠ []) ∧ (command.toNat ≠ 6 ∨ operand.length ≠ 2) := by
  have hrequest : ((plainCommandCode command && operand.isEmpty) || (command.toNat == 6 && operand.length == 2)) = false := h
  simp only [Bool.or_eq_false_iff, Bool.and_eq_false_iff, List.isEmpty_eq_false_iff, beq_eq_false_iff_ne] at hrequest
  exact hrequest

/-- A COMMAND of no known code and operand is refused (R180). -/
theorem State.doCommand_unknown {s : State} {command : Byte} {operand : List Byte}
    (h : knownRequest (4 :: command :: operand) = false) : s.doCommand command operand = s.refuse resBadRequest := by
  obtain ⟨hplain, hpurge⟩ := knownRequest_command h
  unfold State.doCommand
  split
  next hsix => exact if_neg (by simpa [hsix] using hpurge)
  next hsix =>
    split
    next => rfl
    next hempty =>
      have hcode : ¬ (1 ≤ command.toNat ∧ command.toNat ≤ 10 ∧ command.toNat ≠ 6) := by
        simpa [plainCommandCode, hempty, and_assoc] using hplain
      have hnot : command.toNat ≠ 6 := fun h6 => hsix (BitVec.eq_of_toNat_eq h6)
      split <;> first | omega | rfl

/-- A REQUEST of no known shape is refused (R180). -/
theorem State.perform_unknown {s : State} {code : Byte} {ops : List Byte} (h : knownRequest (code :: ops) = false) :
    s.perform code ops = s.refuse resBadRequest := by
  unfold State.perform
  split
  next table index hcode => simp [knownRequest, hcode] at h
  next fields hcode => simp [knownRequest, hcode] at h
  next part hcode => simp [knownRequest, hcode] at h
  next command operand hcode =>
    obtain rfl : code = 4 := BitVec.eq_of_toNat_eq hcode
    exact State.doCommand_unknown h
  next => rfl

/-- Settles O58. -/
theorem badRequestRefused : Obligations.BadRequestRefused :=
  fun _ _ _ _ hadmits hunknown => exec_request hadmits (State.perform_unknown hunknown)

/-- Settles O57: each clearing changes its own fields. -/
theorem clearsTaken : Obligations.ClearsTaken := by
  refine ⟨fun e s hadmits => exec_command hadmits rfl, fun e s hadmits => ?_⟩
  have hcleared (x : Eye) : (if x.cfg.role = .unused then x else { x with dyn := x.dyn.cleared }) =
      if x.cfg.role = Role.unused then x
      else { x with
        dyn := { x.dyn with
          glitches := 0
          sequence := 0
          degraded := false
          raw := if x.dyn.degraded = true then Edge.clear else x.dyn.raw
          filtered := if x.dyn.degraded = true then Edge.clear else x.dyn.filtered } } := by
    cases hdegraded : x.dyn.degraded <;> simp [EyeDynamic.cleared, hdegraded]
  have hclear : s.performing.doCommand 10 [] = s.performing.doClearEyes := rfl
  refine (exec_command hadmits hclear).trans ?_
  simp only [State.doClearEyes, State.answer, State.onEyes, EyeFilter.clearEyes, hcleared]
  rfl

/-- Settles O43: with no place free the REQUEST goes on unread. -/
theorem requestBusy : Obligations.RequestBusy := by
  intro e body s hown hbody hfull
  have hheld := s.admits_held _ (s.admitsOwn_admits _ hown)
  have hlength : body.length ≤ 24 := by
    have hadmits := s.admitsOwn_admits _ hown
    simp only [State.admits, Frame.intact, Bool.and_eq_true, decide_eq_true_eq] at hadmits
    obtain ⟨⟨⟨⟨-, hlength, -⟩, -⟩, -⟩, -⟩ := hadmits
    exact hlength
  have hknown : knownKind (requestFrame e body).kind (requestFrame e body).body.length = true := by
    have hpos : 1 ≤ body.length := List.length_pos_of_ne_nil hbody
    show (decide (1 ≤ body.length) && decide (body.length ≤ 24)) = true
    simp [hpos, hlength]
  have hreceive : s.receive (requestFrame e body) = s.received.passOn ((requestFrame e body).withMark markBusy) := by
    rw [s.receive_admitsOwn _ hown hknown]
    show (s.received.takeRequestFrame (requestFrame e body)) = _
    rw [State.takeRequestFrame, if_pos (show s.received.freePlaces = 0 from hfull)]
    rfl
  exact ⟨State.live_receives hheld hreceive,
    (exec_frameReceive (parseFrame_wire (requestFrame e body) hlength) hheld).trans (congrArg _ hreceive)⟩

/-! ### EDGE frames that no tracked eye takes (R24, R33) -/

/-- The first rows of R24. -/
theorem State.classifyEdge_passed {s : State} {src channel edge : Byte} {stamp : Stamp}
    (h : 7 < channel.toNat ∨ (edge.toNat ≠ 1 ∧ edge.toNat ≠ 2) ∨ s.eyeIndex src channel = none ∨
      ∃ i x, s.eyeIndex src channel = some i ∧ s.eyeAt i = some x ∧
        (x.cfg.role = .pass ∨ (x.cfg.role = .track ∧ x.dyn.degraded = true))) :
    s.classifyEdge src channel edge stamp = (s, .forwarded none) := by
  unfold State.classifyEdge
  split
  next => rfl
  next hchannel =>
    rcases h with h | ⟨hnotBlock, hnotClear⟩ | hnone | ⟨i, x, hi, hx, hrole⟩
    · exact absurd h hchannel
    · have hedge : edgeOf edge = none := by
        unfold edgeOf
        split <;> first | contradiction | rfl
      rw [hedge]
    · rw [hnone]
      split <;> first | contradiction | rfl
    · rw [hi]
      split
      next k j _ hj =>
        obtain rfl := Option.some.inj hj
        rcases hrole with hpass | ⟨htrack, hdegraded⟩
        · simp only [hx, hpass]
        · simp only [hx, htrack, hdegraded, if_true]
      next => rfl

/-- The row of R24 for a DROP entry. -/
theorem State.classifyEdge_dropped {s : State} {src channel edge : Byte} {stamp : Stamp} {i : Nat} {x : Eye}
    (hchannel : channel.toNat ≤ 7) (hedge : edge.toNat = 1 ∨ edge.toNat = 2) (hi : s.eyeIndex src channel = some i)
    (hx : s.eyeAt i = some x) (hdrop : x.cfg.role = .drop) :
    s.classifyEdge src channel edge stamp = (s, .stripped) := by
  obtain ⟨k, hk⟩ : ∃ k, edgeOf edge = some k := by
    rcases hedge with h | h <;> simp [edgeOf, h]
  rw [State.classifyEdge, if_neg (Nat.not_lt.mpr hchannel)]
  simp only [hk, hi, hx, hdrop]

theorem byteAt_stamp (channel edge : Byte) (stamp : Stamp) (tag : Half) :
    stampAt (edgeBody channel edge stamp tag) 2 = stamp := by
  show stamp.extractLsb' 16 8 ++ stamp.extractLsb' 8 8 ++ stamp.extractLsb' 0 8 = stamp
  ext i hi
  simp only [BitVec.getElem_append, BitVec.getElem_extractLsb']
  rw [← BitVec.getLsbD_eq_getElem hi]
  split
  · rw [Nat.zero_add]
  · split <;> congr 1 <;> omega

/-- An admitted broadcast EDGE frame goes to the Eye Filter (R168). -/
theorem exec_edge {e : Envelope} {channel edge : Byte} {stamp : Stamp} {tag : Half} {s : State}
    (hadmits : s.admits (edgeFrame e channel edge stamp tag) = true) (hdest : e.dest = 31) (hown : s.port.own ≠ 31) :
    exec (.edge e channel edge stamp tag) s =
      .next ((s.received.classifyEdge e.src channel edge stamp).1.afterEdge (edgeFrame e channel edge stamp tag)
        (s.received.classifyEdge e.src channel edge stamp).2) := by
  refine State.live_receives (s.admits_held _ hadmits) ?_
  rw [s.receive_admits _ hadmits, State.passing, if_neg (show ¬ (edgeFrame e channel edge stamp tag).dest = s.received.port.own from
      fun h => hown (h.symm.trans hdest)),
    if_pos ⟨hdest, rfl, rfl⟩, State.takeEdgeFrame]
  conv_lhs => rw [show stampAt (edgeFrame e channel edge stamp tag).body 2 = stamp from byteAt_stamp ..]
  rfl

/-- Settles O28. -/
theorem edgePassesThrough : Obligations.EdgePassesThrough := by
  refine ⟨fun e channel edge stamp tag s hadmits hdest hown hpassed => ?_,
    fun e channel edge stamp tag s i x hadmits hdest hown hchannel hedge hi hx hdrop => ?_⟩
  · rw [exec_edge hadmits hdest hown, State.classifyEdge_passed (s := s.received) hpassed]
    rfl
  · rw [exec_edge hadmits hdest hown, State.classifyEdge_dropped (s := s.received) hchannel hedge hi hx hdrop]
    rfl

/-! ### SLOT_FREE set aside (R144) -/

theorem State.slotFreed_setAside {s : State} {channel slot outcome : Byte} {piece : Half}
    (h : channel.toNat = 0 ∨ 4 < channel.toNat ∨ 1 < slot.toNat ∨ outcome.toNat = 0 ∨ 3 < outcome.toNat) :
    s.slotFreed channel slot piece outcome = s := by
  unfold State.slotFreed
  split
  next c n o hc hn ho =>
    exfalso
    have hchannel : ¬ (channel.toNat = 0 ∨ 4 < channel.toNat) := fun h => by
      rw [Lane.ofNumber_eq_none.mpr h] at hc
      exact absurd hc (by simp)
    have hslot : ¬ 1 < slot.toNat := fun h => by
      unfold slotOf at hn
      split at hn <;> first | omega | simp at hn
    have houtcome : ¬ (outcome.toNat = 0 ∨ 3 < outcome.toNat) := fun h => by
      unfold folderOutcome at ho
      split at ho <;> first | omega | simp at ho
    omega
  next => rfl

theorem exec_slotFree {e : Envelope} {channel slot : Byte} {piece : Half} {outcome : Byte} {s t : State}
    (hown : s.admitsOwn (slotFreeFrame e channel slot piece outcome) = true)
    (ht : s.received.slotFreed channel slot piece outcome = t) :
    exec (.slotFree e channel slot piece outcome) s =
      .next (t.passOn ((slotFreeFrame e channel slot piece outcome).withMark markTaken)) := by
  refine State.live_receives (s.admits_held _ (s.admitsOwn_admits _ hown)) ?_
  rw [s.receive_admitsOwn _ hown rfl, ← ht]
  have hpiece : halfAt (slotFreeFrame e channel slot piece outcome).body 2 = piece := halfAt_bytes16 piece [outcome]
  show (s.received.slotFreed channel slot (halfAt (slotFreeFrame e channel slot piece outcome).body 2) outcome).forward
    _ = _
  rw [hpiece]
  rfl

theorem folderOutcome_isSome {outcome : Byte} (h1 : 1 ≤ outcome.toNat) (h3 : outcome.toNat ≤ 3) :
    ∃ o, folderOutcome outcome = some o := by
  obtain h | h | h : outcome.toNat = 1 ∨ outcome.toNat = 2 ∨ outcome.toNat = 3 := by omega
  all_goals simp [folderOutcome, h]

/-- Settles O36. -/
theorem slotFreeSetAside : Obligations.SlotFreeSetAside := by
  refine ⟨fun e channel slot piece outcome s hown hbad => exec_slotFree hown (State.slotFreed_setAside hbad),
    fun e channel slot piece outcome s c n hown hc hn h1 h3 hfree => ?_⟩
  let fault : Raised :=
    { code := .slotNotOwned, severity := .noted, piece := some piece, site := .channel c, position := none }
  obtain ⟨o, ho⟩ := folderOutcome_isSome h1 h3
  have hslot : s.received.slotFreed channel slot piece outcome = s.received.logFault fault := by
    simp only [State.slotFreed, hc, hn, ho, show (s.received.channel c).owner n = none from hfree]
    exact State.recordFault_eq_logFault _ _ (.inl (by simp))
  obtain ⟨hpieces, hfeed, hbatch, -⟩ := s.received.logFault_blocks fault
  have hlots := s.received.logFault_lotsOnly fault
  exact ⟨_, exec_slotFree hown hslot, hpieces, hfeed, hbatch, hlots.line, hlots.lineOnly.sameTracking,
    hlots.lineOnly.track.sameOuter, s.received.logFault_recorded fault⟩

/-! ### Own frames that come home (R111, R114, R142, R169) -/

theorem State.comesHome_held {s : State} {f : Frame} (h : s.comesHome f = true) : s.pins.resetHeld = false := by
  simp only [State.comesHome, Bool.and_eq_true, Bool.not_eq_true'] at h
  obtain ⟨⟨⟨hheld, -⟩, -⟩, -⟩ := h
  exact hheld

theorem exec_grantReturn {e : Envelope} {lane span : Byte} {piece : Half} {s : State}
    (h : s.comesHome (grantFrame e lane span piece) = true) :
    exec (.grantReturn e lane span piece) s =
      .next ((s.home (grantFrame e lane span piece)).grantReturned e.marks piece) := by
  refine State.live_receives (State.comesHome_held h) ((s.receive_home _ h).trans ?_)
  exact congrArg ((s.home (grantFrame e lane span piece)).grantReturned e.marks) (halfAt_bytes16 piece [])

theorem exec_ticketReturn {e : Envelope} {k : TicketFields} {s : State} {c : Lane} {n : SlotName}
    (h : s.comesHome (ticketFrame e k) = true) (hc : Lane.ofNumber k.channel.toNat = some c) (hn : slotOf k.slot = some n) :
    exec (.ticketReturn e k) s = .next ((s.home (ticketFrame e k)).ticketReturned e.marks c n k.piece) := by
  refine State.live_receives (State.comesHome_held h) ((s.receive_home _ h).trans ?_)
  have hpiece : halfAt (ticketFrame e k).body 2 = k.piece := halfAt_bytes16 k.piece
    ([k.article, k.program, k.span] ++ bytes16 k.length ++ bytes16 k.batch ++ [k.doubt, k.reason])
  have hchannel : Lane.ofNumber (byteAt (ticketFrame e k).body 0).toNat = some c := hc
  have hslot : slotOf (byteAt (ticketFrame e k).body 1) = some n := hn
  show (s.home (ticketFrame e k)).ticketHome (ticketFrame e k) = _
  simp only [State.ticketHome, hchannel, hslot, hpiece]
  rfl

/-- A GRANT home taken, or of a piece that no record has, does nothing (R111, R114). -/
theorem State.grantReturned_still {s : State} {marks : Byte} {n : Half}
    (h : s.findPiece n = none ∨ (isTaken marks = true ∧ isBusy marks = false)) : s.grantReturned marks n = s := by
  rcases h with hnone | ⟨htaken, hbusy⟩
  · simp only [State.grantReturned, hnone]
  · cases hr : s.findPiece n <;> simp [State.grantReturned, hr, htaken, hbusy]

/-- An own frame of another kind than GRANT and TICKET is not reported (R169). -/
theorem State.reportReturn_still {s : State} {f : Frame} (hgrant : f.kind.toNat ≠ 6) (hticket : f.kind.toNat ≠ 8) :
    s.reportReturn f = s := by
  rw [State.reportReturn, if_neg fun h => hgrant (congrArg BitVec.toNat h),
    if_neg fun h => hticket (congrArg BitVec.toNat h)]

/-- Settles O39. -/
theorem ownFrameReturnHandled : Obligations.OwnFrameReturnHandled := by
  refine ⟨fun e lane span piece s hhome hstill => ?grant, fun e k s c n r hhome hc hn hmatch htaken hbusy => ?taken,
    fun e k s c n hhome hc hn hmatch => ?stranger, fun e kind body s hhome hgrant hticket => ?other,
    fun e kind body s hheld hintact hsrc hclash => ?clash⟩
  case grant =>
    rw [exec_grantReturn hhome, State.grantReturned_still (s := s.home _) hstill]
  case taken =>
    have hmatch' : (s.home (ticketFrame e k)).ticketMatch c n k.piece = some r := hmatch
    rw [exec_ticketReturn hhome hc hn]
    simp only [State.ticketReturned, hmatch', htaken, hbusy, State.onPiece, beq_iff_eq, Bool.not_false, Bool.and_self,
      if_true]
    rfl
  case stranger =>
    have hmatch' : (s.home (ticketFrame e k)).ticketMatch c n k.piece = none := hmatch
    rw [exec_ticketReturn hhome hc hn]
    simp only [State.ticketReturned, hmatch']
  case other =>
    exact State.live_receives (State.comesHome_held hhome)
      ((s.receive_home _ hhome).trans (State.reportReturn_still hgrant hticket))
  case clash =>
    let fault : Raised :=
      { code := .addressClash, severity := .noted, piece := none, site := .node e.dest, position := none }
    have hnone : (s.port.ownList.any fun x => x.matchesFrame (envFrame e kind body)) = false := by
      have hsrc' : (envFrame e kind body).src = s.port.own := hsrc
      simpa [State.comesHome, hheld, hintact, hsrc'] using hclash
    have hclash : s.receive (envFrame e kind body) = s.received.logFault fault := by
      rw [s.receive_eq, State.sortFrame, if_neg (by simp [hintact]),
        if_pos (show (envFrame e kind body).src = s.received.port.own from hsrc), State.ownReturn,
        if_neg (by simpa [State.received] using hnone)]
      exact State.recordFault_eq_logFault _ _ (.inl (by simp))
    have hlots := s.received.logFault_lotsOnly fault
    obtain ⟨hpieces, hfeed, -, -⟩ := s.received.logFault_blocks fault
    exact ⟨_, State.live_receives hheld hclash, (congrArg RingPort.ownList hlots.port :),
      (congrArg RingPort.transit hlots.port :), hpieces, hfeed, hlots.line, hlots.lineOnly.sameTracking,
      hlots.lineOnly.track.sameOuter, s.received.logFault_recorded fault⟩

/-! ### The fault list and the alert (R157 to R160) -/

theorem lowestSeverity_le {l : List FaultRecord} {x : FaultRecord} (hx : x ∈ l) :
    lowestSeverity l ≤ x.severity.number := by
  have general : ∀ (l : List FaultRecord) (m : Nat), l.foldl (fun m r => min m r.severity.number) m ≤ m ∧
      ∀ x ∈ l, l.foldl (fun m r => min m r.severity.number) m ≤ x.severity.number := by
    intro l
    induction l with
    | nil => exact fun m => ⟨le_rfl, by simp⟩
    | cons r rest ih =>
      intro m
      obtain ⟨hle, hall⟩ := ih (min m r.severity.number)
      refine ⟨hle.trans (min_le_left ..), fun x hx => ?_⟩
      rcases List.mem_cons.mp hx with rfl | hx
      · exact hle.trans (min_le_right ..)
      · exact hall x hx
  exact (general l 3).2 x hx

theorem le_lowestSeverity {l : List FaultRecord} {v : Severity} (h : ∀ y ∈ l, v.number ≤ y.severity.number) :
    v.number ≤ lowestSeverity l := by
  rcases lowestSeverity_eq_or_mem l with hthree | ⟨y, hy, hnum⟩
  · exact hthree ▸ v.number_le
  · exact hnum ▸ h y hy

theorem dropOldest_split {v : Nat} {pre post : List FaultRecord} {x : FaultRecord} (hx : x.severity.number = v)
    (hpre : ∀ y ∈ pre, y.severity.number ≠ v) : dropOldest v (pre ++ x :: post) = pre ++ post := by
  induction pre with
  | nil => exact if_pos hx
  | cons y rest ih =>
    rw [List.cons_append, dropOldest, if_neg (hpre y (by simp)), ih fun z hz => hpre z (List.mem_cons_of_mem _ hz)]
    rfl

/-- The three ways of R158 into the list. -/
theorem FaultMonitor.insert_appends {m : FaultMonitor} (r : FaultRecord) (h : m.list.length < 16) :
    m.insert r = { m with list := m.list ++ [r] } := if_pos h

theorem FaultMonitor.insert_replaces {m : FaultMonitor} {r x : FaultRecord} {pre post : List FaultRecord}
    (hfull : m.list.length = 16) (hsplit : m.list = pre ++ x :: post) (hbelow : x.severity.number < r.severity.number)
    (hpre : ∀ y ∈ pre, x.severity.number < y.severity.number) (hpost : ∀ y ∈ post, x.severity.number ≤ y.severity.number) :
    m.insert r = { m with list := pre ++ post ++ [r] } := by
  have hlow : lowestSeverity m.list = x.severity.number := by
    refine le_antisymm (lowestSeverity_le (by simp [hsplit])) (le_lowestSeverity fun y hy => ?_)
    rw [hsplit, List.mem_append, List.mem_cons] at hy
    rcases hy with hy | rfl | hy
    · exact (hpre y hy).le
    · exact le_rfl
    · exact hpost y hy
  rw [FaultMonitor.insert, if_neg (show ¬ _ < Config.faultCapacity by rw [hfull]; decide), hlow, if_pos hbelow, hsplit,
    dropOldest_split rfl fun y hy => (hpre y hy).ne']

theorem FaultMonitor.insert_overflows {m : FaultMonitor} {r : FaultRecord} (hfull : m.list.length = 16)
    (habove : ∀ y ∈ m.list, r.severity.number ≤ y.severity.number) :
    m.insert r = { m with overflow := if m.overflow < 255 then m.overflow + 1 else 255 } := by
  rw [FaultMonitor.insert, if_neg (show ¬ _ < Config.faultCapacity by rw [hfull]; decide),
    if_neg (Nat.not_lt.mpr (le_lowestSeverity habove))]
  rfl

/-! A recorded fault and its alert, by the hold-off (R160). -/

section

variable {s : State} {f : Raised}

theorem State.logFault_quiet (hlow : f.severity.number < s.mgmt.flow.alertMin.number) :
    s.logFault f = { s with faults := s.faults.insert (s.faultRecord f) } := by
  rw [State.logFault, State.offerAlert, if_pos (by exact hlow)]
  rfl

theorem FaultMonitor.insert_holdoff (m : FaultMonitor) (r : FaultRecord) :
    (m.insert r).holdoff = m.holdoff ∧ (m.insert r).acc = m.acc := by
  unfold FaultMonitor.insert
  split
  · exact ⟨rfl, rfl⟩
  · split <;> exact ⟨rfl, rfl⟩

theorem State.logFault_idle (hmin : s.mgmt.flow.alertMin.number ≤ f.severity.number) (hidle : s.faults.holdoff = .idle) :
    s.logFault f = State.queueAlert { s with faults :=
      { s.faults.insert (s.faultRecord f) with acc := some (Merged.single (s.faultRecord f)) } } := by
  obtain ⟨hholdoff, -⟩ := s.faults.insert_holdoff (s.faultRecord f)
  rw [State.logFault, State.offerAlert, if_neg (by exact Nat.not_lt.mpr hmin)]
  simp only [State.onFaults, hholdoff, hidle]

theorem State.logFault_merges (hmin : s.mgmt.flow.alertMin.number ≤ f.severity.number)
    (hidle : s.faults.holdoff ≠ .idle) :
    s.logFault f = { s with faults :=
      { s.faults.insert (s.faultRecord f) with acc := some (mergeFault s.faults.acc (s.faultRecord f)) } } := by
  obtain ⟨hholdoff, hacc⟩ := s.faults.insert_holdoff (s.faultRecord f)
  rw [State.logFault, State.offerAlert, if_neg (by exact Nat.not_lt.mpr hmin)]
  simp only [State.onFaults, hholdoff, hacc]
  split
  · contradiction
  · rfl
  · rfl

end

/-- Settles O59. -/
theorem faultInsertion : Obligations.FaultInsertion := by
  refine ⟨fun m r => m.insert_appends r, fun m r x pre post => FaultMonitor.insert_replaces,
    fun m r => FaultMonitor.insert_overflows, State.recordFault_eq_logFault, fun s f r alone hr halone => ?_⟩
  obtain rfl : r = s.faultRecord f := by
    rw [hr, State.faultRecord]
    cases f.position <;> rfl
  obtain rfl : alone = Merged.single (s.faultRecord f) := halone
  refine ⟨State.logFault_quiet, fun hmin hidle hroom => ?_, fun hmin hidle hroom => ?_, fun hmin hidle => ?_⟩
  · rw [State.logFault_idle hmin hidle, State.queueAlert_queued rfl (by exact hroom)]
  · rw [State.logFault_idle hmin hidle, State.queueAlert_owed rfl (by exact hroom)]
  · rw [State.logFault_merges hmin hidle]
    cases s.faults.acc <;> rfl

end Sys2Proof.Machine

/-! SUPPORT. The feed-permitted condition and its FEED_STATE, the FHOLD pin, and what the faults of severity LINE leave. -/

namespace Sys2Proof.Machine

open Sys2Proof

/-! ### The condition and the FEED_STATE that reports it (R110, R174) -/

/-- The urgent queue with a FEED_STATE of this condition queued: in the place of the one that waits, or at the back. -/
def feedStateQueued (c : FeedCondition) (urgent : List Queued) : List Queued :=
  if urgent.any Queued.isFeedState then
    urgent.map fun q => if q.isFeedState then { q with msg := .feedState c } else q
  else urgent ++ [{ dest := 31, msg := .feedState c, suspect := false }]

theorem State.queueFeedState_eq (s : State) (c : FeedCondition) :
    s.queueFeedState c = { s with port := { s.port with urgent := feedStateQueued c s.port.urgent } } := by
  unfold State.queueFeedState feedStateQueued
  split <;> rfl

theorem State.refreshFeed_eq (s : State) : s.refreshFeed = { s with
    feed := { s.feed with condition := s.feedCondition }
    port := { s.port with
      urgent := if s.feedCondition = s.feed.condition then s.port.urgent
        else feedStateQueued s.feedCondition s.port.urgent } } := by
  unfold State.refreshFeed
  split
  next hsame =>
    rw [hsame]
  next => exact State.queueFeedState_eq _ _

/-- A FEED_STATE that is queued waits with its condition. -/
theorem mem_feedStateQueued (c : FeedCondition) (urgent : List Queued) :
    ∃ q ∈ feedStateQueued c urgent, q.msg = .feedState c := by
  unfold feedStateQueued
  split
  next hany =>
    obtain ⟨q, hq, hstate⟩ := List.any_eq_true.mp hany
    exact ⟨{ q with msg := .feedState c }, List.mem_map.mpr ⟨q, hq, if_pos hstate⟩, rfl⟩
  next => exact ⟨_, List.mem_append_right _ (List.mem_singleton.mpr rfl), rfl⟩

/-- The condition is the one at the outset, or a FEED_STATE with it waits. -/
def State.Announces (c : FeedCondition) (s : State) : Prop :=
  s.feed.condition = c ∨ ∃ q ∈ s.port.urgent, q.msg = .feedState s.feed.condition

theorem State.refreshFeed_announces {s : State} {c : FeedCondition} (h : s.Announces c) : s.refreshFeed.Announces c := by
  rw [State.refreshFeed_eq]
  by_cases hsame : s.feedCondition = s.feed.condition
  · simpa [State.Announces, hsame] using h
  · exact .inr (by simpa [hsame] using mem_feedStateQueued _ _)

theorem State.Announces.same {a b : State} {c : FeedCondition} (h : a.Announces c)
    (hcondition : b.feed.condition = a.feed.condition) (hurgent : ∀ q ∈ a.port.urgent, q ∈ b.port.urgent) :
    b.Announces c := by
  rcases h with hsame | ⟨q, hq, hmsg⟩
  · exact .inl (hcondition.trans hsame)
  · exact .inr ⟨q, hurgent q hq, by rw [hmsg, hcondition]⟩

theorem State.granting_urgent (s : State) (l : Lane) (r : LaneRequest) :
    (s.granting l r).port.urgent = s.port.urgent := by
  have hkeeps : ((State.restLane ((s.addRecord (s.grantRecord l r)).onPieces fun t => { t with granted := t.granted + 1 })
      l .granted).setTails r.span (s.grantTail l r)).port = s.port :=
    foldl_keeps (R := fun a b : State => b.port = a.port) (f := fun u k => u.onLane k fun e => { e with tail := some _ })
      (fun _ => rfl) (fun h k => k.trans h) (fun _ _ => rfl) _ _
  exact congrArg RingPort.urgent hkeeps

theorem State.LotMove.announces {a b : State} {c : FeedCondition} (h : a.LotMove b) (ha : a.Announces c) :
    b.Announces c := by
  cases h with
  | grant l r _ _ _ hroom =>
    have hgranting : (a.granting l r).Announces c := ha.same (by rw [State.granting_feed]) fun q hq => by
      rw [State.granting_urgent]; exact hq
    have hheld : (a.granting l r).testHold.Announces c := State.refreshFeed_announces (hgranting.same rfl fun _ h => h)
    rw [State.grant_eq hroom]
    exact hheld.same (b := State.pushUrgent _ _) rfl fun q hq => List.mem_append_left _ hq
  | testHold => exact State.refreshFeed_announces (ha.same rfl fun _ h => h)
  | block b => exact State.refreshFeed_announces (ha.same rfl fun _ h => h)
  | _ => exact ha.same rfl fun _ h => h


/-! ### The FHOLD pin (R109, R110) -/

theorem State.LotMove.fhold {a b : State} (h : a.LotMove b) : b.feed.fhold = a.feed.fhold := by
  cases h with
  | grant l r _ _ _ hroom => rw [State.grant_feed hroom, State.testHold_feed, State.granting_feed]
  | testHold => rw [State.testHold_feed]
  | block b => rw [State.refreshFeed_feed]
  | _ => rfl

/-- The condition of a released FHOLD (R110). -/
theorem State.feedCondition_released {s : State} (h : s.feed.fhold = false) : s.feedCondition =
    if s.line.state ≠ .run then .hold .line else if s.feed.hold then .hold .occupancy
      else if s.batch.block.isSome then .hold .batch else .go := by
  simp [State.feedCondition, h]

/-- Settles O21: an assertion refreshes the condition, and a release makes an evaluation too. -/
theorem fholdTaken : Obligations.FholdTaken := by
  refine ⟨fun s hheld hread hlevel => ?assert, fun s hheld hread hlevel => ?release, fun s hsame => ?still⟩
  case assert =>
    have htaken : s.takeAssert = (s.onFeed fun q => { q with fhold := true }).refreshFeed := if_pos ⟨hread, hlevel⟩
    have hcondition : State.feedCondition (s.onFeed fun q => { q with fhold := true }) =
        if s.line.state = .run then .hold .fhold else .hold .line := by
      by_cases hrun : s.line.state = .run <;> simp [State.feedCondition, hrun]
    rw [State.refreshFeed_eq, hcondition] at htaken
    refine ⟨_, (State.live_released State.takeAssert hheld).trans (congrArg _ htaken), rfl, rfl, rfl, rfl, rfl, rfl, rfl,
      ⟨rfl, rfl, rfl, rfl⟩, ⟨rfl, rfl, rfl, rfl, rfl⟩⟩
  case release =>
    let released := s.onFeed fun q => { q with fhold := false }
    have htaken : s.takeRelease = released.refreshFeed.evaluate := if_pos ⟨hread, hlevel⟩
    have hfeed : s.FeedOnly released.refreshFeed.evaluate :=
      ((s.onFeed_feedOnly _).trans released.refreshFeed_feedOnly).trans (State.evaluate_feedOnly _)
    have hmoves := State.evaluate_lotMoves released.refreshFeed
    have hfhold : released.refreshFeed.evaluate.feed.fhold = false :=
      hmoves.keeps (I := fun u => u.feed.fhold = false) (fun h k => h.fhold.trans k)
        (by rw [State.refreshFeed_feed]; rfl)
    have hannounces : released.refreshFeed.evaluate.Announces s.feed.condition :=
      hmoves.keeps (fun h => h.announces) (State.refreshFeed_announces (.inl rfl))
    refine ⟨_, (State.live_released State.takeRelease hheld).trans (congrArg _ htaken), hfhold, hfeed.line, hfeed.faults,
      hfeed.lots.lineOnly.sameTracking, hfeed.lots.lineOnly.track.sameOuter, hannounces.resolve_left, fun hrun => ?_,
      fun c u hc hu => ?_⟩
    · have hquiet := (State.refreshFeed_quiet released).trans (hmoves.quiet (by
        rw [released.refreshFeed_feedOnly.line]; exact hrun))
      exact ⟨hquiet.pieces, fun l => (hquiet.lanes l).run.1⟩
    · subst hu hc
      rw [State.refreshFeed_eq, State.feedCondition_released rfl]
      rfl
  case still =>
    have hassert : s.takeAssert = s := if_neg fun h => by rcases hsame with h' | h' <;> simp_all
    have hrelease : s.takeRelease = s := if_neg fun h => by rcases hsame with h' | h' <;> simp_all
    exact ⟨State.live_still hassert, State.live_still hrelease⟩

end Sys2Proof.Machine

/-! SUPPORT. The entry to SUSPECT (R154): what the sending of tallies changes outside RUN, what the cancellation of one
record and of all of them leaves, and the statements of the faults of severity LINE. -/

namespace Sys2Proof.Machine

open Sys2Proof

/-! ### Outside RUN the Batch Counter changes its places and queues tallies, and no more -/

structure State.TalliesOnly (s t : State) : Prop where
  blocks : t = { s with batch := t.batch, port := { s.port with routine := t.port.routine } }
  block : t.batch.block = s.batch.block
  idle : t.batch.idle = s.batch.idle
  routine : ∃ new, t.port.routine = s.port.routine ++ new ∧ ∀ q ∈ new, ∃ k, q.msg = .tally k
  full : s.freePlaces = 0 → t.port.routine = s.port.routine

theorem State.TalliesOnly.rfl' (s : State) : s.TalliesOnly s :=
  ⟨rfl, rfl, rfl, ⟨[], (List.append_nil _).symm, by simp⟩, fun _ => rfl⟩

theorem State.TalliesOnly.line {s t : State} (h : s.TalliesOnly t) : t.line = s.line := by
  rw [h.blocks]

theorem State.TalliesOnly.trans {s t u : State} (h : s.TalliesOnly t) (k : t.TalliesOnly u) : s.TalliesOnly u := by
  obtain ⟨first, hfirst, hof⟩ := h.routine
  obtain ⟨second, hsecond, hof'⟩ := k.routine
  refine ⟨by rw [k.blocks, h.blocks], k.block.trans h.block, k.idle.trans h.idle,
    ⟨first ++ second, by rw [hsecond, hfirst, List.append_assoc], fun q hq => ?_⟩, fun hfull => ?_⟩
  · exact (List.mem_append.mp hq).elim (hof q) (hof' q)
  · have hsame := h.full hfull
    have hfull' : t.freePlaces = 0 := by
      rw [State.freePlaces, hsame, h.blocks]
      exact hfull
    exact (k.full hfull').trans hsame

theorem State.setPlace_talliesOnly (s : State) (i : Nat) (e : Option BatchEntry) : s.TalliesOnly (s.setPlace i e) :=
  ⟨rfl, rfl, rfl, ⟨[], (List.append_nil _).symm, by simp⟩, fun _ => rfl⟩

theorem State.onOrder_talliesOnly (s : State) (f : List Nat → List Nat) :
    s.TalliesOnly (s.onBatch fun q => { q with sendOrder := f q.sendOrder }) :=
  ⟨rfl, rfl, rfl, ⟨[], (List.append_nil _).symm, by simp⟩, fun _ => rfl⟩

theorem State.sendOne_talliesOnly {s : State} (hrun : s.line.state ≠ .run) (hroom : s.freePlaces ≠ 0) :
    s.TalliesOnly s.sendOne := by
  unfold State.sendOne
  split
  · exact .rfl' s
  · split
    · exact s.onOrder_talliesOnly List.tail
    next b _ =>
      have hpush : s.TalliesOnly (s.pushRoutine 0 (.tally b.report)) :=
        ⟨rfl, rfl, rfl, ⟨_, rfl, by simp⟩, fun h => absurd h hroom⟩
      dsimp only
      split
      · rw [State.freeEntry, State.choose_notRun _ (by exact hrun)]
        exact (hpush.trans (State.setPlace_talliesOnly _ _ _)).trans (State.onOrder_talliesOnly _ List.tail)
      · exact hpush.trans (State.setPlace_talliesOnly _ _ _)

theorem State.sendTallies_talliesOnly {s : State} (hrun : s.line.state ≠ .run) : s.TalliesOnly s.sendTallies := by
  have general : ∀ (fuel : Nat) (u : State), s.TalliesOnly u → s.TalliesOnly (State.sendLoop fuel u) := by
    intro fuel
    induction fuel with
    | zero => exact fun u hu => hu
    | succ fuel ih =>
      intro u hu
      unfold State.sendLoop
      split
      · exact hu
      next hgoes =>
        exact ih _ (hu.trans (State.sendOne_talliesOnly (hu.line ▸ hrun) fun h => hgoes (.inr h)))
  exact general _ s (.rfl' s)

theorem State.enterSending_talliesOnly {s : State} (i : Nat) (hrun : s.line.state ≠ .run) :
    s.TalliesOnly (s.enterSending i) := by
  unfold State.enterSending
  split
  · exact .rfl' s
  next b _ =>
    have hqueued := (s.setPlace_talliesOnly i (some { b with state := .sending, nextSlot := some (b.used.head?.getD 0) })).trans
      (State.onOrder_talliesOnly _ fun l => l ++ [i])
    dsimp only
    split
    · exact hqueued.trans (State.sendTallies_talliesOnly (by exact hrun))
    · exact hqueued

/-- A removal's report outside RUN (R121, R122, R130). -/
theorem State.batchRemoved_talliesOnly {s : State} (n : Half) (article : Byte) (doubt : Bool) (o : Removal)
    (hrun : s.line.state ≠ .run) : s.TalliesOnly (s.batchRemoved n article doubt o) := by
  cases hi : s.placeOf n with
  | none => simp only [State.batchRemoved, hi]; exact .rfl' s
  | some i =>
    cases hb : s.batchAt i with
    | none => simp only [State.batchRemoved, hi, hb]; exact .rfl' s
    | some b =>
      rw [State.batchRemoved_eq article doubt o hi hb]
      split
      · exact (s.setPlace_talliesOnly i _).trans (State.enterSending_talliesOnly i (by exact hrun))
      · exact s.setPlace_talliesOnly i _

/-! ### The entry to SUSPECT before its cancellations (R110, R148, R149, R154) -/

/-- The state at an entry to SUSPECT before the cancellations of R117: the line state and the cause, the LINE_STATE
report, queued or owed, the condition HOLD LINE with its FEED_STATE when that is a change, and doubt on every record. -/
def State.inSuspect (s : State) (c : FaultCode) : State :=
  { s with
    line := { state := .suspect, cause := some c, tfault := true, owed := decide (s.freePlaces = 0) }
    feed := { s.feed with condition := .hold .line }
    pieces := { s.pieces with records := s.pieces.records.map fun r => { r with doubt := true } }
    port := { s.port with
      routine := s.port.routine ++
        (if s.freePlaces = 0 then [] else [{ dest := 31, msg := .lineState .suspect (some c), suspect := false }])
      urgent := if s.feed.condition = .hold .line then s.port.urgent
        else feedStateQueued (.hold .line) s.port.urgent } }

theorem State.oweLineState_eq (s : State) : s.oweLineState = { s with
    line := { s.line with owed := decide (s.freePlaces = 0) }
    port := { s.port with routine := s.port.routine ++
      (if s.freePlaces = 0 then [] else
        [{ dest := 31, msg := .lineState s.line.state s.line.cause, suspect := false }]) } } := by
  by_cases hfull : s.freePlaces = 0
  · have : s.oweLineState = s.onLine fun q => { q with owed := true } := if_neg fun h => h.2 hfull
    rw [this]
    simp [State.onLine, hfull]
  · have : s.oweLineState = ((s.onLine fun q => { q with owed := true }).pushRoutine 31
        (.lineState s.line.state s.line.cause)).onLine fun q => { q with owed := false } := if_pos ⟨rfl, hfull⟩
    rw [this]
    simp [State.onLine, State.pushRoutine, State.onPort, hfull]

theorem State.feedCondition_notRun {s : State} (h : s.line.state ≠ .run) : s.feedCondition = .hold .line := if_pos h

theorem State.enterSuspect_eq (s : State) (c : FaultCode) :
    s.enterSuspect c = (s.inSuspect c).cancelGrants.markTickets := by
  have hentered : (s.enterLine .suspect (some c)).doubtAll = s.inSuspect c := by
    rw [State.enterLine, State.refreshFeed_eq, State.feedCondition_notRun (by rw [State.oweLineState_eq]; simp [State.setLine]),
      State.oweLineState_eq]
    have hsame : (FeedCondition.hold .line = s.feed.condition) = (s.feed.condition = .hold .line) := propext eq_comm
    show _ = State.inSuspect s c
    simp only [State.inSuspect, State.doubtAll, State.onPieces, State.setLine, State.onLine, hsame]
    rfl
  rw [State.enterSuspect, hentered]

/-! ### The cancellation of one record (R117) -/

/-- Outside RUN, with the condition as it is there, the hold flag's test changes the flag and drops dead tails. -/
theorem State.retestHold_notRun {s : State} (hrun : s.line.state ≠ .run) (hcondition : s.feed.condition = .hold .line) :
    ∃ q : FeedSequencer, s.retestHold = { s with feed := q } ∧ q.order = s.feed.order ∧
      q.occupancy = s.feed.occupancy ∧ q.condition = .hold .line ∧ q.pointer = s.feed.pointer ∧
      q.lastBatch = s.feed.lastBatch ∧ q.fhold = s.feed.fhold ∧ ∀ l, (s.lane l).Agrees (q.lanes.get l) := by
  have htested : s.testHold = s.onFeed fun q => { q with hold := s.holdAfter } := by
    rw [State.testHold, State.refreshFeed]
    exact if_pos (by rw [State.feedCondition_notRun (by exact hrun)]; exact hcondition.symm)
  unfold State.retestHold
  split
  · rw [State.evaluate_notRun _ (by rw [s.testHold_feedOnly.line]; exact hrun), htested]
    refine ⟨_, rfl, rfl, rfl, hcondition, rfl, rfl, rfl, fun l => ?_⟩
    rw [PerLane.get_map]
    rfl
  · rw [htested]
    exact ⟨_, rfl, rfl, rfl, hcondition, rfl, rfl, rfl, fun _ => rfl⟩

/-- What the cancellation of record `r` leaves in SUSPECT (R117): the record is gone, untotalled, its lane is READY with
its request where it was in GRANTED, and its batch may have sent tallies. -/
structure State.CancelsWhole (s t : State) (r : Piece) : Prop where
  cancels : s.Cancels t r
  totals : t.pieces = { s.pieces with records := t.pieces.records }
  occupancy : t.feed.occupancy = if r.anonymous then s.feed.occupancy else s.feed.occupancy - 1
  condition : t.feed.condition = .hold .line
  faults : t.faults = s.faults
  urgent : t.port.urgent = s.port.urgent
  routine : ∃ new, t.port.routine = s.port.routine ++ new
  full : s.freePlaces = 0 → t.port.routine = s.port.routine

theorem State.removePiece_cancelsWhole {s : State} {n : Half} {r : Piece} (hsuspect : s.line.state = .suspect)
    (hcondition : s.feed.condition = .hold .line) (hr : s.findPiece n = some r) :
    s.CancelsWhole (s.removePiece n .cancelled) r := by
  have hrun : s.line.state ≠ .run := by simp [hsuspect]
  have hcancels := State.removePiece_cancels hsuspect hr
  have hwithdrawn : s.withdrawRemoved r .cancelled = s := by simp [State.withdrawRemoved]
  have hback (t : State) : (if r.state = .granted ∧ r.anonymous = false then t.laneAfterRemoval r .cancelled else t) =
      if r.state = .granted ∧ r.anonymous = false then t.laneBack r else t := rfl
  have hreport : ∃ u : State, (s.takeOut r .cancelled).TalliesOnly u ∧
      ∃ q : FeedSequencer, (s.takeOut r .cancelled).reportRemoval r .cancelled = { u with feed := q } ∧
        q.occupancy = (if r.anonymous then s.feed.occupancy else s.feed.occupancy - 1) ∧ q.condition = .hold .line := by
    unfold State.reportRemoval
    split
    next hanonymous => exact ⟨_, .rfl' _, s.feed, rfl, rfl, hcondition⟩
    next hanonymous =>
      have htallies := State.batchRemoved_talliesOnly (s := s.takeOut r .cancelled) r.batch r.article r.doubt .cancelled hrun
      have hfeed : ((s.takeOut r .cancelled).batchRemoved r.batch r.article r.doubt .cancelled).feed = s.feed := by
        rw [htallies.blocks]; rfl
      obtain ⟨q, hq, -, hoccupancy, hcond, -⟩ := State.retestHold_notRun
        (s := ((s.takeOut r .cancelled).batchRemoved r.batch r.article r.doubt .cancelled).onFeed fun q =>
          { q with occupancy := q.occupancy - 1 })
        (by rw [State.onFeed_line, htallies.line]; exact hrun) (by rw [State.onFeed_feed, hfeed]; exact hcondition)
      exact ⟨_, htallies, q, hq, by rw [hoccupancy, State.onFeed_feed, hfeed], hcond⟩
  obtain ⟨u, hu, q, hq, hoccupancy, hcond⟩ := hreport
  have hemptied (t : State) (ht : t.line = s.line) : t.tableEmptied = t := by
    simp [State.tableEmptied, ht, hsuspect]
  have hline : (u.line : LineControl) = s.line := hu.line
  have hwhole : ∃ p : FeedSequencer, s.removePiece n .cancelled = { u with feed := p } ∧
      p.occupancy = q.occupancy ∧ p.condition = q.condition := by
    simp only [State.removePiece, hr, hwithdrawn, hback, hq]
    split
    · exact ⟨_, hemptied _ hline, rfl, rfl⟩
    · exact ⟨_, hemptied _ hline, rfl, rfl⟩
  obtain ⟨p, hp, hpocc, hpcond⟩ := hwhole
  have hpieces : u.pieces = { s.pieces with records := s.pieces.records.filter fun x => x.number != r.number } := by
    rw [hu.blocks]; rfl
  obtain ⟨new, hnew, -⟩ := hu.routine
  refine ⟨hcancels, ?_, ?_, ?_, ?_, ?_, ⟨new, ?_⟩, fun hfull => ?_⟩
  · rw [hp]
    show u.pieces = { s.pieces with records := u.pieces.records }
    rw [hpieces]
  · rw [hp]; exact hpocc.trans hoccupancy
  · rw [hp]; exact hpcond.trans hcond
  · rw [hp]; show u.faults = s.faults; rw [hu.blocks]; rfl
  · rw [hp]; show u.port.urgent = s.port.urgent; rw [hu.blocks]; rfl
  · rw [hp]; exact hnew
  · rw [hp]; exact hu.full hfull

/-! ### The cancellation of several records -/

/-- The table without the records of some numbers. -/
def PieceTable.without (t : PieceTable) (numbers : List Half) : PieceTable :=
  { t with records := t.records.filter fun q => !numbers.contains q.number }

theorem PieceTable.without_eq {t : PieceTable} {records : List Piece} {numbers : List Half}
    (h : records = t.records.filter fun q => !numbers.contains q.number) :
    ({ t with records := records } : PieceTable) = t.without numbers := by
  rw [h]
  rfl

/-- What the cancellations of the records of some numbers leave in SUSPECT. -/
structure State.CancelsAll (s t : State) (numbers : List Half) : Prop where
  pieces : t.pieces = s.pieces.without numbers
  order : t.feed.order = s.feed.order
  line : t.line = s.line
  condition : t.feed.condition = .hold .line
  faults : t.faults = s.faults
  urgent : t.port.urgent = s.port.urgent
  routine : ∃ new, t.port.routine = s.port.routine ++ new
  full : s.freePlaces = 0 → t.port.routine = s.port.routine

theorem State.CancelsWhole.one {s t : State} {n : Half} {r : Piece} (h : s.CancelsWhole t r) (hr : s.findPiece n = some r) :
    s.CancelsAll t [n] := by
  have hnum : r.number = n := by simpa using List.find?_some hr
  refine ⟨?_, h.cancels.order, h.cancels.line, h.condition, h.faults, h.urgent, h.routine, h.full⟩
  rw [h.totals]
  refine PieceTable.without_eq (h.cancels.records.trans (List.filter_congr fun q _ => ?_))
  simp [hnum, bne, beq_eq_decide]

theorem State.CancelsAll.ofNone {s : State} {n : Half} (hcondition : s.feed.condition = .hold .line)
    (hr : s.findPiece n = none) : s.CancelsAll s [n] := by
  refine ⟨?_, rfl, rfl, hcondition, rfl, rfl, ⟨[], by simp⟩, fun _ => rfl⟩
  refine PieceTable.without_eq (t := s.pieces) (List.filter_eq_self.mpr fun q hq => ?_).symm
  simpa using List.find?_eq_none.mp hr q hq

theorem State.CancelsAll.trans {s t u : State} {l m : List Half} (h : s.CancelsAll t l) (k : t.CancelsAll u m)
    (hreserved : t.port.reserved = s.port.reserved) : s.CancelsAll u (l ++ m) := by
  obtain ⟨first, hfirst⟩ := h.routine
  obtain ⟨second, hsecond⟩ := k.routine
  refine ⟨?_, k.order.trans h.order, k.line.trans h.line, k.condition, k.faults.trans h.faults, k.urgent.trans h.urgent,
    ⟨first ++ second, by rw [hsecond, hfirst, List.append_assoc]⟩, fun hfull => ?_⟩
  · rw [k.pieces, h.pieces]
    refine PieceTable.without_eq (t := s.pieces) (List.filter_filter.trans (List.filter_congr fun q _ => ?_))
    simp [Bool.and_comm]
  · have hsame := h.full hfull
    refine (k.full ?_).trans hsame
    rw [State.freePlaces, hsame, hreserved]
    exact hfull

/-- The cancellations one after another. -/
def State.cancelEach (s : State) (numbers : List Half) : State := numbers.foldl (fun u n => u.removePiece n .cancelled) s

theorem State.cancelEach_lineOnly (s : State) (numbers : List Half) : s.LineOnly (s.cancelEach numbers) :=
  foldl_keeps State.LineOnly.rfl' State.LineOnly.trans (fun u n => u.removePiece_lineOnly n .cancelled) numbers s

theorem State.cancelEach_cancelsAll {s : State} (hsuspect : s.line.state = .suspect)
    (hcondition : s.feed.condition = .hold .line) (numbers : List Half) : s.CancelsAll (s.cancelEach numbers) numbers := by
  induction numbers generalizing s with
  | nil =>
    exact ⟨PieceTable.without_eq (t := s.pieces) (by simp [State.cancelEach]), rfl, rfl, hcondition, rfl, rfl, ⟨[], by simp [State.cancelEach]⟩, fun _ => rfl⟩
  | cons n rest ih =>
    have hone : s.CancelsAll (s.removePiece n .cancelled) [n] := by
      cases hr : s.findPiece n with
      | none => simp only [State.removePiece, hr]; exact .ofNone hcondition hr
      | some r => exact (State.removePiece_cancelsWhole hsuspect hcondition hr).one hr
    exact hone.trans (ih (by rw [hone.line]; exact hsuspect) hone.condition)
      (congrArg RingPort.reserved (s.removePiece_lineOnly n .cancelled).port :)

/-! ### The cancellations as a whole (R117, R148) -/

/-- Outside RUN the report of the order clears the block where the order is empty, and no more. -/
theorem State.orderChanged_notRun {s : State} (hrun : s.line.state ≠ .run) (hcondition : s.feed.condition = .hold .line) :
    ∃ b : BatchCounter, s.orderChanged = { s with batch := b } := by
  have hclear : ∃ b : BatchCounter, s.clearBlock = { s with batch := b } := by
    unfold State.clearBlock
    split
    · exact ⟨s.batch, rfl⟩
    · refine ⟨{ s.batch with block := none }, ?_⟩
      rw [State.refreshFeed, if_pos (by rw [State.feedCondition_notRun (by exact hrun)]; exact hcondition.symm)]
      rfl
  unfold State.orderChanged
  split
  · rw [State.choose_notRun _ (by rw [s.clearBlock_feedOnly.line]; exact hrun)]
    exact hclear
  · rw [State.choose_notRun _ hrun]
    exact ⟨s.batch, rfl⟩

/-- Lanes joined to the front change the request order alone. -/
theorem State.returnLanes_eq (s : State) (lanes : List Lane) :
    ∃ order : List Lane, s.returnLanes lanes = { s with feed := { s.feed with order := order } } := by
  have general (l : List Lane) : ∃ order : List Lane,
      l.foldr (fun l u => u.joinFront l) s = { s with feed := { s.feed with order := order } } := by
    induction l with
    | nil => exact ⟨s.feed.order, rfl⟩
    | cons l rest ih =>
      obtain ⟨order, horder⟩ := ih
      exact ⟨l :: order.filter (· != l), by rw [List.foldr_cons, horder]; rfl⟩
  exact general _

/-- What the cancellations of the grants that wait leave in SUSPECT, but for the lanes and their order. -/
structure State.GrantsCancelled (s t : State) : Prop where
  pieces : t.pieces = s.pieces.without (s.cancelList.map fun r => r.number)
  line : t.line = s.line
  condition : t.feed.condition = .hold .line
  faults : t.faults = s.faults
  urgent : t.port.urgent = s.port.urgent.filter fun q => q.grantPiece.isNone
  routine : ∃ new, t.port.routine = s.port.routine ++ new
  full : s.freePlaces = 0 → t.port.routine = s.port.routine

/-- The state when the records of the waiting grants are gone and the lanes are not yet back in the order. -/
def State.cancelled (s : State) : State := s.withdrawGrants.cancelEach (s.cancelList.map fun r => r.number)

theorem State.cancelled_cancelsAll {s : State} (hsuspect : s.line.state = .suspect)
    (hcondition : s.feed.condition = .hold .line) :
    s.withdrawGrants.CancelsAll s.cancelled (s.cancelList.map fun r => r.number) :=
  State.cancelEach_cancelsAll (s := s.withdrawGrants) hsuspect hcondition _

/-- The cancellations as a whole: the records gone, the lanes back in the order, and the block perhaps cleared. -/
theorem State.cancelGrants_eq {s : State} (hsuspect : s.line.state = .suspect)
    (hcondition : s.feed.condition = .hold .line) :
    ∃ b : BatchCounter, s.cancelGrants =
      { s.cancelled.returnLanes (s.cancelList.map fun r => r.lane) with batch := b } := by
  have hall := State.cancelled_cancelsAll hsuspect hcondition
  obtain ⟨order, horder⟩ := s.cancelled.returnLanes_eq (s.cancelList.map fun r => r.lane)
  refine State.orderChanged_notRun (s := s.cancelled.returnLanes (s.cancelList.map fun r => r.lane)) ?_ ?_
  · rw [horder]
    show s.cancelled.line.state ≠ .run
    rw [hall.line]
    show s.line.state ≠ .run
    simp [hsuspect]
  · rw [horder]
    exact hall.condition

theorem State.cancelGrants_cancelled {s : State} (hsuspect : s.line.state = .suspect)
    (hcondition : s.feed.condition = .hold .line) : s.GrantsCancelled s.cancelGrants := by
  have hall := State.cancelled_cancelsAll hsuspect hcondition
  obtain ⟨order, horder⟩ := s.cancelled.returnLanes_eq (s.cancelList.map fun r => r.lane)
  obtain ⟨b, hb⟩ := State.cancelGrants_eq hsuspect hcondition
  rw [hb, horder]
  exact ⟨hall.pieces, hall.line, hall.condition, hall.faults, hall.urgent, hall.routine, hall.full⟩

/-! ### The entry to SUSPECT as a whole (R148, R154) -/

/-- The urgent queue after the entry to SUSPECT: its FEED_STATE, no GRANT, and the suspect mark on every TICKET. -/
def State.suspectUrgent (s : State) : List Queued :=
  ((if s.feed.condition = .hold .line then s.port.urgent else feedStateQueued (.hold .line) s.port.urgent).filter
    fun q => q.grantPiece.isNone).map fun q => if q.ticketPiece.isSome then { q with suspect := true } else q

/-- What the entry to SUSPECT leaves, but for the lanes and their order. -/
structure State.EntersSuspect (s t : State) (c : FaultCode) : Prop where
  line : t.line = { state := .suspect, cause := some c, tfault := true, owed := decide (s.freePlaces = 0) }
  pieces : t.pieces = (s.inSuspect c).pieces.without ((s.inSuspect c).cancelList.map fun r => r.number)
  condition : t.feed.condition = .hold .line
  faults : t.faults = s.faults
  urgent : t.port.urgent = s.suspectUrgent
  routine : ∃ new, t.port.routine = (s.inSuspect c).port.routine ++ new
  full : s.freePlaces = 0 → t.port.routine = s.port.routine

theorem State.enterSuspect_enters (s : State) (c : FaultCode) : s.EntersSuspect (s.enterSuspect c) c := by
  have hcancelled := State.cancelGrants_cancelled (s := s.inSuspect c) rfl rfl
  rw [s.enterSuspect_eq c]
  refine ⟨hcancelled.line, hcancelled.pieces, hcancelled.condition, hcancelled.faults, ?_, hcancelled.routine,
    fun hfull => ?_⟩
  · exact congrArg (List.map fun q => if q.ticketPiece.isSome then { q with suspect := true } else q) hcancelled.urgent
  · have hsame : (s.inSuspect c).port.routine = s.port.routine := by simp [State.inSuspect, hfull]
    refine (hcancelled.full ?_).trans hsame
    rw [State.freePlaces, hsame]
    exact hfull

theorem State.EntersSuspect.doubts {s t : State} {c : FaultCode} (h : s.EntersSuspect t c) :
    ∀ r ∈ t.pieces.records, r.doubt = true := by
  intro r hr
  rw [h.pieces] at hr
  obtain ⟨q, -, rfl⟩ := List.mem_map.mp (List.mem_of_mem_filter hr)
  rfl

/-- A fault of severity LINE outside SUSPECT (R154, R157). -/
theorem State.recordFault_line {s : State} {f : Raised} (hline : f.severity = .line) (hstate : s.line.state ≠ .suspect) :
    s.recordFault f = (s.logFault f).enterSuspect f.code := if_pos ⟨hline, hstate⟩

theorem State.recordFault_enters {s : State} {f : Raised} (hline : f.severity = .line) (hstate : s.line.state ≠ .suspect) :
    (s.logFault f).EntersSuspect (s.recordFault f) f.code :=
  State.recordFault_line hline hstate ▸ State.enterSuspect_enters _ _

theorem State.recordFault_recorded (s : State) (f : Raised) : State.recorded s (s.recordFault f) f := by
  by_cases h : f.severity = .line ∧ s.line.state ≠ .suspect
  · rw [State.recordFault_line h.1 h.2, State.recorded, ((s.logFault f).enterSuspect_enters f.code).faults]
    exact s.logFault_recorded f
  · rw [s.recordFault_eq_logFault f (by
      by_cases hline : f.severity = .line
      · exact .inr (by simpa [hline] using h)
      · exact .inl hline)]
    exact s.logFault_recorded f

/-! ### The travel-loss timer (R16) -/

/-- The expiry with a record in the table is a fault of severity LINE. -/
theorem State.takeLoss_line {s : State} {n : Nat} (hloss : s.travel.loss = .running n true)
    (hrecords : s.pieces.records ≠ []) :
    s.takeLoss = (s.onTravel fun u => { u with loss := .stopped }).recordFault
      { code := .travelLoss, severity := .line, piece := none, site := .absent, position := none } := by
  simp [State.takeLoss, hloss, State.travelSeverity, hrecords]

/-- Settles O17: the fault of the expiry, by the table and the line state. -/
theorem travelLossTaken : Obligations.TravelLossTaken := by
  refine ⟨fun s n hheld hloss hempty => ?empty, fun s n hheld hloss hrecords hstate => ?enters,
    fun s n hheld hloss hrecords hstate => ?stays, fun s hnot => State.live_still ?_⟩
  case empty =>
    let restarted := s.onTravel fun u => { u with loss := .running 0 false }
    let fault : Raised := { code := .travelLoss, severity := .noted, piece := none, site := .absent, position := none }
    have htaken : s.takeLoss = restarted.logFault fault := by
      simp only [State.takeLoss, hloss, State.travelSeverity, hempty, List.isEmpty_nil, if_true]
      exact State.recordFault_eq_logFault _ _ (.inl (by simp))
    obtain ⟨hpieces, hfeed, hbatch, -⟩ := restarted.logFault_blocks fault
    have hlots := restarted.logFault_lotsOnly fault
    exact ⟨_, (State.live_released State.takeLoss hheld).trans (congrArg _ htaken), hlots.travel, hlots.line, hpieces,
      hfeed, hbatch, hlots.folder, hlots.lineOnly.track.sameOuter, restarted.logFault_recorded fault⟩
  case enters =>
    let stopped := s.onTravel fun u => { u with loss := .stopped }
    let fault : Raised := { code := .travelLoss, severity := .line, piece := none, site := .absent, position := none }
    have honly := stopped.recordFault_lineOnly fault
    have henters := State.recordFault_enters (s := stopped) (f := fault) rfl hstate
    exact ⟨_, (State.live_released State.takeLoss hheld).trans (congrArg _ (State.takeLoss_line hloss hrecords)), honly.travel, by rw [henters.line],
      by rw [henters.line], by rw [henters.line], henters.doubts, honly.track.sameOuter,
      stopped.recordFault_recorded fault⟩
  case stays =>
    let stopped := s.onTravel fun u => { u with loss := .stopped }
    let fault : Raised := { code := .travelLoss, severity := .line, piece := none, site := .absent, position := none }
    have honly := stopped.recordFault_lineOnly fault
    have hlog := stopped.recordFault_eq_logFault fault (.inr hstate)
    refine ⟨_, (State.live_released State.takeLoss hheld).trans (congrArg _ (State.takeLoss_line hloss hrecords)),
      honly.travel, ?_, ?_,
      honly.track.sameOuter, stopped.recordFault_recorded fault⟩
    · rw [hlog, (stopped.logFault_lotsOnly fault).line]
      rfl
    · rw [hlog]
      exact (stopped.logFault_blocks fault).1
  · unfold State.takeLoss
    split
    next n hloss => exact absurd hloss (hnot n)
    · rfl
    · rfl

end Sys2Proof.Machine

/-! SUPPORT. The ring break (R177): the lanes and the order that the cancellations of the waiting grants leave. -/

namespace Sys2Proof.Machine

open Sys2Proof

/-! ### Records found after others are gone -/

theorem PieceTable.find_without (t : PieceTable) (numbers : List Half) (n : Half) :
    ((t.without numbers).records.find? fun r => r.number == n) =
      if n ∈ numbers then none else t.records.find? fun r => r.number == n := by
  rw [PieceTable.without, List.find?_filter]
  split
  next hn =>
    refine List.find?_eq_none.mpr fun q _ h => ?_
    obtain ⟨hgone, hnum⟩ : q.number ∉ numbers ∧ q.number = n := by simpa using h
    exact hgone (hnum ▸ hn)
  next hn =>
    congr 1
    funext q
    by_cases hq : q.number = n <;> simp [hq, hn]

theorem State.CancelsAll.findPiece {s t : State} {numbers : List Half} (h : s.CancelsAll t numbers) (n : Half) :
    t.findPiece n = if n ∈ numbers then none else s.findPiece n := by
  rw [State.findPiece, h.pieces]
  exact s.pieces.find_without numbers n

/-! ### The lanes of the cancelled records -/

section

variable {s : State}

theorem State.removePiece_cancelsOne (hsuspect : s.line.state = .suspect) (hcondition : s.feed.condition = .hold .line)
    (n : Half) : s.CancelsAll (s.removePiece n .cancelled) [n] := by
  cases hr : s.findPiece n with
  | none => simp only [State.removePiece, hr]; exact .ofNone hcondition hr
  | some r => exact (State.removePiece_cancelsWhole hsuspect hcondition hr).one hr

/-- A lane of no cancelled record stands. -/
theorem State.cancelEach_lane_kept (hsuspect : s.line.state = .suspect) (hcondition : s.feed.condition = .hold .line)
    {numbers : List Half} {l : Lane} (hother : ∀ n ∈ numbers, ∀ r, s.findPiece n = some r → r.lane ≠ l) :
    (s.lane l).Agrees ((s.cancelEach numbers).lane l) := by
  induction numbers generalizing s with
  | nil => exact rfl
  | cons n rest ih =>
    have hone := State.removePiece_cancelsOne hsuspect hcondition n
    have hrest := ih (s := s.removePiece n .cancelled) (by rw [hone.line]; exact hsuspect) hone.condition
      fun m hm r hr => hother m (List.mem_cons_of_mem _ hm) r (by
        rw [hone.findPiece] at hr
        split at hr
        · exact absurd hr (by simp)
        · exact hr)
    refine LaneEntry.Agrees.trans ?_ hrest
    cases hr : s.findPiece n with
    | none => simp only [State.removePiece, hr]; exact rfl
    | some r =>
      have hlane := (State.removePiece_cancels hsuspect hr).lanes l
      rwa [Piece.cancelledLane, if_neg fun h => hother n (by simp) r hr h.1.symm] at hlane

/-- The lane of a cancelled record in GRANTED is READY with its request, where no other cancelled record has the lane. -/
theorem State.cancelEach_lane_back (hsuspect : s.line.state = .suspect) (hcondition : s.feed.condition = .hold .line)
    {numbers : List Half} {n : Half} {r : Piece} (hn : n ∈ numbers) (hr : s.findPiece n = some r)
    (hgranted : r.state = .granted) (hanonymous : r.anonymous = false)
    (hunique : ∀ m ∈ numbers, ∀ q, s.findPiece m = some q → q.lane = r.lane → q = r) :
    ((s.cancelEach numbers).lane r.lane).run = .ready ∧
      ((s.cancelEach numbers).lane r.lane).request = some r.request := by
  induction numbers generalizing s with
  | nil => exact absurd hn (by simp)
  | cons m rest ih =>
    have hone := State.removePiece_cancelsOne hsuspect hcondition m
    have hsuspect' : (s.removePiece m .cancelled).line.state = .suspect := by rw [hone.line]; exact hsuspect
    have hstill {k : Half} {q : Piece} (hq : (s.removePiece m .cancelled).findPiece k = some q) :
        k ≠ m ∧ s.findPiece k = some q := by
      rw [hone.findPiece] at hq
      split at hq
      · exact absurd hq (by simp)
      next hk => exact ⟨by simpa using hk, hq⟩
    by_cases hmn : m = n
    · subst hmn
      have hlane := (State.removePiece_cancels hsuspect hr).lanes r.lane
      rw [Piece.cancelledLane, if_pos ⟨rfl, hgranted, hanonymous⟩] at hlane
      have hkept := State.cancelEach_lane_kept (s := s.removePiece m .cancelled) (l := r.lane) hsuspect' hone.condition
        (numbers := rest) fun k hk q hq hql => by
          obtain ⟨hkm, hq⟩ := hstill hq
          obtain rfl := hunique k (List.mem_cons_of_mem _ hk) q hq hql
          have hnum : q.number = m := by simpa using List.find?_some hr
          have hnum' : q.number = k := by simpa using List.find?_some hq
          exact hkm (hnum'.symm.trans hnum)
      exact (hlane.trans hkept).run
    · have hr' : (s.removePiece m .cancelled).findPiece n = some r := by
        rw [hone.findPiece, if_neg (by simpa using fun h => hmn h.symm)]
        exact hr
      exact ih hsuspect' hone.condition ((List.mem_cons.mp hn).resolve_left fun h => hmn h.symm) hr' fun k hk q hq =>
        hunique k (List.mem_cons_of_mem _ hk) q (hstill hq).2

/-- Each cancellation of a record that is not anonymous lowers the occupancy by one. -/
theorem State.cancelEach_occupancy (hsuspect : s.line.state = .suspect) (hcondition : s.feed.condition = .hold .line)
    {numbers : List Half} (hnodup : numbers.Nodup)
    (hfound : ∀ n ∈ numbers, ∃ r, s.findPiece n = some r ∧ r.anonymous = false) :
    (s.cancelEach numbers).feed.occupancy = s.feed.occupancy - numbers.length := by
  induction numbers generalizing s with
  | nil => rfl
  | cons n rest ih =>
    obtain ⟨hn, hnodup⟩ := List.nodup_cons.mp hnodup
    obtain ⟨r, hr, hanonymous⟩ := hfound n (by simp)
    have hone := State.removePiece_cancelsOne hsuspect hcondition n
    have hoccupancy := (State.removePiece_cancelsWhole hsuspect hcondition hr).occupancy
    have hrest := ih (s := s.removePiece n .cancelled) (by rw [hone.line]; exact hsuspect) hone.condition hnodup
      fun m hm => by
        obtain ⟨q, hq, hqa⟩ := hfound m (List.mem_cons_of_mem _ hm)
        refine ⟨q, ?_, hqa⟩
        rw [hone.findPiece, if_neg (by simpa using fun h : m = n => hn (h ▸ hm))]
        exact hq
    refine hrest.trans ?_
    rw [hoccupancy, hanonymous]
    simp only [Bool.false_eq_true, if_false, List.length_cons]
    omega

end

/-! ### The lanes back in the order (R95, R117) -/

/-- Distinct lanes in READY stand at the front of the order in their order, the other lanes behind them. -/
theorem State.returnLanes_order {s : State} {lanes : List Lane} (hready : ∀ l ∈ lanes, (s.lane l).run = .ready)
    (hnodup : lanes.Nodup) :
    (s.returnLanes lanes).feed.order = lanes ++ s.feed.order.filter fun l => !lanes.contains l := by
  have general (lanes : List Lane) (hnodup : lanes.Nodup) :
      (lanes.foldr (fun l u => State.joinFront u l) s).feed.order =
        lanes ++ s.feed.order.filter fun l => !lanes.contains l := by
    induction lanes with
    | nil => simp
    | cons l rest ih =>
      obtain ⟨hl, hnodup⟩ := List.nodup_cons.mp hnodup
      show l :: List.filter (· != l) (rest.foldr (fun l u => State.joinFront u l) s).feed.order = _
      have hrest : rest.filter (· != l) = rest := List.filter_eq_self.mpr fun k hk => by
        simpa using fun h : k = l => hl (h ▸ hk)
      rw [ih hnodup, List.filter_append, hrest, List.filter_filter, List.cons_append]
      congr 2
      refine List.filter_congr fun k _ => ?_
      by_cases hk : k = l <;> simp [hk]
  have hall : (lanes.filter fun l => (s.lane l).run == .ready) = lanes := List.filter_eq_self.mpr fun l hl => by
    simpa using hready l hl
  rw [State.returnLanes, hall]
  exact general lanes hnodup

/-! ### The records whose grants wait -/

theorem feedStateQueued_grants (c : FeedCondition) (urgent : List Queued) :
    (feedStateQueued c urgent).filterMap Queued.grantPiece = urgent.filterMap Queued.grantPiece := by
  unfold feedStateQueued
  split
  · rw [List.filterMap_map]
    refine List.filterMap_congr fun q _ => ?_
    simp only [Function.comp]
    split
    next hstate =>
      unfold Queued.isFeedState at hstate
      split at hstate
      next hmsg => simp [Queued.grantPiece, hmsg]
      next => exact absurd hstate (by simp)
    next => rfl
  · simp [Queued.grantPiece]

/-- The record in GRANTED of a number, if there is one. -/
def State.grantedPiece (s : State) (n : Half) : Option Piece := (s.findPiece n).filter fun r => r.state == .granted

theorem State.grantedPiece_eq_some {s : State} {n : Half} {r : Piece} :
    s.grantedPiece n = some r ↔ s.findPiece n = some r ∧ r.state = .granted := by
  simp [State.grantedPiece, Option.filter_eq_some_iff]

theorem State.cancelList_eq (s : State) :
    s.cancelList = (s.port.urgent.filterMap Queued.grantPiece).filterMap s.grantedPiece := by
  rw [List.filterMap_filterMap]
  refine List.filterMap_congr fun q _ => ?_
  cases q.grantPiece <;> rfl

theorem State.mem_cancelList {s : State} {r : Piece} :
    r ∈ s.cancelList ↔ ∃ n ∈ s.port.urgent.filterMap Queued.grantPiece, s.findPiece n = some r ∧ r.state = .granted := by
  simp only [State.cancelList_eq, List.mem_filterMap, State.grantedPiece_eq_some]

theorem State.findPiece_number {s : State} {n : Half} {r : Piece} (h : s.findPiece n = some r) : r.number = n := by
  simpa using List.find?_some h

/-- The numbers of the cancelled records are of the GRANT frames that wait, in their order. -/
theorem State.cancelList_numbers (s : State) : s.cancelList.map (fun r => r.number) =
    (s.port.urgent.filterMap Queued.grantPiece).filter fun n => (s.grantedPiece n).isSome := by
  rw [State.cancelList_eq, List.map_filterMap, ← List.filterMap_eq_filter]
  refine List.filterMap_congr fun n _ => ?_
  cases h : s.grantedPiece n with
  | none => simp [Option.guard, h]
  | some r =>
    have hnum := State.findPiece_number (State.grantedPiece_eq_some.mp h).1
    simp [Option.guard, h, hnum]

/-! ### The lead lanes of the records in GRANTED (R94) -/

theorem spanHas_of_lead {sp : Span} {l : Lane} (h : spanLead sp = some l) : spanHas sp l = true :=
  mem_spanLanes.mp (List.mem_of_head? h)

theorem span_overlap {a b : Span} {l : Lane} (ha : spanHas a l = true) (hb : spanHas b l = true) : a &&& b ≠ 0 := by
  intro h
  have hbit : spanHas (a &&& b) l = true := by simp [spanHas] at ha hb ⊢; exact ⟨ha, hb⟩
  rw [h] at hbit
  simp [spanHas] at hbit

/-- What tracking says of one record. -/
theorem State.trackingSound_piece {s : State} (h : s.trackingSound = true) {r : Piece} (hr : r ∈ s.pieces.records) :
    r.sound = true := by
  simp only [State.trackingSound, Bool.and_eq_true] at h
  obtain ⟨⟨⟨⟨⟨-, hpieces⟩, -⟩, -⟩, -⟩, -⟩ := h
  simp only [State.piecesSound, Bool.and_eq_true, List.all_eq_true] at hpieces
  exact hpieces.1 r hr

theorem Piece.sound_granted {r : Piece} (h : r.sound = true) (hgranted : r.state = .granted) :
    r.anonymous = false ∧ spanHas r.span r.lane = true := by
  simp only [Piece.sound, Bool.and_eq_true, beq_iff_eq, Bool.not_eq_true'] at h
  obtain ⟨⟨⟨-, hlead⟩, hanonymous⟩, -⟩ := h
  exact ⟨by simpa [hgranted] using hanonymous, spanHas_of_lead hlead⟩

/-- No two records in GRANTED have one lead lane. -/
theorem State.granted_unique {s : State} (h : s.trackingSound = true) {q r : Piece} (hq : q ∈ s.pieces.records)
    (hr : r ∈ s.pieces.records) (hqg : q.state = .granted) (hrg : r.state = .granted) (hlane : q.lane = r.lane) :
    q = r := by
  obtain ⟨-, hqs⟩ := Piece.sound_granted (State.trackingSound_piece h hq) hqg
  obtain ⟨-, hrs⟩ := Piece.sound_granted (State.trackingSound_piece h hr) hrg
  simp only [State.trackingSound, State.grantedSound, Bool.and_eq_true, decide_eq_true_eq] at h
  obtain ⟨⟨⟨-, -, hpairwise⟩, -⟩, -⟩ := h
  by_contra hne
  refine absurd ?_ (span_overlap (hlane ▸ hqs) hrs)
  have hsymm : Std.Symm fun a b : Piece => a.span &&& b.span = 0 := ⟨fun a b hab => by rwa [BitVec.and_comm]⟩
  refine hpairwise.forall ?_ ?_ hne
  · exact List.mem_filter.mpr ⟨hq, by simp [hqg]⟩
  · exact List.mem_filter.mpr ⟨hr, by simp [hrg]⟩

/-! ### The ring break -/

section

variable (s : State) (c : FaultCode)

theorem State.inSuspect_findPiece (n : Half) :
    (s.inSuspect c).findPiece n = (s.findPiece n).map fun r => { r with doubt := true } :=
  List.find?_map ..

theorem State.inSuspect_grants : (s.inSuspect c).port.urgent.filterMap Queued.grantPiece =
    s.port.urgent.filterMap Queued.grantPiece := by
  show List.filterMap _ (if _ then _ else _) = _
  split
  · rfl
  · exact feedStateQueued_grants _ _

/-- The records that the entry to SUSPECT cancels, as they stood. -/
theorem State.inSuspect_cancelList : (s.inSuspect c).cancelList = s.cancelList.map fun r => { r with doubt := true } := by
  rw [State.cancelList_eq, State.cancelList_eq, s.inSuspect_grants c, List.map_filterMap]
  refine List.filterMap_congr fun n _ => ?_
  rw [State.grantedPiece, State.grantedPiece, s.inSuspect_findPiece c]
  cases hr : s.findPiece n with
  | none => rfl
  | some r => by_cases hg : r.state = .granted <;> simp [hg, Option.filter]

theorem State.inSuspect_numbers : (s.inSuspect c).cancelList.map (fun r => r.number) = s.cancelList.map fun r => r.number := by
  rw [s.inSuspect_cancelList c, List.map_map]
  rfl

theorem State.inSuspect_lanes : (s.inSuspect c).cancelList.map (fun r => r.lane) = s.cancelList.map fun r => r.lane := by
  rw [s.inSuspect_cancelList c, List.map_map]
  rfl

variable {s c}

/-- A record of the cancelled numbers is one of the cancel list. -/
theorem State.inSuspect_found {n : Half} {q : Piece} (hn : n ∈ s.cancelList.map fun r => r.number)
    (hq : (s.inSuspect c).findPiece n = some q) :
    ∃ r ∈ s.pieces.records, s.findPiece n = some r ∧ r.state = .granted ∧ q = { r with doubt := true } := by
  obtain ⟨r, hr, rfl⟩ := List.mem_map.mp hn
  obtain ⟨m, -, hfound, hgranted⟩ := State.mem_cancelList.mp hr
  obtain rfl := State.findPiece_number hfound
  rw [s.inSuspect_findPiece c, hfound] at hq
  exact ⟨r, List.mem_of_find?_eq_some hfound, hfound, hgranted, (Option.some.inj hq).symm⟩

theorem State.enterSuspect_feed : ∃ order, (s.enterSuspect c).feed = { (s.inSuspect c).cancelled.feed with order := order } ∧
    order = ((s.inSuspect c).cancelled.returnLanes (s.cancelList.map fun r => r.lane)).feed.order := by
  obtain ⟨order, horder⟩ := (s.inSuspect c).cancelled.returnLanes_eq (s.cancelList.map fun r => r.lane)
  obtain ⟨b, hb⟩ := State.cancelGrants_eq (s := s.inSuspect c) rfl rfl
  rw [s.inSuspect_lanes c] at hb
  refine ⟨order, ?_, by rw [horder]⟩
  rw [s.enterSuspect_eq c, hb, horder]
  rfl

/-- The entry to SUSPECT and one record: gone where it is in GRANTED with its GRANT waiting, doubted otherwise. -/
theorem State.enterSuspect_findPiece (n : Half) : (s.enterSuspect c).findPiece n =
    if n ∈ s.cancelList.map (fun r => r.number) then none else (s.findPiece n).map fun r => { r with doubt := true } := by
  rw [State.findPiece, (s.enterSuspect_enters c).pieces, s.inSuspect_numbers c, PieceTable.find_without]
  congr 1
  exact s.inSuspect_findPiece c n

/-- The lane of a cancelled record (R117). -/
theorem State.enterSuspect_lane_back (htracking : s.trackingSound = true) {r : Piece} (hr : r ∈ s.cancelList) :
    ((s.enterSuspect c).lane r.lane).run = .ready ∧ ((s.enterSuspect c).lane r.lane).request = some r.request := by
  obtain ⟨n, -, hfound, hgranted⟩ := State.mem_cancelList.mp hr
  have hin := List.mem_of_find?_eq_some hfound
  obtain ⟨hanonymous, -⟩ := Piece.sound_granted (State.trackingSound_piece htracking hin) hgranted
  have hn : n ∈ s.cancelList.map fun r => r.number := List.mem_map.mpr ⟨r, hr, State.findPiece_number hfound⟩
  have hback := State.cancelEach_lane_back (s := (s.inSuspect c).withdrawGrants) rfl rfl hn
    (r := { r with doubt := true }) (by
      show (s.inSuspect c).findPiece n = _
      rw [s.inSuspect_findPiece c, hfound]
      rfl) hgranted hanonymous fun m hm q hq hlane => by
      obtain ⟨p, hp, -, hpg, rfl⟩ := State.inSuspect_found (c := c) hm hq
      rw [State.granted_unique htracking hp hin hpg hgranted hlane]
  obtain ⟨order, hfeed, -⟩ := State.enterSuspect_feed (s := s) (c := c)
  rw [State.cancelled, s.inSuspect_numbers c] at hfeed
  rw [State.lane, hfeed]
  exact hback

theorem State.cancelList_nodup (hgrants : (s.port.urgent.filterMap Queued.grantPiece).Nodup) :
    (s.cancelList.map fun r => r.number).Nodup := by
  rw [s.cancelList_numbers]
  exact hgrants.filter _

theorem State.cancelList_lanes_nodup (htracking : s.trackingSound = true)
    (hgrants : (s.port.urgent.filterMap Queued.grantPiece).Nodup) : (s.cancelList.map fun r => r.lane).Nodup := by
  refine List.Nodup.map_on (fun q hq r hr hlane => ?_) (List.Nodup.of_map _ (State.cancelList_nodup hgrants))
  obtain ⟨n, -, hqf, hqg⟩ := State.mem_cancelList.mp hq
  obtain ⟨m, -, hrf, hrg⟩ := State.mem_cancelList.mp hr
  exact State.granted_unique htracking (List.mem_of_find?_eq_some hqf) (List.mem_of_find?_eq_some hrf) hqg hrg hlane

/-- The order and the occupancy after the entry to SUSPECT (R95, R108, R117). -/
theorem State.enterSuspect_order (htracking : s.trackingSound = true)
    (hgrants : (s.port.urgent.filterMap Queued.grantPiece).Nodup) :
    (s.enterSuspect c).feed.order = s.cancelList.map (fun r => r.lane) ++
        s.feed.order.filter (fun l => !(s.cancelList.map fun r => r.lane).contains l) ∧
      (s.enterSuspect c).feed.occupancy = s.feed.occupancy - (s.cancelList.map fun r => r.lane).length := by
  obtain ⟨order, hfeed, horder⟩ := State.enterSuspect_feed (s := s) (c := c)
  have hall := State.cancelled_cancelsAll (s := s.inSuspect c) rfl rfl
  have hlane (r : Piece) (hr : r ∈ s.cancelList) : ((s.inSuspect c).cancelled.lane r.lane).run = .ready := by
    have hback := (State.enterSuspect_lane_back (c := c) htracking hr).1
    rw [State.lane, hfeed] at hback
    exact hback
  rw [hfeed, horder]
  refine ⟨?_, ?_⟩
  · refine (State.returnLanes_order (fun l hl => ?_) (State.cancelList_lanes_nodup htracking hgrants)).trans ?_
    · obtain ⟨r, hr, rfl⟩ := List.mem_map.mp hl
      exact hlane r hr
    · rw [hall.order]
      rfl
  · have hoccupancy := State.cancelEach_occupancy (s := (s.inSuspect c).withdrawGrants) rfl rfl
      (State.cancelList_nodup hgrants) fun n hn => by
        obtain ⟨r, hr, rfl⟩ := List.mem_map.mp hn
        obtain ⟨m, -, hfound, hgranted⟩ := State.mem_cancelList.mp hr
        obtain rfl := State.findPiece_number hfound
        refine ⟨{ r with doubt := true }, ?_,
          (Piece.sound_granted (State.trackingSound_piece htracking (List.mem_of_find?_eq_some hfound)) hgranted).1⟩
        show (s.inSuspect c).findPiece r.number = _
        rw [s.inSuspect_findPiece c, hfound]
        rfl
    show (s.inSuspect c).cancelled.feed.occupancy = _
    rw [State.cancelled, s.inSuspect_numbers c, hoccupancy, List.length_map, List.length_map]
    rfl

end

/-! ### The queues after the entry to SUSPECT -/

theorem State.suspectUrgent_grants (s : State) : ∀ q ∈ s.suspectUrgent, q.grantPiece = none := by
  intro q hq
  obtain ⟨x, hx, rfl⟩ := List.mem_map.mp hq
  have hnone : x.grantPiece = none := by simpa using (List.mem_filter.mp hx).2
  split
  · exact hnone
  · exact hnone

theorem State.suspectUrgent_tickets (s : State) : ∀ q ∈ s.suspectUrgent, q.ticketPiece ≠ none → q.suspect = true := by
  intro q hq hticket
  obtain ⟨x, hx, rfl⟩ := List.mem_map.mp hq
  split at hticket
  next h => rw [if_pos h]
  next h => exact absurd (by simpa using h) hticket

theorem Queued.ticketPiece_others {q : Queued} (h : q.ticketPiece ≠ none) : q.grantPiece = none ∧ q.isFeedState = false := by
  unfold Queued.ticketPiece at h
  split at h
  next t hmsg => simp [Queued.grantPiece, Queued.isFeedState, hmsg]
  next => exact absurd rfl h

theorem feedStateQueued_others {c : FeedCondition} {urgent : List Queued} {q : Queued} (hq : q ∈ urgent)
    (hother : q.isFeedState = false) : q ∈ feedStateQueued c urgent := by
  unfold feedStateQueued
  split
  · exact List.mem_map.mpr ⟨q, hq, by simp [hother]⟩
  · exact List.mem_append_left _ hq

theorem State.suspectUrgent_marked (s : State) {q : Queued} (hq : q ∈ s.port.urgent) (hticket : q.ticketPiece ≠ none) :
    { q with suspect := true } ∈ s.suspectUrgent := by
  obtain ⟨hgrant, hstate⟩ := Queued.ticketPiece_others hticket
  refine List.mem_map.mpr ⟨q, List.mem_filter.mpr ⟨?_, by simp [hgrant]⟩, if_pos (Option.isSome_iff_ne_none.mpr hticket)⟩
  split
  · exact hq
  · exact feedStateQueued_others hq hstate

theorem State.suspectUrgent_feedState (s : State) (h : s.feed.condition ≠ .hold .line) :
    ∃ q ∈ s.suspectUrgent, q.msg = .feedState (.hold .line) := by
  obtain ⟨q, hq, hmsg⟩ := mem_feedStateQueued (.hold .line) s.port.urgent
  refine ⟨q, List.mem_map.mpr ⟨q, List.mem_filter.mpr ⟨?_, ?_⟩, ?_⟩, hmsg⟩
  · rw [if_neg h]
    exact hq
  · simp [Queued.grantPiece, hmsg]
  · simp [Queued.ticketPiece, hmsg]

/-- A recorded fault takes at most one place, and none where none is free (R160, R175). -/
theorem State.logFault_routine (s : State) (f : Raised) : (s.logFault f).port.routine = s.port.routine ∨
    (s.freePlaces ≠ 0 ∧ ∃ q, (s.logFault f).port.routine = s.port.routine ++ [q]) := by
  unfold State.logFault State.offerAlert
  split
  · exact .inl rfl
  · split
    · exact State.queueAlert_routine _
    · exact .inl rfl
    · exact .inl rfl

theorem State.logFault_leaves {s : State} (f : Raised) (h : 2 ≤ s.freePlaces) : (s.logFault f).freePlaces ≠ 0 := by
  have hreserved : (s.logFault f).port.reserved = s.port.reserved :=
    (congrArg RingPort.reserved (s.logFault_lotsOnly f).port :)
  have hlength : (s.logFault f).port.routine.length ≤ s.port.routine.length + 1 := by
    rcases s.logFault_routine f with hsame | ⟨-, q, hq⟩
    · rw [hsame]; omega
    · rw [hq]; simp
  unfold State.freePlaces at h ⊢
  rw [hreserved]
  omega

theorem removeFirst_split {f : OwnEntry → Bool} {pre post : List OwnEntry} {e : OwnEntry} (he : f e = true)
    (hpre : ∀ x ∈ pre, f x = false) : removeFirst f (pre ++ e :: post) = pre ++ post := by
  induction pre with
  | nil => exact if_pos he
  | cons x rest ih =>
    rw [List.cons_append, removeFirst, if_neg (by simp [hpre x]), ih fun y hy => hpre y (List.mem_cons_of_mem _ hy)]
    rfl

/-- The oldest entry of age 500 leaves the list, and RING_BREAK is recorded (R177). -/
theorem State.ringBroken_eq {s : State} {pre post : List OwnEntry} {e : OwnEntry} (hlist : s.port.ownList = pre ++ e :: post)
    (hpre : ∀ x ∈ pre, x.age < 500) (he : 500 ≤ e.age) : s.ringBroken =
      (s.onPort fun p => { p with ownList := pre ++ post }).recordFault
        { code := .ringBreak, severity := .line, piece := e.piece, site := .node e.dest,
          position := some s.travel.position } := by
  have hyoung : ∀ x ∈ pre, decide (Config.ringBreakAge ≤ x.age) = false := fun x hx =>
    decide_eq_false (Nat.not_le.mpr (hpre x hx))
  have hold : decide (Config.ringBreakAge ≤ e.age) = true := decide_eq_true he
  have hfind : (s.port.ownList.find? fun e => decide (Config.ringBreakAge ≤ e.age)) = some e := by
    rw [hlist, List.find?_append, List.find?_eq_none.mpr (by simpa using hyoung)]
    simp [hold]
  simp only [State.ringBroken, hfind]
  rw [State.onPort, hlist, removeFirst_split hold hyoung]
  rfl

/-- The lanes of the cancelled records, as the frames that wait list them. -/
theorem State.cancelList_lanes (s : State) : s.cancelList.map (fun r => r.lane) =
    s.port.urgent.filterMap fun q => q.grantPiece.bind fun n => (s.findPiece n).bind fun r =>
      if r.state = .granted then some r.lane else none := by
  rw [State.cancelList_eq, List.filterMap_filterMap, List.map_filterMap]
  refine List.filterMap_congr fun q _ => ?_
  cases q.grantPiece with
  | none => rfl
  | some n =>
    simp only [Option.bind_some, State.grantedPiece]
    cases s.findPiece n with
    | none => rfl
    | some r => by_cases hg : r.state = .granted <;> simp [hg, Option.filter]

/-- Settles O20: the entry to SUSPECT after the recorded fault, field by field; in SUSPECT the fault alone. -/
theorem ringBreakTaken : Obligations.RingBreakTaken := by
  refine ⟨fun s pre post e hheld hlist hpre he hstate => ?enters, fun s pre post e hheld hlist hpre he hstate => ?stays,
    fun s hyoung => State.live_still ?young⟩
  case young =>
    have hfind : (s.port.ownList.find? fun e => decide (Config.ringBreakAge ≤ e.age)) = none :=
      List.find?_eq_none.mpr fun x hx => by
        rw [decide_eq_true_eq]
        exact Nat.not_le.mpr (hyoung x hx)
    simp only [State.ringBroken, hfind]
  case stays =>
    let taken := s.onPort fun p => { p with ownList := pre ++ post }
    let fault : Raised := { code := .ringBreak, severity := .line, piece := e.piece, site := .node e.dest,
                            position := some s.travel.position }
    have hexec := (State.live_released State.ringBroken hheld).trans (congrArg _ ((State.ringBroken_eq hlist hpre he).trans
      (taken.recordFault_eq_logFault fault (.inr hstate))))
    have hlots := taken.logFault_lotsOnly fault
    obtain ⟨hpieces, -, -, hurgent⟩ := taken.logFault_blocks fault
    exact ⟨_, hexec, (congrArg RingPort.ownList hlots.port :), hlots.line, hpieces, hurgent, hlots.lineOnly.sameTracking,
      hlots.lineOnly.track.sameOuter, taken.logFault_recorded fault⟩
  case enters =>
    let taken := s.onPort fun p => { p with ownList := pre ++ post }
    let fault : Raised := { code := .ringBreak, severity := .line, piece := e.piece, site := .node e.dest,
                            position := some s.travel.position }
    let u := taken.logFault fault
    have hrecord : taken.recordFault fault = u.enterSuspect .ringBreak := State.recordFault_line rfl hstate
    have hexec := (State.live_released State.ringBroken hheld).trans
      (congrArg _ ((State.ringBroken_eq hlist hpre he).trans hrecord))
    have honly : taken.LineOnly (u.enterSuspect .ringBreak) := hrecord ▸ taken.recordFault_lineOnly fault
    have hlots := taken.logFault_lotsOnly fault
    obtain ⟨hpieces, hfeed, -, hurgent⟩ := taken.logFault_blocks fault
    have henters := u.enterSuspect_enters .ringBreak
    have hfind (n : Half) : u.findPiece n = s.findPiece n :=
      congrArg (fun t : PieceTable => t.records.find? fun r : Piece => r.number == n) hpieces
    have htracking : u.trackingSound = s.trackingSound := by
      unfold State.trackingSound State.recordsSound State.piecesSound State.configSound State.grantedSound
        State.occupancySound State.slotsSound State.lane State.channel
      rw [hpieces, hfeed, hlots.folder, hlots.line]
      rfl
    have hcancels {n : Half} : n ∈ u.cancelList.map (fun r => r.number) ↔
        ∃ r, s.findPiece n = some r ∧ r.state = .granted ∧ ∃ q ∈ s.port.urgent, q.grantPiece = some n := by
      rw [u.cancelList_numbers, hurgent, List.mem_filter, List.mem_filterMap, Option.isSome_iff_exists, and_comm]
      simp only [State.grantedPiece_eq_some, hfind, ← exists_and_right, and_assoc]
      rfl
    refine ⟨_, hexec, (congrArg RingPort.ownList honly.port :), by rw [henters.line], by rw [henters.line],
      by rw [henters.line], henters.doubts, hrecord ▸ taken.recordFault_recorded fault, ?grants, honly.sameTracking,
      honly.track.sameOuter, ?granted, ?discharged, ?lost, ?stands, ?goes, ?order, ?suspect, ?marked, henters.condition,
      ?feedState, ?report, ?owed⟩
    case grants => rw [henters.urgent]; exact u.suspectUrgent_grants
    case granted => rw [henters.pieces]; exact (congrArg PieceTable.granted hpieces :)
    case discharged => rw [henters.pieces]; exact (congrArg PieceTable.discharged hpieces :)
    case lost => rw [henters.pieces]; exact (congrArg PieceTable.lost hpieces :)
    case stands =>
      intro n r hr hnot
      rw [State.enterSuspect_findPiece, if_neg, hfind, hr]
      · rfl
      · intro hn
        obtain ⟨q, hq, hgranted, hwaits⟩ := hcancels.mp hn
        obtain rfl := Option.some.inj (hq.symm.trans hr)
        exact hnot ⟨hgranted, hwaits⟩
    case goes =>
      intro n r hr hgranted hwaits
      have hn := hcancels.mpr ⟨r, hr, hgranted, hwaits⟩
      refine ⟨by rw [State.enterSuspect_findPiece, if_pos hn], fun hsound => ?_⟩
      obtain ⟨q, hq, hnum⟩ := List.mem_map.mp hn
      obtain ⟨m, -, hfound, -⟩ := State.mem_cancelList.mp hq
      obtain rfl : m = n := (State.findPiece_number hfound).symm.trans hnum
      obtain rfl := Option.some.inj (hfound.symm.trans ((hfind m).trans hr))
      exact State.enterSuspect_lane_back (htracking.trans hsound) hq
    case order =>
      intro front hsound hgrants hfront
      obtain rfl : front = u.cancelList.map fun r => r.lane := by
        rw [hfront, u.cancelList_lanes, hurgent]
        simp only [hfind]
        rfl
      have horder := State.enterSuspect_order (c := .ringBreak) (htracking.trans hsound)
        (hurgent ▸ hgrants : (u.port.urgent.filterMap Queued.grantPiece).Nodup)
      rw [horder.1, horder.2, hfeed]
      exact ⟨rfl, rfl⟩
    case suspect =>
      intro q hq hticket
      rw [henters.urgent] at hq
      exact u.suspectUrgent_tickets q hq hticket
    case marked =>
      intro q hq hticket
      rw [henters.urgent]
      exact u.suspectUrgent_marked (hurgent ▸ hq) hticket
    case feedState =>
      intro hcondition
      rw [henters.urgent]
      exact u.suspectUrgent_feedState (by rw [hfeed]; exact hcondition)
    case report =>
      intro hroom
      have hleft : u.freePlaces ≠ 0 := State.logFault_leaves fault hroom
      obtain ⟨new, hnew⟩ := henters.routine
      refine ⟨by rw [henters.line]; exact decide_eq_false hleft, ?_⟩
      rw [hnew]
      refine List.mem_append_left _ (List.mem_append_right _ ?_)
      rw [if_neg hleft]
      exact List.mem_singleton.mpr rfl
    case owed =>
      intro hfull
      have hleft : u.freePlaces = 0 := Nat.le_zero.mp ((State.logFault_freePlaces taken fault).trans_eq hfull)
      refine ⟨by rw [henters.line]; exact decide_eq_true hleft, (henters.full hleft).trans ?_⟩
      exact (taken.logFault_routine fault).resolve_right fun h => h.1 hfull

end Sys2Proof.Machine

/-! SUPPORT. The closure of a batch and the choice of the next in every line state (R123, R126, R127, R129 to R131): what
an evaluation does to the batch list, and what follows the entry to SENDING. -/

namespace Sys2Proof.Machine

open Sys2Proof

/-! ### The routine queue grows at its back -/

theorem State.LotMove.routine_grows {a b : State} (h : a.LotMove b) : ∃ new, b.port.routine = a.port.routine ++ new := by
  have hsame {b : State} (h : b.port.routine = a.port.routine) : ∃ new, b.port.routine = a.port.routine ++ new :=
    ⟨[], by rw [h, List.append_nil]⟩
  cases h with
  | grant l r => exact hsame (a.grant_feedOnly l r).routine
  | testHold => exact hsame a.testHold_feedOnly.routine
  | block b => exact hsame (State.refreshFeed_feedOnly _).routine
  | routine d m => exact ⟨_, rfl⟩
  | _ => exact hsame rfl

theorem State.LotMoves.routine_grows {s t : State} (h : s.LotMoves t) :
    ∃ new, t.port.routine = s.port.routine ++ new :=
  h.keeps (I := fun u => ∃ new, u.port.routine = s.port.routine ++ new) (fun hm ⟨first, hfirst⟩ => by
    obtain ⟨second, hsecond⟩ := hm.routine_grows
    exact ⟨first ++ second, by rw [hsecond, hfirst, List.append_assoc]⟩) ⟨[], by simp⟩

/-! ### An evaluation and the batch list (R121, R125) -/

/-- The batch list after k grants from the batch of number n. -/
def BatchCounter.granted (q : BatchCounter) (n : Half) (k : Nat) : BatchCounter :=
  { q with
    places := q.places.map fun e => e.map fun b => if b.number == n then { b with live := b.live + k } else b
    idle := if k = 0 then q.idle else .running 0 false }

theorem BatchCounter.granted_zero (q : BatchCounter) (n : Half) : q.granted n 0 = q := by
  simp [BatchCounter.granted]

theorem BatchCounter.granted_succ (q : BatchCounter) (n : Half) (k : Nat) :
    (q.granted n k).granted n 1 = q.granted n (k + 1) := by
  simp only [BatchCounter.granted, List.map_map, BatchCounter.mk.injEq, and_true]
  refine ⟨List.map_congr_left fun e _ => ?_, by simp⟩
  cases e with
  | none => rfl
  | some b => by_cases hb : b.number = n <;> simp [hb, Nat.add_assoc]

/-- The entry at a place after k grants from the batch of number n. -/
theorem State.batchAt_granted {s t : State} {n : Half} {k : Nat} (h : t.batch = s.batch.granted n k) (i : Nat) :
    t.batchAt i = (s.batchAt i).map fun b => if b.number == n then { b with live := b.live + k } else b := by
  simp only [State.batchAt, h, BatchCounter.granted, List.getElem?_map]
  cases s.batch.places[i]? <;> rfl

theorem State.currentBatch_granted {s t : State} {n : Half} {k : Nat} (h : t.batch = s.batch.granted n k) :
    t.currentBatch = s.currentBatch := by
  simp only [State.currentBatch, h, BatchCounter.granted, List.findSome?_map]
  congr 1
  funext e
  cases e with
  | none => rfl
  | some b => by_cases hb : b.number = n <;> simp [hb]

theorem State.qualifies_current {s : State} {l : Lane} {r : LaneRequest} (h : s.qualifies l r = true) :
    s.currentBatch = some r.batch := by
  simp only [State.qualifies, Bool.and_eq_true, beq_iff_eq] at h
  obtain ⟨⟨⟨⟨-, -⟩, hcurrent⟩, -⟩, -⟩ := h
  exact hcurrent

/-- From s to t lanes were granted from the current batch, and nothing else was done to the batch list. -/
def State.GrantsFrom (s t : State) : Prop :=
  ∃ (n : Half) (k : Nat), t.batch = s.batch.granted n k ∧ (k ≠ 0 → s.currentBatch = some n)

theorem State.tryLane_grantsFrom {s t : State} (h : s.GrantsFrom t) (l : Lane) : s.GrantsFrom (t.tryLane l) := by
  unfold State.tryLane
  split
  next r _ _ =>
    split
    next hqualifies =>
      cases hfull : t.tableFull with
      | true => rw [State.grant, if_pos hfull]; exact h
      | false =>
        obtain ⟨n, k, hbatch, hcurrent⟩ := h
        have hnow : s.currentBatch = some r.batch :=
          (State.currentBatch_granted hbatch).symm.trans (State.qualifies_current hqualifies)
        have hone : (t.grant l r).batch = t.batch.granted r.batch 1 := by rw [State.grant_batch hfull]; rfl
        by_cases hk : k = 0
        · subst hk
          rw [BatchCounter.granted_zero] at hbatch
          exact ⟨r.batch, 1, by rw [hone, hbatch], fun _ => hnow⟩
        · obtain rfl : n = r.batch := Option.some.inj ((hcurrent hk).symm.trans hnow)
          exact ⟨r.batch, k + 1, by rw [hone, hbatch, BatchCounter.granted_succ], fun _ => hnow⟩
    · exact h
  · exact h

theorem State.evaluate_grantsFrom (s : State) : s.GrantsFrom s.evaluate := by
  have general : ∀ (lanes : List Lane) (t : State), s.GrantsFrom t → s.GrantsFrom (lanes.foldl State.tryLane t) := by
    intro lanes
    induction lanes with
    | nil => exact fun t ht => ht
    | cons l rest ih => exact fun t ht => ih _ (State.tryLane_grantsFrom ht l)
  exact general _ _ ⟨0, 0, (BatchCounter.granted_zero _ _).symm, fun h => absurd rfl h⟩

/-- The entry of another batch than the current one stands through an evaluation. -/
theorem State.evaluate_batchAt {s : State} {i : Nat} {b : BatchEntry} (hb : s.batchAt i = some b)
    (hother : s.currentBatch ≠ some b.number) : s.evaluate.batchAt i = some b := by
  obtain ⟨n, k, hbatch, hcurrent⟩ := s.evaluate_grantsFrom
  rw [State.batchAt_granted hbatch, hb]
  by_cases hn : b.number = n
  · have hk : k = 0 := by
      by_contra hk
      exact hother (hn ▸ hcurrent hk)
    simp [hk]
  · simp [hn]

/-- With no current batch an evaluation drops dead tails, and no more. -/
theorem State.evaluate_noBatch {s : State} (h : s.currentBatch = none) : s.evaluate = s.dropTails := by
  have htry (l : Lane) : s.dropTails.tryLane l = s.dropTails := by
    unfold State.tryLane
    split
    next r _ _ =>
      refine if_neg fun hqualifies => ?_
      exact absurd (State.qualifies_current hqualifies) (by rw [show s.dropTails.currentBatch = s.currentBatch from rfl, h]; simp)
    · rfl
  have general : ∀ lanes : List Lane, lanes.foldl State.tryLane s.dropTails = s.dropTails := by
    intro lanes
    induction lanes with
    | nil => rfl
    | cons l rest ih => rw [List.foldl_cons, htry, ih]
  exact general _

/-! ### The choice of the next batch (R123, R124) -/

theorem State.setBlock_batch {s : State} (c : BlockCause) (front : Lane) :
    (s.setBlock c front).batch = { s.batch with block := some c } ∧ (s.setBlock c front).pieces = s.pieces := by
  unfold State.setBlock
  split
  next hblock => exact ⟨by rw [← hblock], rfl⟩
  next =>
    obtain ⟨hpieces, hbatch⟩ := State.refreshFeed_blocks (s.onBatch fun q => { q with block := some c })
    split
    · exact ⟨hbatch, hpieces⟩
    · obtain ⟨hpieces', -, hbatch', -⟩ := State.logFault_blocks
        (s.onBatch fun q => { q with block := some .listFull }).refreshFeed
        { code := .batchListFull, severity := .piece, piece := none, site := .lane front, position := none }
      exact ⟨hbatch'.trans hbatch, hpieces'.trans hpieces⟩

/-- What a choice of a batch can do. -/
inductive State.Chooses (s : State) : State → Prop where
  | none : Chooses s s
  | clear : Chooses s s.clearBlock
  | block (c : BlockCause) (front : Lane) : Chooses s (s.setBlock c front)
  | opens (i : Nat) (n : Half) (hcurrent : s.currentPlace = none) (hnew : s.placeOf n = none)
      (hempty : s.emptyPlace = some i) : Chooses s (s.openBatch i n)

theorem State.choose_chooses (s : State) : s.Chooses s.choose := by
  unfold State.choose
  split
  · exact .none
  next hfree =>
    split
    · exact .clear
    · split
      · exact .none
      next r _ =>
        split
        · exact .block _ _
        next hnew =>
          split
          next i hempty => exact .opens i r.batch (by simpa using fun h => hfree (.inr h)) (by simpa using hnew) hempty
          · exact .block _ _

/-- With no entry OPEN, one opened at an empty place is the current one. -/
theorem State.currentBatch_opened {s : State} {i : Nat} {b : BatchEntry} (hcurrent : s.currentPlace = none)
    {m : Half} (hm : (s.setPlace i (some b)).currentBatch = some m) : m = b.number := by
  obtain ⟨e, he, hsome⟩ := List.exists_of_findSome?_eq_some hm
  cases e with
  | none => exact absurd hsome (by simp)
  | some c =>
    obtain ⟨j, hj⟩ := List.mem_iff_getElem?.mp he
    by_cases hc : c.state = .opened
    · obtain rfl : c.number = m := by simpa [hc] using hsome
      rcases State.setPlace_entries (State.batchAt_eq_some.mpr hj) with ⟨-, hnew⟩ | hold
      · rw [Option.some.inj hnew]
      · exact absurd hc (State.currentPlace_none hcurrent _ (List.mem_of_getElem? (State.batchAt_eq_some.mp hold)) c rfl)
    · exact absurd hsome (by simp [hc])

/-- The state in which a batch is opened, before its evaluation (R123, R125). -/
def State.opening (s : State) (i : Nat) (n : Half) : State :=
  ((s.setPlace i (some (BatchEntry.fresh n))).onBatch fun q => { q with idle := .running 0 false, block := none }).refreshFeed

theorem State.opening_batch (s : State) (i : Nat) (n : Half) : (s.opening i n).batch =
    { s.batch with places := s.batch.places.set i (some (BatchEntry.fresh n)), idle := .running 0 false, block := none } :=
  State.refreshFeed_batch _

theorem State.batchAt_congr {s t : State} (h : t.batch.places = s.batch.places) (i : Nat) : t.batchAt i = s.batchAt i := by
  rw [State.batchAt, h]
  rfl

theorem State.currentBatch_congr {s t : State} (h : t.batch.places = s.batch.places) : t.currentBatch = s.currentBatch := by
  rw [State.currentBatch, h]
  rfl

theorem State.opening_places (s : State) (i : Nat) (n : Half) :
    (s.opening i n).batch.places = (s.setPlace i (some (BatchEntry.fresh n))).batch.places :=
  (congrArg BatchCounter.places (s.opening_batch i n) :)

/-- A choice leaves every entry that stands as it is. -/
theorem State.choose_batchAt {s : State} {i : Nat} {b : BatchEntry} (hb : s.batchAt i = some b) :
    s.choose.batchAt i = some b := by
  have hchooses := s.choose_chooses
  generalize s.choose = t at hchooses
  cases hchooses with
  | none => exact hb
  | clear => exact (State.batchAt_congr (by rw [s.clearBlock_blocks.1]) i).trans hb
  | block c front => exact (State.batchAt_congr (by rw [(s.setBlock_batch c front).1]) i).trans hb
  | opens j n hcurrent hnew hempty =>
    have hget := State.batchAt_eq_some.mp hb
    have hne : j ≠ i := fun h => by
      rw [← h, State.emptyPlace_get hempty] at hget
      exact absurd hget (by simp)
    have hstands : (s.opening j n).batchAt i = some b := by
      rw [State.batchAt_congr (s.opening_places j n)]
      exact State.batchAt_eq_some.mpr ((List.getElem?_set_ne hne).trans hget)
    refine State.evaluate_batchAt (s := s.opening j n) hstands fun hnow => ?_
    rw [State.currentBatch_congr (s.opening_places j n)] at hnow
    exact State.placeOf_none hnew _ (List.mem_of_getElem? hget) b rfl (State.currentBatch_opened hcurrent hnow)

/-! ### The entry to SENDING (R130, R131) -/

theorem BatchEntry.used_sorted (b : BatchEntry) : b.used.Pairwise (· < ·) := by
  unfold BatchEntry.used
  rw [List.pairwise_append, List.pairwise_map]
  refine ⟨(List.pairwise_lt_range.filter _).imp fun h => by omega, by split <;> simp, fun a ha c hc => ?_⟩
  obtain ⟨i, hi, rfl⟩ := List.mem_map.mp ha
  have hlt : i < 8 := List.mem_range.mp (List.mem_of_mem_filter hi)
  split at hc
  · obtain rfl : c = 9 := by simpa using hc
    omega
  · exact absurd hc (by simp)

/-- The slot sent first is the first of the slots in use. -/
theorem BatchEntry.firstSlot_head {b : BatchEntry} {n : Nat} (h : b.firstSlot n) : b.used.head?.getD 0 = n := by
  rcases h with ⟨hnone, rfl⟩ | ⟨hmem, hleast⟩
  · simp [hnone]
  · have hsorted := b.used_sorted
    cases hused : b.used with
    | nil => simp [hused] at hmem
    | cons a rest =>
      rw [hused] at hmem hleast hsorted
      have hle := hleast a (by simp)
      rcases List.mem_cons.mp hmem with rfl | hin
      · rfl
      · have := (List.pairwise_cons.mp hsorted).1 n hin
        omega

/-- The state at the entry to SENDING, before any TALLY (R130). -/
def State.sendingAt (s : State) (i : Nat) (c : BatchEntry) : State :=
  { s with batch := { s.batch with places := s.batch.places.set i (some c), sendOrder := s.batch.sendOrder ++ [i] } }

section

variable {s : State} {i first : Nat} {b c : BatchEntry}

theorem State.enterSending_eq (hb : s.batchAt i = some b) (hfirst : b.firstSlot first)
    (hc : c = { b with state := .sending, nextSlot := some first }) :
    s.enterSending i = if s.batch.sendOrder = [] then (s.sendingAt i c).sendTallies else s.sendingAt i c := by
  subst hc
  have hhead := BatchEntry.firstSlot_head hfirst
  simp only [State.enterSending, hb, hhead, ← List.isEmpty_iff]
  rfl

theorem State.sendingAt_batchAt (hb : s.batchAt i = some b) : (s.sendingAt i c).batchAt i = some c := by
  obtain ⟨hlt, -⟩ := List.getElem?_eq_some_iff.mp (State.batchAt_eq_some.mp hb)
  exact State.batchAt_eq_some.mpr (List.getElem?_set_self hlt)

/-- A sending with a place free begins with the TALLY of the front entry's next slot (R131). -/
theorem State.sendTallies_front {rest : List Nat} (horder : s.batch.sendOrder = i :: rest) (hb : s.batchAt i = some b)
    (hroom : s.freePlaces ≠ 0) : ∃ new : List Queued,
    s.sendTallies.port.routine = s.port.routine ++ { dest := 0, msg := .tally b.report, suspect := false } :: new := by
  obtain ⟨later, hlater⟩ := (State.sendTallies_lotMoves s.sendOne).routine_grows
  have hone : ∃ new : List Queued, s.sendOne.port.routine =
      s.port.routine ++ { dest := 0, msg := .tally b.report, suspect := false } :: new := by
    simp only [State.sendOne, horder, hb]
    split
    · obtain ⟨new, hnew⟩ := (State.freeEntry_lotMoves (s.pushRoutine 0 (.tally b.report)) i).routine_grows
      exact ⟨new, hnew.trans (List.append_assoc _ _ _)⟩
    · exact ⟨[], rfl⟩
  obtain ⟨new, hnew⟩ := hone
  refine ⟨new ++ later, ?_⟩
  rw [State.sendTallies_step s (by simp [horder]) hroom, hlater, hnew, List.append_assoc]
  rfl

theorem State.enterSending_sendsEntry (hb : s.batchAt i = some b) (hfirst : b.firstSlot first)
    (hc : c = { b with state := .sending, nextSlot := some first }) : State.sendsEntry s (s.enterSending i) i c := by
  rw [State.enterSending_eq hb hfirst hc]
  refine ⟨fun hwaits => ?_, fun horder hroom => ?_⟩
  · split
    next horder =>
      have hfull : (s.sendingAt i c).freePlaces = 0 := hwaits.resolve_left (by simp [horder])
      rw [State.sendTallies_none _ (.inr hfull)]
      exact ⟨State.sendingAt_batchAt hb, rfl⟩
    next => exact ⟨State.sendingAt_batchAt hb, rfl⟩
  · rw [if_pos horder]
    exact State.sendTallies_front (s := s.sendingAt i c) (rest := []) (by simp [State.sendingAt, horder])
      (State.sendingAt_batchAt hb) hroom

/-- A choice of the next batch leaves the entry that went on to SENDING, and what it queued. -/
theorem State.sendsEntry_choose {t : State} (h : State.sendsEntry s t i c) : State.sendsEntry s t.choose i c := by
  refine ⟨fun hwaits => ?_, fun horder hroom => ?_⟩
  · obtain ⟨hentry, horder⟩ := h.1 hwaits
    exact ⟨State.choose_batchAt hentry, t.choose_sending.1.trans horder⟩
  · obtain ⟨new, hnew⟩ := h.2 horder hroom
    obtain ⟨later, hlater⟩ := t.choose_lotMoves.routine_grows
    exact ⟨new ++ later, by rw [hlater, hnew, List.append_assoc]; rfl⟩

end

/-! ### The closure of the current batch (R125, R129) -/

section

variable {s : State} {i : Nat} {b : BatchEntry} {cause : ClosureCause}

theorem State.closeCurrent_eq (hi : s.currentPlace = some i) (hb : s.batchAt i = some b) : s.closeCurrent cause =
    (if b.live = 0 then (s.closeEntry i b cause).enterSending i else s.closeEntry i b cause).choose := by
  simp only [State.closeCurrent, hi, hb]

/-- In a sound batch list a closure leaves the entry CLOSING with its counts, and no entry OPEN for a grant. -/
theorem State.closeEntry_batchAt (hs : s.batchesSound = true) (hi : s.currentPlace = some i) (hb : s.batchAt i = some b) :
    (s.closeEntry i b cause).batchAt i = some { b with state := .closing, cause := some cause } := by
  obtain ⟨hlt, -⟩ := List.getElem?_eq_some_iff.mp (State.batchAt_eq_some.mp hb)
  refine State.evaluate_batchAt (State.batchAt_eq_some.mpr (List.getElem?_set_self hlt)) fun hnow => ?_
  have hnone : State.currentBatch ((s.setPlace i (some { b with state := .closing, cause := some cause })).onBatch
      fun q => { q with idle := .stopped }) = none :=
    State.currentBatch_eq_none.mpr fun j d hd =>
      State.noneOpened_replaced hs hi (c := { b with state := .closing, cause := some cause }) (by simp)
        (State.batchAt_eq_some.mp hd)
  rw [hnone] at hnow
  exact absurd hnow (by simp)

/-- An entry closed with live pieces stands CLOSING, in every line state. -/
theorem State.closeCurrent_batchAt (hs : s.batchesSound = true) (hi : s.currentPlace = some i) (hb : s.batchAt i = some b)
    (hlive : b.live ≠ 0) :
    (s.closeCurrent cause).batchAt i = some { b with state := .closing, cause := some cause } := by
  rw [State.closeCurrent_eq hi hb, if_neg hlive]
  exact State.choose_batchAt (State.closeEntry_batchAt hs hi hb)

/-- An entry closed with no live piece goes on to SENDING, in every line state. -/
theorem State.closeCurrent_sendsEntry (hs : s.batchesSound = true) (hi : s.currentPlace = some i)
    (hb : s.batchAt i = some b) (hlive : b.live = 0) {c : BatchEntry} {first : Nat} (hfirst : b.firstSlot first)
    (hc : c = { b with state := .sending, cause := some cause, nextSlot := some first }) :
    State.sendsEntry s (s.closeCurrent cause) i c := by
  rw [State.closeCurrent_eq hi hb, if_pos hlive]
  have hfeed := s.closeEntry_feedOnly i b cause
  have horder : (s.closeEntry i b cause).batch.sendOrder = s.batch.sendOrder := State.evaluate_sendOrder _
  have hsends := State.sendsEntry_choose (State.enterSending_sendsEntry (first := first)
    (State.closeEntry_batchAt (cause := cause) hs hi hb) hfirst hc)
  unfold State.sendsEntry at hsends ⊢
  rwa [horder, hfeed.freePlaces, hfeed.routine] at hsends

/-- Outside RUN the entry closed with no live piece, while it stands, is SENDING. -/
theorem State.closeCurrent_sending (hrun : s.line.state ≠ .run) (hi : s.currentPlace = some i) (hb : s.batchAt i = some b)
    (hlive : b.live = 0) {c : BatchEntry} (hc : (s.closeCurrent cause).batchAt i = some c) :
    c.state = .sending ∧ c.cause = some cause ∧ c.number = b.number := by
  obtain ⟨d, hd, hcd⟩ := (State.closeCurrent_sends hrun hi hb).entries i c hc
  obtain rfl : b.closedWith cause = d := Option.some.inj ((State.closedAt_batchAt hb).symm.trans hd)
  rw [hcd, BatchEntry.closedWith, if_pos hlive]
  exact ⟨rfl, rfl, rfl⟩

end

theorem State.LotsOnly.sameTracking {s t : State} (h : s.LotsOnly t) : State.sameTracking s t := h.lineOnly.sameTracking

/-- Settles O18: a closure with cause IDLE, where the timer has expired and there is a current batch. -/
theorem idleTimeoutCloses : Obligations.IdleTimeoutCloses := by
  refine ⟨fun s n i b hheld hidle hi hb => ?closes, fun s hnot => State.live_still ?still⟩
  case still =>
    unfold State.takeIdle
    split
    next n hidle => exact absurd hidle (hnot n)
    · rfl
    · rfl
  case closes =>
    have htaken : s.takeIdle = s.closeCurrent .idle := by simp only [State.takeIdle, hidle]
    have hlots := s.closeCurrent_lotsOnly .idle
    refine ⟨_, (State.live_released State.takeIdle hheld).trans (congrArg _ htaken),
      fun hs hlive => State.closeCurrent_batchAt hs hi hb hlive,
      fun hlive hrun c hc => State.closeCurrent_sending hrun hi hb hlive hc, hlots.travel, hlots.eyes, hlots.matcher,
      hlots.folder, by rw [hlots.line], hlots.lineOnly.track.sameOuter, rfl,
      fun c first hs hlive hfirst hc => State.closeCurrent_sendsEntry hs hi hb hlive hfirst hc, fun hrun => ?_⟩
    have hcloses := State.closeCurrent_closesIn hrun .idle
    exact ⟨hcloses.idle (Option.isSome_of_eq_some hi), hcloses.pieces⟩

/-! ### What the choice of a batch comes to, by the request at the front -/

section

variable {s : State} {l : Lane} {rest : List Lane} {r : LaneRequest}

theorem State.choose_front (hrun : s.line.state = .run) (hcurrent : s.currentPlace = none) (horder : s.feed.order = l :: rest)
    (hrequest : (s.lane l).request = some r) : s.choose =
      if (s.placeOf r.batch).isSome then s.setBlock .numberHeld l
      else match s.emptyPlace with
        | some i => s.openBatch i r.batch
        | none => s.setBlock .listFull l := by
  rw [State.choose, if_neg (by simp [hrun, hcurrent])]
  simp only [horder, hrequest] <;>
    rfl

theorem State.placeOf_isSome {n : Half} : (s.placeOf n).isSome = true ↔ ∃ j b, s.batchAt j = some b ∧ b.number = n := by
  rw [State.placeOf, List.findIdx?_isSome, List.any_eq_true]
  constructor
  · rintro ⟨e, he, hnum⟩
    obtain ⟨j, hj⟩ := List.mem_iff_getElem?.mp he
    cases e with
    | none => exact absurd hnum (by simp)
    | some b => exact ⟨j, b, State.batchAt_eq_some.mpr hj, by simpa using hnum⟩
  · rintro ⟨j, b, hb, hnum⟩
    exact ⟨some b, List.mem_of_getElem? (State.batchAt_eq_some.mp hb), by simpa using hnum⟩

theorem State.emptyPlace_eq {i : Nat} (hempty : s.batch.places[i]? = some none)
    (hlow : ∀ j < i, s.batch.places[j]? ≠ some none) : s.emptyPlace = some i := by
  obtain ⟨hlt, hget⟩ := List.getElem?_eq_some_iff.mp hempty
  refine List.findIdx?_eq_some_iff_getElem.mpr ⟨hlt, by simp [hget], fun j hj hnone => ?_⟩
  refine hlow j hj (List.getElem?_eq_some_iff.mpr ⟨hj.trans hlt, ?_⟩)
  simpa using hnone

theorem State.emptyPlace_none (hfull : ∀ j : Nat, s.batch.places[j]? ≠ some none) : s.emptyPlace = none := by
  refine List.findIdx?_eq_none_iff.mpr fun e he => ?_
  obtain ⟨j, hj⟩ := List.mem_iff_getElem?.mp he
  cases e with
  | none => exact absurd hj (hfull j)
  | some b => rfl

/-- The batch list after a batch was opened: its entry with the pieces granted at once, and the timer at 0. -/
theorem State.openBatch_opens {i : Nat} {n : Half} (hcurrent : s.currentPlace = none)
    (hempty : s.batch.places[i]? = some none) :
    (s.openBatch i n).currentBatch = some n ∧ (s.openBatch i n).batch.idle = .running 0 false ∧
      (s.openBatch i n).batch.block = none ∧ ∃ k : Nat, (s.openBatch i n).batchAt i =
        some { BatchEntry.fresh n with live := k } := by
  obtain ⟨hlt, -⟩ := List.getElem?_eq_some_iff.mp hempty
  obtain ⟨m, k, hbatch, hm⟩ := State.evaluate_grantsFrom (s.opening i n)
  have hat : (s.opening i n).batchAt i = some (BatchEntry.fresh n) := by
    rw [State.batchAt_congr (s.opening_places i n)]
    exact State.batchAt_eq_some.mpr (List.getElem?_set_self hlt)
  have hnow : (s.opening i n).currentBatch = some n := by
    cases h : (s.opening i n).currentBatch with
    | none => exact absurd rfl (State.currentBatch_eq_none.mp h i _ hat)
    | some m =>
      rw [State.currentBatch_congr (s.opening_places i n)] at h
      rw [State.currentBatch_opened hcurrent h]
      rfl
  refine ⟨(State.currentBatch_granted hbatch).trans hnow, ?_, ?_, ?_⟩
  · show (s.opening i n).evaluate.batch.idle = _
    rw [hbatch, BatchCounter.granted, s.opening_batch]
    exact ite_self _
  · show (s.opening i n).evaluate.batch.block = _
    rw [hbatch, BatchCounter.granted, s.opening_batch]
  · show ∃ k, (s.opening i n).evaluate.batchAt i = _
    rw [State.batchAt_granted hbatch, hat]
    by_cases hn : n = m
    · exact ⟨0 + k, by simp [BatchEntry.fresh, hn]⟩
    · exact ⟨0, by simp [BatchEntry.fresh, hn]⟩

end

/-- A block set for want of a place records its fault on its setting (R124). -/
theorem State.setBlock_faults (s : State) (l : Lane) : (s.setBlock .numberHeld l).faults = s.faults ∧
    (s.batch.block = some .listFull → (s.setBlock .listFull l).faults = s.faults) ∧
      (s.batch.block ≠ some .listFull → State.recorded s (s.setBlock .listFull l)
        { code := .batchListFull, severity := .piece, piece := none, site := .lane l, position := none }) := by
  refine ⟨?_, fun hblock => by rw [State.setBlock, if_pos hblock], fun hblock => ?_⟩
  · unfold State.setBlock
    split
    · rfl
    · exact (State.refreshFeed_feedOnly _).faults
  · rw [State.setBlock, if_neg hblock, State.refreshFeed_eq]
    exact State.logFault_recorded _ _

/-- Settles O56: the command, the closure, the entry to SENDING and the choice of the next batch, each from its own lemma. -/
theorem closeBatchTaken : Obligations.CloseBatchTaken := by
  refine ⟨fun e s i b hadmits hi hb => ?closes, fun s v w i b cause hi hb hv hw => ?closure,
    fun s cause hi => s.closeCurrent_none cause hi, fun s u i first b hb hfirst hu => ?sending,
    fun e s hadmits hcurrent => ?noBatch, fun s l rest r i hrun hcurrent horder hrequest hnew hempty hlow => ?opens,
    fun s l rest r j b hrun hcurrent horder hrequest hb hnum => ?held,
    fun s l rest r hrun hcurrent horder hrequest hnew hfull => ?full,
    fun s hrun hcurrent horder => ?noOrder, fun s h => State.choose_of_noChoice h⟩
  case closes =>
    have hsome : s.currentBatch ≠ none := fun hnone => by
      obtain ⟨c, hc, hopen⟩ := State.currentPlace_opened hi
      exact State.currentBatch_eq_none.mp hnone i c hc hopen
    have hdo : s.performing.doCommand 8 [] = (s.performing.closeCurrent .command).answer 8 resDone := by
      show s.performing.doCloseBatch = _
      exact if_neg (show ¬ s.currentBatch.isNone = true by simpa [Option.isNone_iff_eq_none] using hsome)
    have hi' : s.performing.currentPlace = some i := hi
    have hlots := s.performing.closeCurrent_lotsOnly .command
    refine ⟨_, exec_command hadmits hdo, fun hs hlive => State.closeCurrent_batchAt (s := s.performing) hs hi' hb hlive,
      fun hlive hrun c hc => State.closeCurrent_sending (s := s.performing) hrun hi' hb hlive hc,
      State.answered_repliedLast _ _ _ _, hlots.line, hlots.lineOnly.sameTracking_answered _ _ _,
      hlots.lineOnly.sameOuter_answered _ _ _,
      fun hrun => (State.closeCurrent_closesIn (s := s.performing) hrun .command).idle (Option.isSome_of_eq_some hi'),
      fun u hu => ?_⟩
    subst hu
    refine ⟨rfl, fun c first hs hlive hfirst hc => ?_⟩
    obtain ⟨hwaits, hbegins⟩ := State.closeCurrent_sendsEntry (s := s.performing) hs hi' hb hlive hfirst hc
    refine ⟨hwaits, fun horder hroom => ?_⟩
    obtain ⟨new, hnew⟩ := hbegins horder hroom
    exact ⟨new ++ _, (congrArg (· ++ _) hnew).trans (List.append_assoc ..)⟩
  case closure =>
    subst hw hv
    exact State.closeCurrent_eq hi hb
  case sending =>
    obtain rfl : u = s.sendingAt i { b with state := .sending, nextSlot := some first } := hu
    have hsends := State.enterSending_eq hb hfirst rfl
    refine ⟨fun horder => hsends.trans (if_neg horder), fun horder hheld => ?_⟩
    rw [hsends, if_pos horder]
    exact State.live_released State.sendTallies hheld
  case noBatch =>
    have hdo : s.performing.doCommand 8 [] = s.performing.answer 8 resNoBatch := by
      show s.performing.doCloseBatch = _
      exact if_pos (by rw [show s.performing.currentBatch = s.currentBatch from rfl, hcurrent]; rfl)
    exact exec_command hadmits hdo
  case opens =>
    have hplace : (s.placeOf r.batch).isSome = false := by
      simpa [← Bool.not_eq_true, State.placeOf_isSome] using hnew
    rw [State.choose_front hrun hcurrent horder hrequest, if_neg (by simp [hplace]), State.emptyPlace_eq hempty hlow]
    obtain ⟨hnow, hidle, hblock, k, hat⟩ := State.openBatch_opens (n := r.batch) hcurrent hempty
    exact ⟨hnow, hidle, hblock, _, hat, rfl, rfl, rfl, rfl, rfl, rfl⟩
  case held =>
    rw [State.choose_front hrun hcurrent horder hrequest, if_pos (State.placeOf_isSome.mpr ⟨j, b, hb, hnum⟩)]
    obtain ⟨hbatch, hpieces⟩ := s.setBlock_batch .numberHeld l
    exact ⟨hbatch, (s.setBlock_faults l).1, hpieces⟩
  case full =>
    have hplace : (s.placeOf r.batch).isSome = false := by
      simpa [← Bool.not_eq_true, State.placeOf_isSome] using hnew
    rw [State.choose_front hrun hcurrent horder hrequest, if_neg (by simp [hplace]), State.emptyPlace_none hfull]
    obtain ⟨hbatch, hpieces⟩ := s.setBlock_batch .listFull l
    obtain ⟨-, hstill, hrecorded⟩ := s.setBlock_faults l
    exact ⟨hbatch, hpieces, hstill, hrecorded⟩
  case noOrder =>
    rw [State.choose_of_noOrder hrun hcurrent horder]
    exact ⟨s.clearBlock_blocks.1, s.clearBlock_blocks.2.1⟩

end Sys2Proof.Machine

/-! SUPPORT. The insertion of a frame and the waiting blocks (R131, R149, R160, R173, R175). -/

namespace Sys2Proof.Machine

open Sys2Proof

/-! ### How far the routine queue grows -/

theorem State.LotMove.reserved {a b : State} (h : a.LotMove b) : b.port.reserved = a.port.reserved := by
  cases h with
  | grant l r => exact (congrArg RingPort.reserved (a.grant_feedOnly l r).port :)
  | testHold => exact (congrArg RingPort.reserved a.testHold_feedOnly.port :)
  | block b => exact (congrArg RingPort.reserved (State.refreshFeed_feedOnly { a with batch := b }).port :)
  | _ => rfl

/-- The frames queued find a place each. -/
theorem State.LotMoves.routine_length {s t : State} (h : s.LotMoves t) :
    t.port.routine.length ≤ s.port.routine.length + s.freePlaces := by
  suffices hboth : t.port.reserved = s.port.reserved ∧
      t.port.routine.length ≤ s.port.routine.length + s.freePlaces from hboth.2
  refine h.keeps (I := fun u => u.port.reserved = s.port.reserved ∧
    u.port.routine.length ≤ s.port.routine.length + s.freePlaces) (fun {a b} hm ⟨hreserved, hlength⟩ => ?_)
    ⟨rfl, Nat.le_add_right _ _⟩
  refine ⟨hm.reserved.trans hreserved, ?_⟩
  have hsame (hb : b.port.routine = a.port.routine) : b.port.routine.length ≤ s.port.routine.length + s.freePlaces :=
    hb ▸ hlength
  cases hm with
  | grant l r => exact hsame (a.grant_feedOnly l r).routine
  | testHold => exact hsame a.testHold_feedOnly.routine
  | block b => exact hsame (State.refreshFeed_feedOnly _).routine
  | routine d m hroom =>
    show (a.port.routine ++ [_]).length ≤ _
    unfold State.freePlaces at hroom ⊢
    rw [hreserved] at hroom
    rw [List.length_append, List.length_singleton]
    omega
  | _ => exact hlength

/-- A sending with one place free queues the one TALLY. -/
theorem State.sendTallies_last {s : State} {q : Queued} {more : List Queued}
    (h : s.sendTallies.port.routine = s.port.routine ++ q :: more) (hroom : s.freePlaces = 1) : more = [] := by
  have hlength := s.sendTallies_lotMoves.routine_length
  rw [h, hroom, List.length_append, List.length_cons] at hlength
  exact List.length_eq_zero_iff.mp (by omega)

/-! ### The waiting blocks -/

theorem State.queueLineState_queued {s : State} (howed : s.line.owed = true) (hroom : s.freePlaces ≠ 0) :
    s.queueLineState = { s with
      port := { s.port with
        routine := s.port.routine ++
          [{ dest := 31, msg := .lineState s.line.state s.line.cause, suspect := false }] }
      line := { s.line with owed := false } } := if_pos ⟨howed, hroom⟩

theorem State.queueLineState_still {s : State} (h : s.line.owed = false ∨ s.freePlaces = 0) : s.queueLineState = s :=
  if_neg fun ⟨howed, hroom⟩ => h.elim (fun h => by simp [h] at howed) hroom

theorem State.offerAlertSpace_still {s : State} (hfull : s.freePlaces = 0) : s.offerAlertSpace = s := by
  unfold State.offerAlertSpace
  split
  next howed =>
    cases hacc : s.faults.acc with
    | none => simp only [State.queueAlert, hacc]
    | some m =>
      rw [State.queueAlert_owed hacc hfull, ← howed]
  · rfl

theorem mem_used {b : BatchEntry} {n : Nat} : n ∈ b.used ↔
    (∃ (i : Nat) (x : TallySlot) (a : Byte), i < 8 ∧ n = i + 1 ∧ b.slots[i]? = some x ∧ x.code = some a) ∨
      (n = 9 ∧ (0 < b.other.good ∨ 0 < b.other.flagged ∨ 0 < b.other.reject ∨ 0 < b.other.lost)) := by
  unfold BatchEntry.used
  rw [List.mem_append, List.mem_map]
  refine or_congr ⟨?_, ?_⟩ ?_
  · rintro ⟨i, hi, rfl⟩
    obtain ⟨hrange, hcode⟩ := List.mem_filter.mp hi
    obtain ⟨a, ha⟩ := Option.isSome_iff_exists.mp hcode
    obtain ⟨x, hx, hxa⟩ := Option.bind_eq_some_iff.mp ha
    exact ⟨i, x, a, List.mem_range.mp hrange, rfl, hx, hxa⟩
  · rintro ⟨i, x, a, hi, rfl, hx, ha⟩
    exact ⟨i, List.mem_filter.mpr ⟨List.mem_range.mpr hi, by simp [hx, ha]⟩, rfl⟩
  · by_cases h9 : n = 9 <;> simp [h9, Tally.inUse, Nat.pos_iff_ne_zero, or_assoc]

/-- No slot in use follows one that all are at or below. -/
theorem BatchEntry.slotAfter_none {b : BatchEntry} {n : Nat} : (b.slotAfter n).isNone = true ↔ ∀ j ∈ b.used, j ≤ n := by
  simp [BatchEntry.slotAfter, List.find?_eq_none]

theorem find_least {p : Nat → Bool} {k : Nat} : ∀ {l : List Nat}, l.Pairwise (· < ·) → k ∈ l → p k = true →
    (∀ j ∈ l, p j = true → k ≤ j) → l.find? p = some k
  | [], _, hk, _, _ => absurd hk (by simp)
  | a :: rest, hsorted, hk, hp, hleast => by
    obtain ⟨hbelow, hrest⟩ := List.pairwise_cons.mp hsorted
    by_cases ha : p a = true
    · have hka := hleast a (by simp) ha
      rcases List.mem_cons.mp hk with rfl | hin
      · exact List.find?_cons_of_pos ha
      · have := hbelow k hin
        omega
    · rw [List.find?_cons_of_neg ha]
      refine find_least hrest ((List.mem_cons.mp hk).resolve_left fun h => ha (h ▸ hp)) hp fun j hj =>
        hleast j (List.mem_cons_of_mem _ hj)

/-- The next slot in use after n. -/
theorem BatchEntry.slotAfter_least {b : BatchEntry} {n k : Nat} (hk : k ∈ b.used) (hlt : n < k)
    (hleast : ∀ j ∈ b.used, n < j → k ≤ j) : b.slotAfter n = some k :=
  find_least b.used_sorted hk (by simpa using hlt) fun j hj hnj => hleast j hj (by simpa using hnj)

/-- What the TALLY of an entry's next slot carries (R131). -/
theorem BatchEntry.report_carries {b : BatchEntry} {n : Nat} {c : ClosureCause} (hn : b.nextSlot = some n)
    (hc : b.cause = some c) : b.report =
      { batch := b.number, cause := c, slot := n, last := n = 0 || (b.slotAfter n).isNone, article := b.codeOf n,
        counts := b.countsOf n } := by
  simp only [BatchEntry.report, hn, hc, Option.getD_some]

section

variable {s : State} {i n : Nat} {b : BatchEntry} {rest : List Nat}

theorem State.sendOne_next {k : Nat} (horder : s.batch.sendOrder = i :: rest) (hb : s.batchAt i = some b)
    (hn : b.nextSlot = some n) (hlast : b.report.last = false) (hk : b.slotAfter n = some k) : s.sendOne =
      (s.pushRoutine 0 (.tally b.report)).setPlace i (some { b with nextSlot := some k }) := by
  simp only [State.sendOne, horder, hb, hlast, Bool.false_eq_true, if_false, hn, Option.getD_some, hk]

theorem State.sendOne_last (horder : s.batch.sendOrder = i :: rest) (hb : s.batchAt i = some b)
    (hlast : b.report.last = true) : s.sendOne = State.choose { s with
      port := { s.port with routine := s.port.routine ++ [{ dest := 0, msg := .tally b.report, suspect := false }] }
      batch := { s.batch with places := s.batch.places.set i none, sendOrder := rest } } := by
  simp only [State.sendOne, horder, hb, hlast, if_true, State.freeEntry, State.setPlace, State.onBatch, State.pushRoutine,
    State.onPort, List.tail_cons]

end

/-- Settles O42: each waiting block, the TALLY that is sent, and the sending from slot to slot. -/
theorem waitingBlocksQueue : Obligations.WaitingBlocksQueue := by
  refine ⟨fun s hheld howed hroom => ?report, fun s m hheld howed hacc hroom => ?alert,
    fun s i b rest hheld horder hb hroom => ?tally, fun b n => mem_used, fun b n c hn hc => ?carries,
    fun s i n b rest hheld horder hb hn hroom => ⟨fun k hzero hk hlt hleast => ?next, fun hend => ?last⟩,
    fun s hheld horder => State.live_still (State.sendTallies_none s (.inl horder)), fun s hfull => ?full⟩
  case report =>
    exact (State.live_released State.queueLineState hheld).trans (congrArg _ (State.queueLineState_queued howed hroom))
  case alert =>
    refine (State.live_released State.offerAlertSpace hheld).trans (congrArg _ ?_)
    rw [State.offerAlertSpace, if_pos howed, State.queueAlert_queued hacc hroom]
  case tally =>
    have hlots := s.sendTallies_lotsOnly
    obtain ⟨later, hlater⟩ := (State.sendTallies_lotMoves s.sendOne).routine_grows
    obtain ⟨more, hmore⟩ := State.sendTallies_front horder hb hroom
    exact ⟨_, more, State.live_released State.sendTallies hheld, hmore, hlots.line, hlots.sameTracking,
      hlots.lineOnly.track.sameOuter⟩
  case carries =>
    rw [BatchEntry.report_carries hn hc]
    refine ⟨rfl, rfl, rfl, ?_, ?_, ?_, fun i x a hi hni hx ha => ?_⟩
    · rw [Bool.or_eq_true, decide_eq_true_eq, BatchEntry.slotAfter_none]
    · rintro rfl
      exact ⟨rfl, rfl⟩
    · rintro rfl
      exact ⟨rfl, rfl⟩
    · subst hni
      have hne : i + 1 ≠ 9 := by omega
      simp [BatchEntry.codeOf, BatchEntry.countsOf, hne, hx, ha]
  case next =>
    have hslot := BatchEntry.slotAfter_least hk hlt hleast
    have hlast : b.report.last = false := by simp [BatchEntry.report, hn, hzero, hslot]
    rw [show exec .tallyQueue s = .next s.sendTallies from State.live_released State.sendTallies hheld,
      State.sendTallies_step s (by simp [horder]) hroom, State.sendOne_next horder hb hn hlast hslot]
    exact (State.live_released (s := (s.pushRoutine 0 (.tally b.report)).setPlace i (some { b with nextSlot := some k }))
      State.sendTallies hheld).symm
  case last =>
    have hlast : b.report.last = true := by
      simp only [BatchEntry.report, hn, Option.getD_some, Bool.or_eq_true, decide_eq_true_eq, BatchEntry.slotAfter_none]
      exact hend
    rw [show exec .tallyQueue s = .next s.sendTallies from State.live_released State.sendTallies hheld,
      State.sendTallies_step s (by simp [horder]) hroom, State.sendOne_last horder hb hlast]
    exact (State.live_released State.sendTallies (by rw [(State.choose_lotsOnly _).pins]; exact hheld)).symm
  case full =>
    exact ⟨State.live_still (State.queueLineState_still (.inr hfull)), State.live_still (State.offerAlertSpace_still hfull),
      State.live_still (State.sendTallies_none s (.inr hfull))⟩

/-! ### The insertion of a frame (R173, R175) -/

/-- A frame that is inserted: built, on its way, and in the own-frame list. -/
theorem State.tryInsert_of {s : State} (hout : s.port.out = .idle) (htransit : s.port.transit = [])
    (hlist : s.port.ownList.length < 32) : s.tryInsert = s.insertNext :=
  if_pos (by simp [State.mayInsert, hout, htransit, Config.ownCapacity, hlist])

section

variable {s : State} {q : Queued} {rest : List Queued}

/-- The state after the oldest routine frame was inserted, before its place is offered. -/
def State.routineInserted (s : State) (q : Queued) (rest : List Queued) : State :=
  { s with port := { s.port with routine := rest, out := .sending (q.frame s.port.own),
                                 ownList := s.port.ownList ++ [q.entry] } }

theorem State.insertNext_routine (hurgent : s.port.urgent = []) (hroutine : s.port.routine = q :: rest) :
    s.insertNext = (s.routineInserted q rest).offerPlace := by
  simp only [State.insertNext, hurgent, hroutine]
  rfl

theorem exec_frameInsert_routine (hheld : s.pins.resetHeld = false) (hout : s.port.out = .idle)
    (htransit : s.port.transit = []) (hlist : s.port.ownList.length < 32) (hurgent : s.port.urgent = [])
    (hroutine : s.port.routine = q :: rest) :
    exec .frameInsert s = .next (s.routineInserted q rest).offerPlace := by
  refine (State.live_released State.tryInsert hheld).trans ?_
  rw [State.tryInsert_of hout htransit hlist, State.insertNext_routine hurgent hroutine]

theorem State.routineInserted_freePlaces (hreserved : s.port.reserved = false) :
    (s.routineInserted q rest).freePlaces = 16 - rest.length := by
  simp [State.freePlaces, State.routineInserted, hreserved, Config.routineCapacity]

/-- The freed place goes to an owed LINE_STATE first. -/
theorem State.offerPlace_report (howed : s.line.owed = true) : s.offerPlace = s.queueLineState := if_pos howed

/-- With no report owed it goes to an OWED hold-off. -/
theorem State.offerPlace_alert (howed : s.line.owed = false) (hholdoff : s.faults.holdoff = .owed) :
    s.offerPlace = s.queueAlert := by
  rw [State.offerPlace, if_neg (by simp [howed]), if_pos hholdoff]

/-- With neither it goes to the entry at the front of the send order. -/
theorem State.offerPlace_tally (howed : s.line.owed = false) (hholdoff : s.faults.holdoff ≠ .owed) :
    s.offerPlace = s.sendTallies := by
  rw [State.offerPlace, if_neg (by simp [howed]), if_neg hholdoff]
  split
  next hempty => exact (State.sendTallies_none s (.inl (List.isEmpty_iff.mp hempty))).symm
  next => rfl

end

/-- Settles O41: which frame is inserted, and to which block the freed place goes. -/
theorem frameInserted : Obligations.FrameInserted := by
  refine ⟨fun s q rest hheld hout htransit hlist hurgent => ?urgent,
    fun s q rest hheld hout htransit hlist hurgent hroutine hroom hreserved hholdoff horder => ?routine,
    fun s q rest hheld hout htransit hlist hurgent hroutine hroom hreserved howed => ?report,
    fun s q rest m hheld hout htransit hlist hurgent hroutine hroom hreserved howed hholdoff hacc => ?alert,
    fun s q rest i b order hheld hout htransit hlist hurgent hroutine hroom hreserved howed hholdoff horder hb => ?tally,
    fun s hnot => State.live_still ?still⟩
  case urgent =>
    refine (State.live_released State.tryInsert hheld).trans (congrArg _ ?_)
    rw [State.tryInsert_of hout htransit hlist]
    simp only [State.insertNext, hurgent]
    rfl
  case report =>
    have hfree : (s.routineInserted q rest).freePlaces ≠ 0 := by
      rw [State.routineInserted_freePlaces hreserved]
      omega
    rw [exec_frameInsert_routine hheld hout htransit hlist hurgent hroutine,
      State.offerPlace_report (s := s.routineInserted q rest) howed,
      State.queueLineState_queued (s := s.routineInserted q rest) howed hfree]
    rfl
  case alert =>
    have hfree : (s.routineInserted q rest).freePlaces ≠ 0 := by
      rw [State.routineInserted_freePlaces hreserved]
      omega
    rw [exec_frameInsert_routine hheld hout htransit hlist hurgent hroutine,
      State.offerPlace_alert (s := s.routineInserted q rest) howed hholdoff,
      State.queueAlert_queued (s := s.routineInserted q rest) hacc hfree]
    rfl
  case routine =>
    have hfree : (s.routineInserted q rest).freePlaces ≠ 0 := by
      rw [State.routineInserted_freePlaces hreserved]
      omega
    rw [exec_frameInsert_routine hheld hout htransit hlist hurgent hroutine]
    cases howed : s.line.owed with
    | true =>
      rw [State.offerPlace_report (s := s.routineInserted q rest) howed,
        State.queueLineState_queued (s := s.routineInserted q rest) howed hfree]
      rfl
    | false =>
      rw [State.offerPlace_tally (s := s.routineInserted q rest) howed hholdoff,
        State.sendTallies_none (s.routineInserted q rest) (.inl horder)]
      have hline : s.line = { s.line with owed := false } := by rw [← howed]
      exact congrArg (fun l => Host.Outcome.next { s.routineInserted q rest with line := l }) hline
  case tally =>
    have hfree := State.routineInserted_freePlaces (s := s) (q := q) (rest := rest) hreserved
    obtain ⟨more, hmore⟩ := State.sendTallies_front (s := s.routineInserted q rest) horder hb (by rw [hfree]; omega)
    have hlots := (s.routineInserted q rest).sendTallies_lotsOnly
    refine ⟨_, more, (exec_frameInsert_routine hheld hout htransit hlist hurgent hroutine).trans
      (congrArg _ (State.offerPlace_tally (s := s.routineInserted q rest) howed hholdoff)), hmore,
      fun hlength => State.sendTallies_last hmore (by rw [hfree, hlength]), (congrArg RingPort.out hlots.port :),
      (congrArg RingPort.ownList hlots.port :), hlots.line, hlots.sameTracking, hlots.lineOnly.track.sameOuter⟩
  case still =>
    unfold State.tryInsert
    split
    next hmay =>
      simp only [State.mayInsert, Bool.and_eq_true, beq_iff_eq, List.isEmpty_iff, decide_eq_true_eq] at hmay
      obtain ⟨⟨hout, htransit⟩, hlist⟩ := hmay
      rcases hnot with h | h | h | ⟨hurgent, hroutine⟩
      · exact absurd hout h
      · exact absurd htransit h
      · exact absurd hlist (Nat.not_lt.mpr h)
      · simp only [State.insertNext, hurgent, hroutine]
    · rfl

end Sys2Proof.Machine

/-! SUPPORT. MODE and RESTART: the consistency check, the entries to RUN and DRAINING, the restarts, and the statements of these. -/

namespace Sys2Proof.Machine

open Sys2Proof

/-! ### The lowest of an ascending list -/

/-- The first answer along a list in ascending order is the one of its lowest member that has one. -/
theorem findSome_lowest {α β : Type} {num : α → Nat} {f : α → Option β} {a : α} {b : β} {l : List α}
    (hsorted : l.Pairwise fun x y => num x < num y) (ha : a ∈ l) (hfa : f a = some b)
    (hbelow : ∀ x ∈ l, num x < num a → f x = none) : l.findSome? f = some b := by
  obtain ⟨pre, post, rfl⟩ := List.append_of_mem ha
  have hlow : ∀ x ∈ pre, num x < num a := fun x hx => (List.pairwise_append.mp hsorted).2.2 x hx a (by simp)
  exact List.findSome?_eq_some_iff.mpr ⟨pre, a, post, rfl, hfa, fun x hx => hbelow x (by simp [hx]) (hlow x hx)⟩

/-- So is the first member with a property. -/
theorem find_lowest {α : Type} {num : α → Nat} {p : α → Bool} {a : α} {l : List α}
    (hsorted : l.Pairwise fun x y => num x < num y) (ha : a ∈ l) (hpa : p a = true)
    (hbelow : ∀ x ∈ l, num x < num a → p x = false) : l.find? p = some a := by
  rw [List.find?_eq_findSome?_guard]
  exact findSome_lowest hsorted ha (by simp [Option.guard, hpa]) fun x hx hlt => by simp [Option.guard, hbelow x hx hlt]

/-! ### The consistency check (R151) -/

section

variable {s : State} {l : Lane}

theorem State.mem_enabledLanes : l ∈ s.enabledLanes ↔ (s.lane l).cfg.enabled = true := by
  simp only [State.enabledLanes, List.mem_filter, and_iff_right_iff_imp]
  intro _
  cases l <;> simp [allLanes]

theorem State.enabledLanes_sorted (s : State) : s.enabledLanes.Pairwise fun l m => l.number < m.number :=
  List.Pairwise.filter _ (by decide)

theorem Lane.eq_of_number {l m : Lane} (h : l.number = m.number) : l = m :=
  Option.some.inj ((Lane.ofNumber_eq_some.mpr rfl).symm.trans ((congrArg Lane.ofNumber h).trans (Lane.ofNumber_eq_some.mpr rfl)))

/-- A lane has its eye of a kind when an entry with role TRACK has both (R21, R64). -/
theorem State.eyeFor_isSome {k : Checkpoint} : (s.eyeFor k l).isSome = true ↔
    ∃ x ∈ s.eyes.map, x.cfg.role = .track ∧ x.cfg.kind = some k ∧ x.cfg.lane.toNat = l.number := by
  simp [State.eyeFor, List.find?_isSome, Lane.ofNumber_eq_some, and_assoc]

theorem State.eyeFor_isNone {k : Checkpoint}
    (h : ∀ x ∈ s.eyes.map, ¬(x.cfg.role = .track ∧ x.cfg.kind = some k ∧ x.cfg.lane.toNat = l.number)) :
    (s.eyeFor k l).isNone = true := by
  rw [← Option.not_isSome, Bool.not_eq_true', ← Bool.not_eq_true]
  exact fun hsome => by
    obtain ⟨x, hx, hcfg⟩ := State.eyeFor_isSome.mp hsome
    exact h x hx hcfg

theorem State.missingEye_none (h : ∀ k, (s.eyeFor k l).isSome = true) : s.missingEye l = none := by
  rw [State.missingEye, Option.map_eq_none_iff, List.find?_eq_none]
  exact fun k _ => by simpa using Option.isSome_iff_ne_none.mp (h k)

/-- The lowest kind without an eye is the one that is named. -/
theorem State.missingEye_first {k : Checkpoint} (hk : (s.eyeFor k l).isNone = true)
    (hbelow : ∀ j : Checkpoint, j.number < k.number → (s.eyeFor j l).isSome = true) : s.missingEye l = some (.eye l k) := by
  have hfind : [Checkpoint.laneExit, .inlet, .exit].find? (fun j => (s.eyeFor j l).isNone) = some k :=
    find_lowest (num := Checkpoint.number) (by decide) (by cases k <;> simp) hk fun j _ hj => by simpa using hbelow j hj
  simp [State.missingEye, hfind]

theorem spanHas_spanFrom : ∀ (l k : Lane) (w : Nat), w ≤ 4 → l.number + w ≤ 5 →
    (spanHas (spanFrom l w) k = true ↔ l.number ≤ k.number ∧ k.number < l.number + w) := by
  intro l k w hw
  interval_cases w <;> cases l <;> cases k <;> decide

/-- A permitted width of a lane passes when its span ends at lane 4 and holds enabled lanes alone (R151). -/
def State.widthPasses (s : State) (l : Lane) (w : Nat) : Prop :=
  l.number + w ≤ 5 ∧ ∀ k : Lane, l.number ≤ k.number → k.number < l.number + w → (s.lane k).cfg.enabled = true

theorem State.widthPasses_iff {w : Nat} (hw : w ≤ 4) : (l.number + w ≤ 5 &&
    (spanLanes (spanFrom l w)).all fun k => (s.lane k).cfg.enabled) = true ↔ s.widthPasses l w := by
  simp only [Bool.and_eq_true, decide_eq_true_eq, State.widthPasses, and_congr_right_iff, List.all_eq_true]
  intro hfit
  refine forall_congr' fun k => ?_
  rw [← and_imp, ← spanHas_spanFrom l k w hw hfit, spanLanes, List.mem_filter,
    and_iff_right (show k ∈ allLanes by cases k <;> simp [allLanes])]

theorem State.missingLane_none (h : ∀ w, 1 ≤ w → w ≤ 4 → (s.lane l).cfg.widths.getLsbD (w - 1) = true → s.widthPasses l w) :
    s.missingLane l = none := by
  rw [State.missingLane, Option.map_eq_none_iff, List.find?_eq_none]
  intro w hw
  have hrange : 1 ≤ w ∧ w ≤ 4 := by
    simp only [List.mem_cons, List.not_mem_nil, or_false] at hw
    omega
  rw [Bool.and_eq_true, not_and, Bool.not_eq_true', Bool.not_eq_false, State.widthPasses_iff hrange.2]
  exact h w hrange.1 hrange.2

/-- The lowest permitted width that does not pass is the one that is named. -/
theorem State.missingLane_first {w : Nat} (h1 : 1 ≤ w) (h4 : w ≤ 4) (hpermits : (s.lane l).cfg.widths.getLsbD (w - 1) = true)
    (hfails : ¬ s.widthPasses l w)
    (hbelow : ∀ v, v < w → 1 ≤ v → v ≤ 4 → (s.lane l).cfg.widths.getLsbD (v - 1) = true → s.widthPasses l v) :
    s.missingLane l = some (.span l w) := by
  have hfind : ([1, 2, 3, 4].find? fun v => (s.lane l).cfg.widths.getLsbD (v - 1) &&
      !(l.number + v ≤ 5 && (spanLanes (spanFrom l v)).all fun k => (s.lane k).cfg.enabled)) = some w := by
    refine find_lowest (num := id) (by decide) ?_ ?_ fun v hv hlt => ?_
    · simp only [List.mem_cons, List.not_mem_nil, or_false]
      omega
    · rw [Bool.and_eq_true, Bool.not_eq_true', ← Bool.not_eq_true, State.widthPasses_iff h4]
      exact ⟨hpermits, hfails⟩
    · have hrange : 1 ≤ v ∧ v ≤ 4 := by
        simp only [List.mem_cons, List.not_mem_nil, or_false] at hv
        omega
      rw [← Bool.not_eq_true, Bool.and_eq_true, not_and, Bool.not_eq_true', Bool.not_eq_false,
        State.widthPasses_iff hrange.2]
      exact hbelow v hlt hrange.1 hrange.2
  simp only [State.missingLane, hfind]
  rfl

theorem State.failingItem_scale (h : s.mgmt.line.scale = 0) : s.failingItem = some .scale := if_pos h

theorem State.failingItem_noLane (hscale : s.mgmt.line.scale ≠ 0) (h : ∀ l, (s.lane l).cfg.enabled = false) :
    s.failingItem = some .noLane := by
  have hempty : s.enabledLanes = [] := List.eq_nil_iff_forall_not_mem.mpr fun l hl => by
    simpa [h l] using State.mem_enabledLanes.mp hl
  simp [State.failingItem, hscale, hempty]

/-- With K above 0 and a lane enabled, the eyes are looked at before the widths. -/
theorem State.failingItem_lanes (hscale : s.mgmt.line.scale ≠ 0) (hlane : (s.lane l).cfg.enabled = true) :
    s.failingItem = (s.enabledLanes.findSome? s.missingEye).or (s.enabledLanes.findSome? s.missingLane) := by
  have hsome : s.enabledLanes.isEmpty = false := by
    rw [List.isEmpty_eq_false_iff]
    exact List.ne_nil_of_mem (State.mem_enabledLanes.mpr hlane)
  rw [State.failingItem, if_neg hscale, if_neg (by simp [hsome])]
  cases s.enabledLanes.findSome? s.missingEye <;> rfl

theorem State.noMissingEye (heyes : ∀ (m : Lane) (j : Checkpoint), (s.lane m).cfg.enabled = true →
      ∃ x ∈ s.eyes.map, x.cfg.role = .track ∧ x.cfg.kind = some j ∧ x.cfg.lane.toNat = m.number) :
    s.enabledLanes.findSome? s.missingEye = none :=
  List.findSome?_eq_none_iff.mpr fun m hm => State.missingEye_none fun k =>
    State.eyeFor_isSome.mpr (heyes m k (State.mem_enabledLanes.mp hm))

theorem State.failingItem_eye {k : Checkpoint} (hscale : s.mgmt.line.scale ≠ 0) (hlane : (s.lane l).cfg.enabled = true)
    (hnone : ∀ x ∈ s.eyes.map, ¬(x.cfg.role = .track ∧ x.cfg.kind = some k ∧ x.cfg.lane.toNat = l.number))
    (hbelow : ∀ (m : Lane) (j : Checkpoint), (s.lane m).cfg.enabled = true →
      (m.number < l.number ∨ (m = l ∧ j.number < k.number)) →
      ∃ x ∈ s.eyes.map, x.cfg.role = .track ∧ x.cfg.kind = some j ∧ x.cfg.lane.toNat = m.number) :
    s.failingItem = some (.eye l k) := by
  have hfirst : s.missingEye l = some (.eye l k) := State.missingEye_first (State.eyeFor_isNone hnone)
    fun j hj => State.eyeFor_isSome.mpr (hbelow l j hlane (.inr ⟨rfl, hj⟩))
  have hfound : s.enabledLanes.findSome? s.missingEye = some (.eye l k) :=
    findSome_lowest s.enabledLanes_sorted (State.mem_enabledLanes.mpr hlane) hfirst fun m hm hlt =>
      State.missingEye_none fun j =>
        State.eyeFor_isSome.mpr (hbelow m j (State.mem_enabledLanes.mp hm) (.inl hlt))
  rw [State.failingItem_lanes hscale hlane, hfound]
  rfl

theorem State.failingItem_span {w : Nat} (hscale : s.mgmt.line.scale ≠ 0) (hlane : (s.lane l).cfg.enabled = true)
    (heyes : ∀ (m : Lane) (j : Checkpoint), (s.lane m).cfg.enabled = true →
      ∃ x ∈ s.eyes.map, x.cfg.role = .track ∧ x.cfg.kind = some j ∧ x.cfg.lane.toNat = m.number)
    (h1 : 1 ≤ w) (h4 : w ≤ 4) (hpermits : (s.lane l).cfg.widths.getLsbD (w - 1) = true) (hfails : ¬ s.widthPasses l w)
    (hbelow : ∀ (m : Lane) (v : Nat), (s.lane m).cfg.enabled = true → (m.number < l.number ∨ (m = l ∧ v < w)) →
      1 ≤ v → v ≤ 4 → (s.lane m).cfg.widths.getLsbD (v - 1) = true → s.widthPasses m v) :
    s.failingItem = some (.span l w) := by
  have hfirst : s.missingLane l = some (.span l w) := State.missingLane_first h1 h4 hpermits hfails
    fun v hv => hbelow l v hlane (.inr ⟨rfl, hv⟩)
  have hfound : s.enabledLanes.findSome? s.missingLane = some (.span l w) :=
    findSome_lowest s.enabledLanes_sorted (State.mem_enabledLanes.mpr hlane) hfirst fun m hm hlt =>
      State.missingLane_none fun v => hbelow m v (State.mem_enabledLanes.mp hm) (.inl hlt)
  rw [State.failingItem_lanes hscale hlane, State.noMissingEye heyes]
  exact hfound

theorem State.failingItem_none (hscale : s.mgmt.line.scale ≠ 0) (hlane : ∃ l, (s.lane l).cfg.enabled = true)
    (heyes : ∀ (m : Lane) (j : Checkpoint), (s.lane m).cfg.enabled = true →
      ∃ x ∈ s.eyes.map, x.cfg.role = .track ∧ x.cfg.kind = some j ∧ x.cfg.lane.toNat = m.number)
    (hwidths : ∀ (l : Lane) (w : Nat), (s.lane l).cfg.enabled = true → 1 ≤ w → w ≤ 4 →
      (s.lane l).cfg.widths.getLsbD (w - 1) = true → s.widthPasses l w) : s.failingItem = none := by
  obtain ⟨l, hl⟩ := hlane
  rw [State.failingItem_lanes hl (hscale := hscale), State.noMissingEye heyes]
  exact List.findSome?_eq_none_iff.mpr fun m hm => State.missingLane_none fun w =>
    hwidths m w (State.mem_enabledLanes.mp hm)

end

/-! ### A change of the line state (R110, R149) -/

/-- A change of the line state: the LINE_STATE report, queued or owed, and the condition it gives with its FEED_STATE
when that is a change. -/
theorem State.enterLine_eq (s : State) (l : LineState) (c : Option FaultCode) {k : FeedCondition}
    (hk : (s.setLine l c).feedCondition = k) : s.enterLine l c = { s with
      line := { state := l, cause := c, tfault := l == .suspect, owed := decide (s.freePlaces = 0) }
      feed := { s.feed with condition := k }
      port := { s.port with
        routine := s.port.routine ++
          (if s.freePlaces = 0 then [] else [{ dest := 31, msg := .lineState l c, suspect := false }])
        urgent := if k = s.feed.condition then s.port.urgent else feedStateQueued k s.port.urgent } } := by
  have hsame : (s.setLine l c).oweLineState.feedCondition = k := by
    rw [← hk, State.oweLineState_eq]
    rfl
  rw [State.enterLine, State.refreshFeed_eq, hsame, State.oweLineState_eq]
  rfl

/-- The reports of a change of the line state with a place reserved: it is owed with no other place free (R149, R175). -/
theorem State.performing_full {s : State} : s.performing.freePlaces = 0 ↔ 15 ≤ s.port.routine.length := by
  rw [State.performing_freePlaces]
  omega

/-! ### The statements of MODE RUN and the restarts (R150, R151, R162 to R164) -/

section

variable {s : State} {e : Envelope}

/-- MODE RUN with a table that fails the check answers with the item (R151, R186). -/
theorem exec_modeRun_fails {x : CheckItem} (hadmits : s.admitsRequest (commandFrame e 1 []) = true)
    (hstate : s.line.state = .config) (hfails : s.failingItem = some x) :
    exec (.modeRun e) s = .next (s.received.answered (commandFrame e 1 []) 8 (1 :: x.bytes)) := by
  have hdo : s.performing.doCommand 1 [] =
      { state := s.performing, result := resBadTables, data := 1 :: x.bytes } := by
    show s.performing.doRun = _
    have hitem : s.performing.failingItem = some x := hfails
    simp [State.doRun, show s.performing.line.state = .config from hstate, hitem]
  exact exec_command hadmits hdo

/-- An entry to RUN is the change of the line state and then moves of the Feed Sequencer and the Batch Counter. -/
theorem State.enterRun_moves (s : State) : (s.enterLine .run none).LotMoves s.enterRun :=
  (State.choose_lotMoves _).trans (State.evaluate_lotMoves _)

theorem State.enterRun_lotsOnly (s : State) : (s.enterLine .run none).LotsOnly s.enterRun :=
  (State.choose_lotsOnly _).trans (State.evaluate_feedOnly _).lots

end

/-- Settles O49: the entry to RUN, and the item of the check that fails first. -/
theorem modeRunTaken : Obligations.ModeRunTaken := by
  refine ⟨fun e s hadmits hstate hnone => ?taken,
    fun e s hadmits hstate hscale => exec_modeRun_fails hadmits hstate (State.failingItem_scale hscale),
    fun e s x hadmits hstate hfails => exec_modeRun_fails hadmits hstate hfails,
    fun e s hadmits hstate hscale hlanes => exec_modeRun_fails hadmits hstate (State.failingItem_noLane hscale hlanes),
    fun e s l k hadmits hstate hscale hlane hnone hbelow =>
      exec_modeRun_fails hadmits hstate (State.failingItem_eye hscale hlane hnone hbelow),
    fun e s l w hadmits hstate hscale hlane heyes h1 h4 hpermits hfails hbelow =>
      exec_modeRun_fails hadmits hstate (State.failingItem_span hscale hlane heyes h1 h4 hpermits (fun hpasses => ?fails) hbelow),
    fun s hscale hlane heyes hwidths => State.failingItem_none hscale hlane heyes hwidths,
    fun e s hadmits hstate => ?refused⟩
  case taken =>
    have hdo : s.performing.doCommand 1 [] = s.performing.enterRun.answer 1 resDone := by
      show s.performing.doRun = _
      have hitem : s.performing.failingItem = none := hnone
      simp [State.doRun, show s.performing.line.state = .config from hstate, hitem]
    have hentered := s.performing.enterLine_eq .run none rfl
    have hlots := s.performing.enterRun_lotsOnly
    have honly := (s.performing.enterLine_lineOnly .run none).trans hlots.lineOnly
    have hline : s.performing.enterRun.line =
        { state := .run, cause := none, tfault := false, owed := decide (s.performing.freePlaces = 0) } := by
      rw [hlots.line, hentered]
      rfl
    have hannounces : s.performing.enterRun.Announces s.feed.condition :=
      s.performing.enterRun_moves.keeps (fun h => h.announces) (State.refreshFeed_announces
        (.inl (by rw [State.oweLineState_eq]; rfl)))
    obtain ⟨new, hnew⟩ := s.performing.enterRun_moves.routine_grows
    have hexec := exec_command (c := .modeRun e) hadmits hdo
    generalize s.performing.enterRun = t at hexec hline hannounces hnew honly
    refine ⟨_, hexec, (congrArg LineControl.state hline :), (congrArg LineControl.cause hline :),
      (congrArg LineControl.tfault hline :), fun hroom => ?_, fun hfull => ?_, (hannounces.resolve_left :),
      State.answered_repliedLast _ _ _ _, honly.sameTracking_answered _ _ _, honly.sameOuter_answered _ _ _⟩
    · have hfree : s.performing.freePlaces ≠ 0 := fun h => absurd (State.performing_full.mp h) (by omega)
      refine ⟨((congrArg LineControl.owed hline).trans (decide_eq_false hfree) :), List.mem_append_left _ ?_⟩
      show _ ∈ t.port.routine
      rw [hnew, hentered, if_neg hfree]
      simp
    · exact ((congrArg LineControl.owed hline).trans (decide_eq_true (State.performing_full.mpr hfull)) :)
  case fails =>
    obtain ⟨hfit, hlanes⟩ := hpasses
    rcases hfails with hlong | ⟨k, hlow, hhigh, hdisabled⟩
    · omega
    · simp [hlanes k hlow hhigh] at hdisabled
  case refused =>
    have hdo : s.performing.doCommand 1 [] = s.performing.answer 1 resRefusedMode := if_pos hstate
    exact exec_command hadmits hdo

/-- Settles O51: the power-on state, answered. -/
theorem restartFullTaken : Obligations.RestartFullTaken := by
  intro e straps s hadmits
  let read := s.onPins fun p => { p with straps := straps }
  have hdo : read.performing.doCommand 3 [] = (read.performing.powerUp straps).answer 3 resDone := rfl
  have hreceived : read.receive (commandFrame e 3 []) =
      (read.performing.powerUp straps).answered (commandFrame e 3 []) 0 [3] := by
    rw [State.receive_command (s := read) hadmits, hdo]
    rfl
  have hheld := State.admitsRequest_held hadmits
  have hexec : exec (.restartFull { frame := e, straps := straps }) s = .next (read.receive (commandFrame e 3 [])) :=
    State.live_released (fun u => (u.onPins fun p => { p with straps := straps }).receive (commandFrame e 3 [])) hheld
  have hpins : read.pins = { straps := straps, resetHeld := false } :=
    congrArg (fun b => ({ straps := straps, resetHeld := b } : Pins)) hheld
  rw [hexec, hreceived, State.powerUp_blocks]
  show Host.Outcome.next (State.answered { State.reset with
    pins := { read.pins with straps := straps }
    port := { State.reset.port with own := ownAddress straps }
    freeIndex := s.freeIndex
    pending := s.pending } _ _ _) = _
  rw [hpins]

/-- Settles O52: the blocks after RESTART TRACKING and its two reports. -/
theorem restartTrackingTaken : Obligations.RestartTrackingTaken := by
  intro e s hadmits
  have hdo : s.performing.doCommand 4 [] =
      ((s.performing.retracked.oweLineState).queueFeedState (.hold .line)).answer 4 resDone := rfl
  have hexec := exec_command (c := .restartTracking e) hadmits hdo
  have hfull : (s.performing.retracked.freePlaces = 0) = (15 ≤ s.port.routine.length) :=
    propext (State.performing_full (s := s))
  have hroom : (if 15 ≤ s.port.routine.length then ([] : List Queued)
        else [{ dest := 31, msg := .lineState .config none, suspect := false }]) =
      if s.port.routine.length < 15 then [{ dest := 31, msg := .lineState .config none, suspect := false }] else [] := by
    by_cases hshort : s.port.routine.length < 15
    · rw [if_pos hshort, if_neg (by omega)]
    · rw [if_neg hshort, if_pos (by omega)]
  rw [State.queueFeedState_eq, State.oweLineState_eq] at hexec
  simp only [hfull] at hexec
  refine ⟨_, hexec, rfl, ?port, rfl, rfl, rfl, rfl, rfl, rfl, fun l => ?lane, rfl, rfl, rfl, rfl, rfl, rfl, rfl, rfl, rfl, rfl,
    ?urgent, rfl, State.answered_repliedLast _ _ _ _, rfl, rfl, rfl, rfl, rfl⟩
  case port =>
    rw [← hroom]
    rfl
  case lane => cases l <;> exact ⟨rfl, rfl, rfl, rfl, rfl⟩
  case urgent =>
    show ∀ q ∈ feedStateQueued (.hold .line)
      (s.port.urgent.filter fun q => q.grantPiece.isNone && q.ticketPiece.isNone), q.grantPiece = none ∧ q.ticketPiece = none
    intro q hq
    have hkept : ∀ x ∈ s.port.urgent.filter (fun q => q.grantPiece.isNone && q.ticketPiece.isNone),
        x.grantPiece = none ∧ x.ticketPiece = none := fun x hx => by simpa using (List.mem_filter.mp hx).2
    unfold feedStateQueued at hq
    split at hq
    · obtain ⟨x, hx, rfl⟩ := List.mem_map.mp hq
      split
      · exact ⟨rfl, rfl⟩
      · exact hkept x hx
    · rcases List.mem_append.mp hq with hx | hx
      · exact hkept q hx
      · rw [List.mem_singleton.mp hx]
        exact ⟨rfl, rfl⟩

end Sys2Proof.Machine

/-! SUPPORT. What the removal of a record leaves (R54 to R57): the records and the frames that stay, whatever is granted
on the way, and the report to the Batch Counter where it sets nothing else going. -/

namespace Sys2Proof.Machine

open Sys2Proof

/-! ### What stays while records are granted -/

/-- A map that keeps a property and fixes the members that have it leaves them as they are. -/
theorem filter_map_fixed {α : Type} {f : α → α} {p : α → Bool} (hp : ∀ q, p (f q) = p q) (hf : ∀ q, p q = true → f q = q)
    (l : List α) : (l.map f).filter p = l.filter p := by
  rw [List.filter_map, show (p ∘ f) = p from funext hp]
  exact (List.map_congr_left fun q hq => hf q (List.mem_filter.mp hq).2).trans (List.map_id _)

/-- A FEED_STATE queued leaves the other frames and their order. -/
theorem filter_feedStateQueued (c : FeedCondition) (urgent : List Queued) :
    (feedStateQueued c urgent).filter (fun q => !q.isFeedState) = urgent.filter fun q => !q.isFeedState := by
  unfold feedStateQueued
  split
  · refine filter_map_fixed (fun q => ?_) (fun q hq => ?_) urgent
    · split
      next h => rw [h]; rfl
      next => rfl
    · rw [if_neg (by simpa using hq)]
  · simp [Queued.isFeedState]

theorem State.refreshFeed_others (s : State) :
    s.refreshFeed.port.urgent.filter (fun q => !q.isFeedState) = s.port.urgent.filter fun q => !q.isFeedState := by
  rw [State.refreshFeed_eq]
  dsimp only
  split
  · rfl
  · exact filter_feedStateQueued _ _

theorem find_insertRecord {r : Piece} {p : Piece → Bool} (hp : p r = false) (l : List Piece) :
    (insertRecord r l).find? p = l.find? p := by
  obtain ⟨pre, post, rfl, hinsert, -⟩ := insertRecord_split r l
  simp [hinsert, List.find?_append, hp]

theorem filter_insertRecord {r : Piece} {p : Piece → Bool} (hp : p r = false) (l : List Piece) :
    (insertRecord r l).filter p = l.filter p := by
  obtain ⟨pre, post, rfl, hinsert, -⟩ := insertRecord_split r l
  simp [hinsert, hp]

/-- Between s and t no record was removed or changed: records may have been granted, in RUN, and their GRANT frames
joined the urgent queue, whose other frames keep their order but for the FEED_STATE. -/
structure State.Grown (s t : State) : Prop where
  travel : t.travel = s.travel
  run : t.line.state = .run → s.line.state = .run
  totals : t.pieces.discharged = s.pieces.discharged ∧ t.pieces.lost = s.pieces.lost
  still : s.line.state ≠ .run → t.pieces = s.pieces
  held : ∀ q ∈ s.pieces.records, q ∈ t.pieces.records
  finds : ∀ n q, s.findPiece n = some q → t.findPiece n = some q
  pending : ∀ c, t.pendingOf c = s.pendingOf c
  fresh : ∀ q ∈ t.pieces.records, q ∈ s.pieces.records ∨
    (s.line.state = .run ∧ q.state = .granted ∧ q.grantPos = some s.travel.position)
  urgent : ∃ grants, t.port.urgent.filter (fun q => !q.isFeedState) =
      s.port.urgent.filter (fun q => !q.isFeedState) ++ grants ∧
    ∀ x ∈ grants, s.line.state = .run ∧ ∃ r ∈ t.pieces.records, x.grantPiece = some r.number ∧ r.state = .granted ∧
      r.grantPos = some s.travel.position

theorem State.findPiece_congr {s t : State} (h : t.pieces = s.pieces) (n : Half) : t.findPiece n = s.findPiece n := by
  rw [State.findPiece, h]
  rfl

theorem State.pendingOf_congr {s t : State} (h : t.pieces = s.pieces) (c : Lane) : t.pendingOf c = s.pendingOf c := by
  rw [State.pendingOf, h]
  rfl

/-- A step that leaves the table and all frames but the FEED_STATE. -/
theorem State.Grown.of_same {s t : State} (hpieces : t.pieces = s.pieces) (htravel : t.travel = s.travel)
    (hrun : t.line.state = .run → s.line.state = .run)
    (hurgent : t.port.urgent.filter (fun q => !q.isFeedState) = s.port.urgent.filter fun q => !q.isFeedState) :
    s.Grown t :=
  ⟨htravel, hrun, by rw [hpieces]; exact ⟨rfl, rfl⟩, fun _ => hpieces, fun q hq => by rwa [hpieces],
    fun n q hq => by rwa [State.findPiece_congr hpieces], State.pendingOf_congr hpieces,
    fun q hq => .inl (by rwa [hpieces] at hq), [], by rw [hurgent, List.append_nil], by simp⟩

theorem State.Grown.rfl' (s : State) : s.Grown s := .of_same rfl rfl id rfl

theorem State.Grown.trans {s t u : State} (h : s.Grown t) (k : t.Grown u) : s.Grown u := by
  obtain ⟨first, hfirst, hof⟩ := h.urgent
  obtain ⟨second, hsecond, hof'⟩ := k.urgent
  refine ⟨k.travel.trans h.travel, fun hrun => h.run (k.run hrun),
    ⟨k.totals.1.trans h.totals.1, k.totals.2.trans h.totals.2⟩,
    fun hrun => (k.still fun h' => hrun (h.run h')).trans (h.still hrun), fun q hq => k.held q (h.held q hq),
    fun n q hq => k.finds n q (h.finds n q hq), fun c => (k.pending c).trans (h.pending c), fun q hq => ?_,
    first ++ second, by rw [hsecond, hfirst, List.append_assoc], fun x hx => ?_⟩
  · rcases k.fresh q hq with hold | ⟨hrun, hgranted, hpos⟩
    · exact h.fresh q hold
    · exact .inr ⟨h.run hrun, hgranted, by rw [hpos, h.travel]⟩
  · rcases List.mem_append.mp hx with hx | hx
    · obtain ⟨hrun, r, hr, hnum⟩ := hof x hx
      exact ⟨hrun, r, k.held r hr, hnum⟩
    · obtain ⟨hrun, r, hr, hnum, hgranted, hpos⟩ := hof' x hx
      exact ⟨h.run hrun, r, hr, hnum, hgranted, by rw [hpos, h.travel]⟩

theorem State.onFeed_grown (s : State) (f : FeedSequencer → FeedSequencer) : s.Grown (s.onFeed f) :=
  .of_same rfl rfl id rfl

theorem State.granting_grown {s : State} {l : Lane} {r : LaneRequest} (hrun : s.line.state = .run)
    (hroom : s.tableFull = false) : s.Grown (s.grant l r) := by
  have hnew : ∀ q ∈ s.pieces.records, q.number ≠ (s.grantRecord l r).number := State.newNumber_free hroom
  have hrecords : (s.grant l r).pieces.records = insertRecord (s.grantRecord l r) s.pieces.records := by
    rw [State.grant_pieces hroom]
  have honly := s.grant_feedOnly l r
  have hmem : s.grantRecord l r ∈ (s.grant l r).pieces.records := hrecords ▸ mem_insertRecord.mpr (.inl rfl)
  refine ⟨honly.travel, fun _ => hrun, by rw [State.grant_pieces hroom]; exact ⟨rfl, rfl⟩, fun h => absurd hrun h,
    fun q hq => hrecords ▸ mem_insertRecord.mpr (.inr hq), fun n q hq => ?_, fun c => ?_, fun q hq => ?_, ?_⟩
  · have hnum : q.number = n := by simpa using List.find?_some hq
    rw [State.findPiece, hrecords, find_insertRecord]
    · exact hq
    · simpa [← hnum] using (hnew q (List.mem_of_find?_eq_some hq)).symm
  · rw [State.pendingOf, hrecords, filter_insertRecord]
    · rfl
    · simp [State.grantRecord, Piece.blank]
  · rcases mem_insertRecord.mp (hrecords ▸ hq) with rfl | hold
    · exact .inr ⟨hrun, rfl, rfl⟩
    · exact .inl hold
  · have hurgent : (s.grant l r).port.urgent = (s.granting l r).testHold.port.urgent ++
        [{ dest := (s.lane l).cfg.node, msg := .grant l r.span s.newNumber, suspect := false }] := by
      rw [State.grant_eq hroom]
      rfl
    have hothers := State.refreshFeed_others ((s.granting l r).onFeed fun q => { q with hold := (s.granting l r).holdAfter })
    refine ⟨[{ dest := (s.lane l).cfg.node, msg := .grant l r.span s.newNumber, suspect := false }], ?_, fun x hx => ?_⟩
    · rw [hurgent, List.filter_append]
      refine congrArg₂ (· ++ ·) (hothers.trans ?_) rfl
      exact congrArg (List.filter _) (s.granting_urgent l r)
    · rw [List.mem_singleton.mp hx]
      exact ⟨hrun, _, hmem, rfl, rfl, rfl⟩

theorem State.LotMove.grown {a b : State} (h : a.LotMove b) : a.Grown b := by
  cases h with
  | grant l r _ _ hqualifies hroom => exact State.granting_grown (State.qualifies_run hqualifies) hroom
  | testHold =>
    exact .of_same (a.testHold_blocks).1 a.testHold_feedOnly.travel (fun h => a.testHold_feedOnly.line ▸ h)
      (State.refreshFeed_others _)
  | block b =>
    have honly := State.refreshFeed_feedOnly { a with batch := b }
    exact .of_same (State.refreshFeed_blocks _).1 honly.travel (fun h => honly.line ▸ h)
      (State.refreshFeed_others { a with batch := b })
  | _ => exact .of_same rfl rfl id rfl

theorem State.LotMoves.grown {s t : State} (h : s.LotMoves t) : s.Grown t := by
  induction h with
  | refl => exact .rfl' s
  | tail _ hstep ih => exact ih.trans hstep.grown

/-! ### The steps of a removal (R54) -/

/-- The state in which record `r` is taken out of the table, with its total, and its GRANT where R57 withdraws it. -/
def State.takenOut (s : State) (r : Piece) (o : Removal) : State := (s.withdrawRemoved r o).takeOut r o

/-- The state after the reports of the removal and what it does to the lane, before the test for an empty table. -/
def State.laneLeft (s : State) (r : Piece) (o : Removal) : State :=
  if r.state = .granted ∧ r.anonymous = false then
    ((s.takenOut r o).reportRemoval r o).laneAfterRemoval r o
  else (s.takenOut r o).reportRemoval r o

theorem State.removePiece_eq {s : State} {n : Half} {r : Piece} (o : Removal) (hr : s.findPiece n = some r) :
    s.removePiece n o = (s.laneLeft r o).tableEmptied := by
  simp only [State.removePiece, hr]
  rfl

theorem State.takenOut_records (s : State) (r : Piece) (o : Removal) :
    (s.takenOut r o).pieces.records = s.pieces.records.filter fun q => q.number != r.number := by
  rw [State.takenOut, State.takeOut_records]
  exact congrArg (List.filter _) (congrArg PieceTable.records (by
    unfold State.withdrawRemoved; split <;> rfl))

section

variable (s : State) (r : Piece) (o : Removal)

/-- Taking the record out leaves every other block. -/
theorem State.takenOut_blocks : (s.takenOut r o).feed = s.feed ∧ (s.takenOut r o).batch = s.batch ∧
    (s.takenOut r o).line = s.line ∧ (s.takenOut r o).faults = s.faults ∧
    (s.takenOut r o).port.routine = s.port.routine ∧ (s.takenOut r o).travel = s.travel := by
  unfold State.takenOut State.withdrawRemoved
  split <;> exact ⟨rfl, rfl, rfl, rfl, rfl, rfl⟩

theorem State.reportRemoval_grown : s.Grown (s.reportRemoval r o) := by
  unfold State.reportRemoval
  split
  · exact .rfl' s
  · exact ((State.batchRemoved_lotMoves _ _ _ _ _).grown.trans (State.onFeed_grown _ _)).trans
      (State.retestHold_lotMoves _).grown

theorem State.laneAfterRemoval_grown : s.Grown (s.laneAfterRemoval r o) := by
  have hrest (l : Lane) (run : LaneRun) : s.Grown (s.restLane l run) := .of_same rfl rfl id rfl
  have hidle : s.Grown (s.laneToIdle r.lane) := (hrest r.lane .idle).trans (State.evaluate_lotMoves _).grown
  unfold State.laneAfterRemoval
  split
  · exact hidle
  · exact hidle
  · exact hrest _ _
  · exact State.Grown.trans (t := (s.laneBack r).joinFront r.lane) (.of_same rfl rfl id rfl)
      (State.orderChanged_lotMoves _).grown
  · exact .of_same rfl rfl id rfl
  all_goals exact .rfl' s

theorem State.enterConfig_grown (c : ClosureCause) : s.Grown (s.enterConfig c) := by
  have hconfig : (s.enterLine .config none).Grown ((s.enterLine .config none).dropRequests.orderChanged) :=
    State.Grown.trans (t := (s.enterLine .config none).dropRequests) (.of_same rfl rfl id rfl)
      (State.orderChanged_lotMoves _).grown
  have hline : s.Grown (s.enterLine .config none) := by
    refine .of_same (s.enterLine_blocks _ _).2.1 (s.enterLine_lineOnly _ _).travel
      (fun h => by rw [(s.enterLine_line _ _).1] at h; exact absurd h (by simp)) ?_
    refine (State.refreshFeed_others _).trans ?_
    rw [State.oweLineState_eq]
    rfl
  exact (hline.trans hconfig).trans (State.closeCurrent_lotMoves _ _).grown

theorem State.tableEmptied_grown : s.Grown s.tableEmptied := by
  unfold State.tableEmptied
  split
  · exact s.enterConfig_grown _
  · exact .rfl' s

theorem State.laneLeft_grown : (s.takenOut r o).Grown (s.laneLeft r o) := by
  unfold State.laneLeft
  split
  · exact (State.reportRemoval_grown _ _ _).trans (State.laneAfterRemoval_grown _ _ _)
  · exact State.reportRemoval_grown _ _ _

end

/-- After its record is taken out a removal removes no other: records may be granted. -/
theorem State.removePiece_grown {s : State} {n : Half} {r : Piece} (o : Removal) (hr : s.findPiece n = some r) :
    (s.takenOut r o).Grown (s.removePiece n o) := by
  rw [State.removePiece_eq o hr]
  exact (s.laneLeft_grown r o).trans (State.tableEmptied_grown _)

end Sys2Proof.Machine

/-! SUPPORT. The removal of a record where it sets nothing else going, and the last record of a DRAINING line (R54, R108,
R121, R122, R153). -/

namespace Sys2Proof.Machine

open Sys2Proof

/-! ### The current batch's place (R119) -/

/-- An OPEN entry stands at a place. -/
def State.openAt (s : State) (i : Nat) : Prop := ∃ b, s.batchAt i = some b ∧ b.state = .opened

theorem State.currentPlace_eq_some {s : State} {i : Nat} :
    s.currentPlace = some i ↔ s.openAt i ∧ ∀ j < i, ¬ s.openAt j := by
  have hopen (j : Nat) : s.openAt j ↔ ∃ h : j < s.batch.places.length, (match s.batch.places[j] with
      | some b => b.state == BatchState.opened
      | none => false) = true := by
    simp only [State.openAt, State.batchAt_eq_some, List.getElem?_eq_some_iff]
    constructor
    · rintro ⟨b, ⟨hlt, hb⟩, hstate⟩
      exact ⟨hlt, by rw [hb]; simp [hstate]⟩
    · rintro ⟨hlt, hb⟩
      split at hb
      next b hget => exact ⟨b, ⟨hlt, hget⟩, by simpa using hb⟩
      next => exact absurd hb (by simp)
  rw [State.currentPlace, List.findIdx?_eq_some_iff_getElem, hopen]
  constructor
  · rintro ⟨hlt, hi, hbelow⟩
    refine ⟨⟨hlt, hi⟩, fun j hj h => ?_⟩
    obtain ⟨_, hj'⟩ := (hopen j).mp h
    exact hbelow j hj hj'
  · rintro ⟨⟨hlt, hi⟩, hbelow⟩
    exact ⟨hlt, hi, fun j hj h => hbelow j hj ((hopen j).mpr ⟨_, h⟩)⟩

theorem State.currentPlace_congr {s t : State} (h : ∀ j, t.openAt j ↔ s.openAt j) : t.currentPlace = s.currentPlace := by
  refine Option.ext fun i => ?_
  rw [State.currentPlace_eq_some, State.currentPlace_eq_some, h]
  exact and_congr_right fun _ => forall₂_congr fun j _ => not_congr (h j)

/-- A place of the list holds what is written there, and the others what they held. -/
theorem State.setPlace_batchAt {s : State} {i : Nat} {b : BatchEntry} (hb : s.batchAt i = some b) (e : Option BatchEntry)
    (j : Nat) : (s.setPlace i e).batchAt j = if j = i then e else s.batchAt j := by
  obtain ⟨hlt, -⟩ := List.getElem?_eq_some_iff.mp (State.batchAt_eq_some.mp hb)
  unfold State.batchAt State.setPlace
  rw [State.onBatch_batch, List.getElem?_set]
  by_cases hj : j = i
  · simp [hj, hlt]
  · simp [hj, Ne.symm hj]

/-! ### The report to the Batch Counter (R121, R122) -/

/-- The state after the Batch Counter has been told of a removal. -/
def State.reported (s : State) (r : Piece) (o : Removal) : State :=
  if r.anonymous then s else s.batchRemoved r.batch r.article r.doubt o

/-- What an operation leaves that sets nothing else going: the records, the faults, the line, the batch list and the
routine queue. -/
structure State.Settles (s t : State) : Prop where
  pieces : t.pieces = s.pieces
  faults : t.faults = s.faults
  line : t.line = s.line
  places : t.batch.places = s.batch.places
  sendOrder : t.batch.sendOrder = s.batch.sendOrder
  routine : t.port.routine = s.port.routine

theorem State.Settles.rfl' (s : State) : s.Settles s := ⟨rfl, rfl, rfl, rfl, rfl, rfl⟩

theorem State.Settles.trans {s t u : State} (h : s.Settles t) (k : t.Settles u) : s.Settles u :=
  ⟨k.pieces.trans h.pieces, k.faults.trans h.faults, k.line.trans h.line, k.places.trans h.places,
    k.sendOrder.trans h.sendOrder, k.routine.trans h.routine⟩

theorem State.Settles.batchAt {s t : State} (h : s.Settles t) (i : Nat) : t.batchAt i = s.batchAt i :=
  State.batchAt_congr h.places i

theorem State.Settles.currentPlace {s t : State} (h : s.Settles t) : t.currentPlace = s.currentPlace := by
  unfold State.currentPlace
  rw [h.places]

theorem State.onFeed_settles (s : State) (f : FeedSequencer → FeedSequencer) : s.Settles (s.onFeed f) :=
  ⟨rfl, rfl, rfl, rfl, rfl, rfl⟩

theorem State.dropTails_settles (s : State) : s.Settles s.dropTails := ⟨rfl, rfl, rfl, rfl, rfl, rfl⟩

theorem State.testHold_settles (s : State) : s.Settles s.testHold :=
  have honly := s.testHold_feedOnly
  ⟨s.testHold_blocks.1, honly.faults, honly.line, congrArg BatchCounter.places s.testHold_blocks.2,
    congrArg BatchCounter.sendOrder s.testHold_blocks.2, honly.routine⟩

/-- Outside RUN, or where the hold flag is clear already, the hold flag's test makes no grant (R99, R108). -/
theorem State.retestHold_settles {s : State} (h : s.line.state ≠ .run ∨ s.feed.hold = false) :
    s.Settles s.retestHold ∧ s.Quiet s.retestHold := by
  unfold State.retestHold
  split
  next hcleared =>
    have hrun : s.line.state ≠ .run := h.resolve_right fun hhold => by simp [hhold] at hcleared
    rw [State.evaluate_notRun _ (by rw [s.testHold_feedOnly.line]; exact hrun)]
    exact ⟨s.testHold_settles.trans (State.dropTails_settles _), s.testHold_quiet.trans (State.dropTails_quiet _)⟩
  next => exact ⟨s.testHold_settles, s.testHold_quiet⟩

theorem State.clearBlock_settles (s : State) : s.Settles s.clearBlock :=
  have honly := s.clearBlock_feedOnly
  ⟨s.clearBlock_blocks.2.1, honly.faults, honly.line, by rw [s.clearBlock_blocks.1], by rw [s.clearBlock_blocks.1],
    honly.routine⟩

/-- Outside RUN, or with a current batch, a change of the request order makes no choice (R123). -/
theorem State.orderChanged_settles {s : State} (h : s.line.state ≠ .run ∨ s.currentPlace.isSome = true) :
    s.Settles s.orderChanged := by
  have hcleared := s.clearBlock_settles
  unfold State.orderChanged
  split
  · rw [State.choose_of_noChoice (by rwa [hcleared.line, hcleared.currentPlace])]
    exact hcleared
  · rw [State.choose_of_noChoice h]
    exact .rfl' s

/-- What the removal does to the lane, but for the evaluation of R99 in RUN, sets nothing else going. -/
theorem State.laneAfterRemoval_settles {s : State} (r : Piece) {o : Removal}
    (h : s.line.state ≠ .run ∨ (s.currentPlace.isSome = true ∧ o ≠ .purged ∧ o ≠ .releaseMissed)) :
    s.Settles (s.laneAfterRemoval r o) ∧ (s.laneAfterRemoval r o).feed.occupancy = s.feed.occupancy := by
  have hidle (hrun : s.line.state ≠ .run) : s.Settles (s.laneToIdle r.lane) ∧
      (s.laneToIdle r.lane).feed.occupancy = s.feed.occupancy := by
    rw [State.laneToIdle, State.evaluate_notRun _ (by exact hrun)]
    exact ⟨⟨rfl, rfl, rfl, rfl, rfl, rfl⟩, rfl⟩
  have hfront : s.Settles ((s.laneBack r).joinFront r.lane) := ⟨rfl, rfl, rfl, rfl, rfl, rfl⟩
  cases o with
  | releaseMissed => exact hidle (h.resolve_right fun h' => h'.2.2 rfl)
  | purged => exact hidle (h.resolve_right fun h' => h'.2.1 rfl)
  | grantBusy =>
    have hchanged := State.orderChanged_settles (s := (s.laneBack r).joinFront r.lane) (h.imp id And.left)
    refine ⟨hfront.trans hchanged, ?_⟩
    show ((s.laneBack r).joinFront r.lane).orderChanged.feed.occupancy = _
    unfold State.orderChanged
    rw [if_neg (by simp [State.joinFront]),
      State.choose_of_noChoice (s := (s.laneBack r).joinFront r.lane) (h.imp id And.left)]
    rfl
  | _ => exact ⟨⟨rfl, rfl, rfl, rfl, rfl, rfl⟩, rfl⟩

section

variable {s : State} {r : Piece} {i : Nat} {b : BatchEntry}

/-- A removal leaves the entry of its batch CLOSING with live pieces, or not CLOSING, where it does not go on to SENDING. -/
theorem State.reported_eq (o : Removal) (hanonymous : r.anonymous = false) (hi : s.placeOf r.batch = some i)
    (hb : s.batchAt i = some b) (hstays : ¬(b.state = .closing ∧ b.live - 1 = 0)) :
    s.reported r o = s.setPlace i (some (b.afterRemoval r.article r.doubt o)) := by
  rw [State.reported, if_neg (by simp [hanonymous]), State.batchRemoved_eq _ _ _ hi hb, if_neg hstays]

theorem State.reported_batchAt (o : Removal) (hanonymous : r.anonymous = false) (hi : s.placeOf r.batch = some i)
    (hb : s.batchAt i = some b) (hstays : ¬(b.state = .closing ∧ b.live - 1 = 0)) :
    (s.reported r o).batchAt i = some (b.afterRemoval r.article r.doubt o) := by
  rw [State.reported_eq o hanonymous hi hb hstays, State.setPlace_batchAt hb, if_pos rfl]

/-- The place that a batch number stands at holds an entry of the number. -/
theorem State.placeOf_batchAt {n : Half} (hi : s.placeOf n = some i) : ∃ b, s.batchAt i = some b ∧ b.number = n := by
  obtain ⟨hlt, hnum, -⟩ := List.findIdx?_eq_some_iff_getElem.mp hi
  split at hnum
  next b hb => exact ⟨b, State.batchAt_eq_some.mpr (List.getElem?_eq_some_iff.mpr ⟨hlt, hb⟩), by simpa using hnum⟩
  next => exact absurd hnum (by simp)

/-- In RUN, a report that sets nothing else going rewrites one entry at most, and leaves its state. -/
theorem State.reported_quietly (o : Removal) (h : s.removesQuietly r.batch = true) :
    s.reported r o = s ∨ ∃ j c d, s.batchAt j = some c ∧ d.state = c.state ∧
      s.reported r o = s.setPlace j (some d) := by
  by_cases hanonymous : r.anonymous = true
  · exact .inl (if_pos hanonymous)
  · cases hi : s.placeOf r.batch with
    | none => exact .inl (by simp [State.reported, hanonymous, State.batchRemoved, hi])
    | some j =>
      obtain ⟨c, hc, -⟩ := State.placeOf_batchAt hi
      have hstays : ¬(c.state = .closing ∧ c.live - 1 = 0) := by
        intro hends
        simp [State.removesQuietly, hi, hc, hends] at h
      obtain ⟨-, hstate, -⟩ := c.afterRemoval_keeps r.article r.doubt o
      exact .inr ⟨j, c, _, hc, hstate, State.reported_eq o (by simpa using hanonymous) hi hc hstays⟩

/-- An entry rewritten with its state leaves the current batch's place. -/
theorem State.setPlace_currentPlace {c : BatchEntry} (hb : s.batchAt i = some b) (hstate : c.state = b.state) :
    (s.setPlace i (some c)).currentPlace = s.currentPlace := by
  refine State.currentPlace_congr fun j => ?_
  unfold State.openAt
  rw [State.setPlace_batchAt hb]
  split
  next hj => simp [hj, hb, hstate]
  next => rfl

/-- The state in which a removal sets nothing else going: outside RUN, or quietly. -/
def State.removesStill (s : State) (r : Piece) : Prop := s.line.state ≠ .run ∨ s.removesQuietly r.batch = true

theorem State.removesQuietly_hold {n : Half} (h : s.removesQuietly n = true) :
    s.currentPlace.isSome = true ∧ s.feed.hold = false := by
  simp only [State.removesQuietly, Bool.and_eq_true, Bool.not_eq_true'] at h
  exact h.1

/-- What the report to the Batch Counter leaves. -/
theorem State.reported_still (o : Removal) (h : s.removesStill r) : (s.reported r o).pieces = s.pieces ∧
    (s.reported r o).faults = s.faults ∧ (s.reported r o).line = s.line ∧ (s.reported r o).feed = s.feed ∧
    (s.line.state = .run → (s.reported r o).currentPlace.isSome = true) := by
  rcases h with hrun | hquiet
  · have htallies : s.TalliesOnly (s.reported r o) := by
      unfold State.reported
      split
      · exact .rfl' s
      · exact State.batchRemoved_talliesOnly _ _ _ _ hrun
    rw [htallies.blocks]
    exact ⟨rfl, rfl, rfl, rfl, fun h => absurd h hrun⟩
  · obtain ⟨hcurrent, -⟩ := State.removesQuietly_hold hquiet
    rcases State.reported_quietly o hquiet with hsame | ⟨j, c, d, hc, hstate, hset⟩
    · rw [hsame]
      exact ⟨rfl, rfl, rfl, rfl, fun _ => hcurrent⟩
    · rw [hset]
      exact ⟨rfl, rfl, rfl, rfl, fun _ => by rwa [State.setPlace_currentPlace hc hstate]⟩

/-- The whole report of a removal that sets nothing else going: beside the Batch Counter's, the occupancy falls by one. -/
theorem State.reportRemoval_still (o : Removal) (h : s.removesStill r) : (s.reported r o).Settles (s.reportRemoval r o) ∧
    (s.reportRemoval r o).feed.occupancy = (if r.anonymous then s.feed.occupancy else s.feed.occupancy - 1) ∧
    (s.reportRemoval r o).feed.order = s.feed.order ∧ ∀ l, (s.lane l).Agrees ((s.reportRemoval r o).lane l) := by
  obtain ⟨-, -, hline, hfeed, -⟩ := State.reported_still o h
  by_cases hanonymous : r.anonymous = true
  · have hsame : s.reported r o = s := if_pos hanonymous
    have hsame' : s.reportRemoval r o = s := if_pos hanonymous
    rw [hsame, hsame', if_pos hanonymous]
    exact ⟨.rfl' s, rfl, rfl, fun _ => rfl⟩
  · have hreport : s.reportRemoval r o =
        ((s.reported r o).onFeed fun q => { q with occupancy := q.occupancy - 1 }).retestHold := by
      rw [State.reportRemoval, if_neg hanonymous, State.reported, if_neg hanonymous]
    obtain ⟨hsettles, hquiet⟩ := State.retestHold_settles
      (s := (s.reported r o).onFeed fun q => { q with occupancy := q.occupancy - 1 })
      (by
        rw [State.onFeed_line, State.onFeed_feed, hline, hfeed]
        exact h.imp id fun hquiet => (State.removesQuietly_hold hquiet).2)
    rw [hreport, if_neg hanonymous]
    refine ⟨(State.onFeed_settles _ _).trans hsettles, ?_, ?_, fun l => ?_⟩
    · rw [hquiet.occupancy, State.onFeed_feed, hfeed]
    · rw [hquiet.order, State.onFeed_feed, hfeed]
    · have hlane := hquiet.lanes l
      rwa [State.lane, State.onFeed_feed, hfeed] at hlane

/-- What the removal does up to the test for an empty table, where it sets nothing else going. -/
theorem State.laneLeft_still {o : Removal} (h : s.removesStill r)
    (ho : s.line.state ≠ .run ∨ ¬(r.state = .granted ∧ r.anonymous = false) ∨ (o ≠ .purged ∧ o ≠ .releaseMissed)) :
    ((s.takenOut r o).reported r o).Settles (s.laneLeft r o) ∧
      (s.laneLeft r o).feed.occupancy = (if r.anonymous then s.feed.occupancy else s.feed.occupancy - 1) := by
  obtain ⟨hfeed, hbatch, hline, -⟩ := s.takenOut_blocks r o
  have hstill : (s.takenOut r o).removesStill r := by
    refine h.imp (fun hrun => by rwa [hline]) fun hquiet => ?_
    unfold State.removesQuietly State.currentPlace State.placeOf State.batchAt at *
    rwa [hbatch, hfeed]
  obtain ⟨-, -, hline', -, hcurrent⟩ := State.reported_still o hstill
  obtain ⟨hsettles, hoccupancy, -⟩ := State.reportRemoval_still o hstill
  rw [hfeed] at hoccupancy
  unfold State.laneLeft
  split
  next hgranted =>
    obtain ⟨hlane, hocc⟩ := State.laneAfterRemoval_settles (s := (s.takenOut r o).reportRemoval r o) r (o := o) (by
      rw [hsettles.line, hline', hsettles.currentPlace, hline]
      by_cases hrun : s.line.state = .run
      · exact .inr ⟨hcurrent (hline ▸ hrun),
          (ho.resolve_left fun h => h hrun).resolve_left fun h => h hgranted⟩
      · exact .inl hrun)
    exact ⟨hsettles.trans hlane, hocc.trans hoccupancy⟩
  next => exact ⟨hsettles, hoccupancy⟩

end

end Sys2Proof.Machine

/-! SUPPORT. A removal as a whole where it sets nothing else going, and the last record of a DRAINING line (R54, R128, R130,
R153). -/

namespace Sys2Proof.Machine

open Sys2Proof

/-! ### The sending of one entry's tallies leaves the other places (R131) -/

theorem State.sendOne_elsewhere {s : State} {j : Nat} (hrun : s.line.state ≠ .run) (hj : j ∉ s.batch.sendOrder) :
    s.sendOne.batchAt j = s.batchAt j := by
  unfold State.sendOne
  split
  next => rfl
  next i rest horder =>
    have hne : j ≠ i := fun h => hj (by simp [horder, h])
    split
    next => rfl
    next b hb =>
      dsimp only
      have hpushed : (s.pushRoutine 0 (.tally b.report)).batchAt i = some b := hb
      split
      · rw [State.freeEntry, State.choose_notRun _ (by exact hrun)]
        exact (State.setPlace_batchAt hpushed none j).trans (if_neg hne)
      · exact (State.setPlace_batchAt hpushed _ j).trans (if_neg hne)

theorem State.sendLoop_elsewhere {j : Nat} (n : Nat) : ∀ {s : State}, s.line.state ≠ .run → j ∉ s.batch.sendOrder →
    (State.sendLoop n s).batchAt j = s.batchAt j := by
  induction n with
  | zero => exact fun {s} _ _ => rfl
  | succ n ih =>
    intro s hrun hj
    unfold State.sendLoop
    split
    · rfl
    · have hone := State.sendOne_sends hrun
      exact (ih (by rwa [hone.line]) fun h => hj (hone.order h)).trans (State.sendOne_elsewhere hrun hj)

theorem BatchEntry.firstSlot_exists (b : BatchEntry) : ∃ n, b.firstSlot n := by
  have hsorted := b.used_sorted
  cases hused : b.used with
  | nil => exact ⟨0, .inl ⟨hused, rfl⟩⟩
  | cons n rest =>
    rw [hused] at hsorted
    refine ⟨n, .inr ⟨by simp [hused], fun j hj => ?_⟩⟩
    rcases List.mem_cons.mp (hused ▸ hj) with rfl | hrest
    · exact le_rfl
    · exact ((List.pairwise_cons.mp hsorted).1 j hrest).le

/-- What the report of a removal leaves of the batch list outside RUN, where the batch's entry b stands at place i and the
removal makes c of it: it stands as c, or it went on to SENDING, and the tallies queued are its own. -/
structure State.Recounts (s t : State) (i : Nat) (b c : BatchEntry) : Prop where
  elsewhere : ∀ j, j ≠ i → t.batchAt j = s.batchAt j
  stays : ¬(b.state = .closing ∧ b.live - 1 = 0) → t.batchAt i = some c
  ends : b.state = .closing → b.live - 1 = 0 → ∀ e, t.batchAt i = some e → e.state = .sending ∧ e.number = b.number
  routine : ∃ new, t.port.routine = s.port.routine ++ new ∧
    ∀ q ∈ new, ∀ k : TallyReport, q.msg = .tally k → b.state = .closing ∧ k.batch = b.number

section

variable {s : State} {i : Nat} {b c : BatchEntry}

theorem State.enterSending_recounts (hrun : s.line.state ≠ .run) (hb : s.batchAt i = some b) :
    (∀ j, j ≠ i → (s.enterSending i).batchAt j = s.batchAt j) ∧
      (∀ e, (s.enterSending i).batchAt i = some e → e.state = .sending ∧ e.number = b.number) ∧
      ∃ new, (s.enterSending i).port.routine = s.port.routine ++ new ∧
        ∀ q ∈ new, ∀ k : TallyReport, q.msg = .tally k → k.batch = b.number := by
  obtain ⟨first, hfirst⟩ := b.firstSlot_exists
  let d : BatchEntry := { b with state := .sending, nextSlot := some first }
  have hat : (s.sendingAt i d).batchAt i = some d := State.sendingAt_batchAt hb
  have helse (j : Nat) (hj : j ≠ i) : (s.sendingAt i d).batchAt j = s.batchAt j :=
    (State.setPlace_batchAt hb (some d) j).trans (if_neg hj)
  rw [State.enterSending_eq hb hfirst rfl]
  split
  next horder =>
    have hone : (s.sendingAt i d).batch.sendOrder = [i] := by simp [State.sendingAt, horder]
    have hsends := State.sendTallies_sends (s := s.sendingAt i d) hrun
    obtain ⟨new, hnew, hof⟩ := hsends.routine
    refine ⟨fun j hj => ?_, fun e he => ?_, new, hnew, fun q hq k hk => ?_⟩
    · exact (State.sendLoop_elsewhere _ (s := s.sendingAt i d) hrun (by rw [hone]; simpa using hj)).trans (helse j hj)
    · obtain ⟨d', hd', hed⟩ := hsends.entries i e he
      obtain rfl : d = d' := Option.some.inj (hat.symm.trans hd')
      rw [hed]
      exact ⟨rfl, rfl⟩
    · obtain ⟨j, hj, d', hd', k', hk', hnum, -⟩ := hof q hq
      obtain rfl : j = i := by simpa [hone] using hj
      obtain rfl : d = d' := Option.some.inj (hat.symm.trans hd')
      obtain rfl : k' = k := by simpa using hk'.symm.trans hk
      exact hnum
  next =>
    refine ⟨helse, fun e he => ?_, [], (List.append_nil _).symm, by simp⟩
    rw [← Option.some.inj (hat.symm.trans he)]
    exact ⟨rfl, rfl⟩

theorem State.batchRemoved_recounts {n : Half} (article : Byte) (doubt : Bool) (o : Removal) (hrun : s.line.state ≠ .run)
    (hi : s.placeOf n = some i) (hb : s.batchAt i = some b) :
    s.Recounts (s.batchRemoved n article doubt o) i b (b.afterRemoval article doubt o) := by
  obtain ⟨hnum, -⟩ := b.afterRemoval_keeps article doubt o
  have hset (j : Nat) := State.setPlace_batchAt hb (some (b.afterRemoval article doubt o)) j
  rw [State.batchRemoved_eq article doubt o hi hb]
  split
  next hends =>
    obtain ⟨helse, hsending, new, hnew, hof⟩ := State.enterSending_recounts
      (s := s.setPlace i (some (b.afterRemoval article doubt o))) hrun ((hset i).trans (if_pos rfl))
    exact ⟨fun j hj => (helse j hj).trans ((hset j).trans (if_neg hj)), fun h => absurd hends h,
      fun _ _ e he => ⟨(hsending e he).1, (hsending e he).2.trans hnum⟩,
      new, hnew, fun q hq k hk => ⟨hends.1, (hof q hq k hk).trans hnum⟩⟩
  next hstays =>
    exact ⟨fun j hj => (hset j).trans (if_neg hj), fun _ => (hset i).trans (if_pos rfl),
      fun hclosing hlive => absurd ⟨hclosing, hlive⟩ hstays, [], (List.append_nil _).symm, by simp⟩

/-- The report of a removal outside RUN leaves every OPEN entry OPEN under its number, its batch's with one live piece
fewer, and the tallies it queues are of a CLOSING entry. -/
structure State.ReportsIn (s t : State) (r : Piece) : Prop where
  opens : ∀ j, t.openAt j ↔ s.openAt j
  entry : ∀ j b, s.batchAt j = some b → b.state = .opened → ∃ c, t.batchAt j = some c ∧ c.number = b.number ∧
    c.state = .opened ∧ (r.anonymous = true ∨ r.batch ≠ b.number → c = b) ∧
    (r.anonymous = false → s.placeOf r.batch = some j → c.live = b.live - 1)
  held : ∀ j c, t.batchAt j = some c → ∃ b, s.batchAt j = some b ∧ b.number = c.number
  routine : ∃ new, t.port.routine = s.port.routine ++ new ∧ ∀ q ∈ new, ∀ k : TallyReport, q.msg = .tally k →
    ∃ j c, s.batchAt j = some c ∧ c.state = .closing ∧ k.batch = c.number

theorem State.ReportsIn.of_same {r : Piece} (h : r.anonymous = true ∨ s.placeOf r.batch = none) : s.ReportsIn s r :=
  ⟨fun _ => Iff.rfl, fun j b hb hopen => ⟨b, hb, rfl, hopen, fun _ => rfl, fun hanonymous hj => by
    rcases h with hanon | hnone
    · simp [hanon] at hanonymous
    · simp [hnone] at hj⟩, fun j c hc => ⟨c, hc, rfl⟩, [], (List.append_nil _).symm, by simp⟩

theorem State.reported_reportsIn {r : Piece} (o : Removal) (hrun : s.line.state ≠ .run) :
    s.ReportsIn (s.reported r o) r := by
  by_cases hanonymous : r.anonymous = true
  · rw [State.reported, if_pos hanonymous]
    exact .of_same (.inl hanonymous)
  · cases hi : s.placeOf r.batch with
    | none =>
      have hsame : s.reported r o = s := by simp [State.reported, hanonymous, State.batchRemoved, hi]
      rw [hsame]
      exact .of_same (.inr hi)
    | some i =>
      obtain ⟨b, hb, hnumber⟩ := State.placeOf_batchAt hi
      have hrecounts := State.batchRemoved_recounts r.article r.doubt o hrun hi hb
      obtain ⟨hnum, hstate, hlive, -⟩ := b.afterRemoval_keeps r.article r.doubt o
      rw [State.reported, if_neg hanonymous]
      have hopen : (s.batchRemoved r.batch r.article r.doubt o).openAt i ↔ s.openAt i := by
        unfold State.openAt
        by_cases hends : b.state = .closing ∧ b.live - 1 = 0
        · have hclosed : ¬∃ c, s.batchAt i = some c ∧ c.state = .opened := by
            simp [hb, hends.1]
          refine iff_of_false (fun ⟨e, he, hopened⟩ => ?_) hclosed
          rw [(hrecounts.ends hends.1 hends.2 e he).1] at hopened
          exact absurd hopened (by simp)
        · rw [hrecounts.stays hends, hb]
          simp [hstate]
      refine ⟨fun j => ?_, fun j d hd hopened => ?_, fun j e he => ?_, ?_⟩
      · by_cases hj : j = i
        · rw [hj]
          exact hopen
        · unfold State.openAt
          rw [hrecounts.elsewhere j hj]
      · by_cases hj : j = i
        · subst hj
          obtain rfl : b = d := Option.some.inj (hb.symm.trans hd)
          refine ⟨_, hrecounts.stays (by simp [hopened]), hnum, hstate.trans hopened, fun hother => ?_, fun _ _ => hlive⟩
          rcases hother with hanon | hne
          · exact absurd hanon hanonymous
          · exact absurd hnumber.symm hne
        · refine ⟨d, (hrecounts.elsewhere j hj).trans hd, rfl, hopened, fun _ => rfl, fun _ hplace => ?_⟩
          exact absurd (Option.some.inj (hi.symm.trans hplace)).symm hj
      · by_cases hj : j = i
        · subst hj
          refine ⟨b, hb, ?_⟩
          by_cases hends : b.state = .closing ∧ b.live - 1 = 0
          · exact (hrecounts.ends hends.1 hends.2 e he).2.symm
          · rw [hrecounts.stays hends] at he
            rw [← Option.some.inj he, hnum]
        · exact ⟨e, (hrecounts.elsewhere j hj).symm.trans he, rfl⟩
      · obtain ⟨new, hnew, hof⟩ := hrecounts.routine
        exact ⟨new, hnew, fun q hq k hk => ⟨i, b, hb, hof q hq k hk⟩⟩

end

/-! ### The entry to CONFIG that a removal makes (R153) -/

theorem State.tableEmptied_notEmpty {s : State} (h : s.pieces.records ≠ [] ∨ s.line.state ≠ .draining) :
    s.tableEmptied = s := by
  unfold State.tableEmptied
  rw [if_neg]
  intro hempty
  rw [Bool.and_eq_true, List.isEmpty_iff, beq_iff_eq] at hempty
  exact h.elim (fun h => h hempty.1) fun h => h hempty.2

theorem State.tableEmptied_empty {s : State} (hempty : s.pieces.records = []) (hstate : s.line.state = .draining) :
    s.tableEmptied = s.enterConfig .command := by
  simp [State.tableEmptied, hempty, hstate]

theorem State.enterConfig_occupancy (s : State) (cause : ClosureCause) :
    (s.enterConfig cause).feed.occupancy = s.feed.occupancy := by
  rw [s.enterConfig_eq]
  cases hi : s.inConfig.currentPlace with
  | none =>
    rw [s.inConfig.closeCurrent_none cause hi]
    rfl
  | some i =>
    obtain ⟨b, hb, -⟩ := State.currentPlace_opened hi
    rw [(State.closeCurrent_sends (cause := cause) (by simp [State.inConfig]) hi hb).feed]
    rfl

/-- The test for an empty table leaves the records, the faults and the occupancy. -/
theorem State.tableEmptied_blocks (s : State) : s.tableEmptied.pieces = s.pieces ∧ s.tableEmptied.faults = s.faults ∧
    s.tableEmptied.feed.occupancy = s.feed.occupancy := by
  unfold State.tableEmptied
  split
  · exact ⟨(s.enterConfig_blocks _).1, (s.enterConfig_blocks _).2, s.enterConfig_occupancy _⟩
  · exact ⟨rfl, rfl, rfl⟩

/-! ### A removal that sets nothing else going -/

section

variable {s : State} {n : Half} {r : Piece} {o : Removal}

/-- The removal of a record in GRANTED as PURGED or RELEASE_MISSED makes an evaluation (R57, R99, R116). -/
def Piece.evaluatedBy (r : Piece) (o : Removal) : Prop :=
  r.state = .granted ∧ r.anonymous = false ∧ (o = .purged ∨ o = .releaseMissed)

theorem State.laneLeft_settles (h : s.removesStill r) (ho : s.line.state ≠ .run ∨ ¬ r.evaluatedBy o) :
    ((s.takenOut r o).reported r o).Settles (s.laneLeft r o) ∧
      (s.laneLeft r o).feed.occupancy = (if r.anonymous then s.feed.occupancy else s.feed.occupancy - 1) := by
  refine State.laneLeft_still h (ho.imp id fun hnot => ?_)
  by_cases hgranted : r.state = .granted ∧ r.anonymous = false
  · exact .inr ⟨fun ho => hnot ⟨hgranted.1, hgranted.2, .inl ho⟩, fun ho => hnot ⟨hgranted.1, hgranted.2, .inr ho⟩⟩
  · exact .inl hgranted

theorem State.takenOut_still (o : Removal) (h : s.removesStill r) : (s.takenOut r o).removesStill r := by
  obtain ⟨hfeed, hbatch, hline, -⟩ := s.takenOut_blocks r o
  refine h.imp (fun hrun => by rwa [hline]) fun hquiet => ?_
  unfold State.removesQuietly State.currentPlace State.placeOf State.batchAt at *
  rwa [hbatch, hfeed]

/-- The record is gone and no other is touched, no fault is recorded, and the occupancy falls by one (R54, R108). -/
theorem State.removePiece_still (hr : s.findPiece n = some r) (h : s.removesStill r)
    (ho : s.line.state ≠ .run ∨ ¬ r.evaluatedBy o) :
    (s.removePiece n o).pieces.records = s.pieces.records.filter (fun q => q.number != n) ∧
      (s.removePiece n o).faults = s.faults ∧
      (s.removePiece n o).feed.occupancy = (if r.anonymous then s.feed.occupancy else s.feed.occupancy - 1) := by
  obtain ⟨hsettles, hoccupancy⟩ := State.laneLeft_settles (o := o) h ho
  obtain ⟨hpieces, hfaults, -⟩ := State.reported_still o (State.takenOut_still o h)
  obtain ⟨hpieces', hfaults', hoccupancy'⟩ := (s.laneLeft r o).tableEmptied_blocks
  obtain ⟨-, -, -, hfaults'', -⟩ := s.takenOut_blocks r o
  rw [State.removePiece_eq o hr]
  refine ⟨?_, hfaults'.trans (hsettles.faults.trans (hfaults.trans hfaults'')), hoccupancy'.trans hoccupancy⟩
  rw [hpieces', hsettles.pieces, hpieces, State.takenOut_records, State.findPiece_number hr]

/-- The line stays as it is where the table is not emptied in DRAINING, and the batch list stands as reported. -/
theorem State.removePiece_settles (hr : s.findPiece n = some r) (h : s.removesStill r)
    (ho : s.line.state ≠ .run ∨ ¬ r.evaluatedBy o)
    (hstays : s.line.state ≠ .draining ∨ ∃ q ∈ s.pieces.records, q.number ≠ n) :
    ((s.takenOut r o).reported r o).Settles (s.removePiece n o) ∧ s.removePiece n o = s.laneLeft r o := by
  obtain ⟨hsettles, -⟩ := State.laneLeft_settles (o := o) h ho
  obtain ⟨hpieces, -, hline, -⟩ := State.reported_still o (State.takenOut_still o h)
  obtain ⟨-, -, hline', -⟩ := s.takenOut_blocks r o
  have hsame : (s.laneLeft r o).tableEmptied = s.laneLeft r o := by
    rcases hstays with hstate | ⟨q, hq, hne⟩
    · exact State.tableEmptied_notEmpty (.inr (by rwa [hsettles.line, hline, hline']))
    · refine State.tableEmptied_notEmpty (.inl (List.ne_nil_of_mem (a := q) ?_))
      rw [hsettles.pieces, hpieces, State.takenOut_records, State.findPiece_number hr]
      exact List.mem_filter.mpr ⟨hq, by simpa using hne⟩
  rw [State.removePiece_eq o hr, hsame]
  exact ⟨hsettles, rfl⟩

/-- The batch's entry, where it does not go on to SENDING, has one live piece fewer and the tally of R122. -/
theorem State.removePiece_batchAt (hr : s.findPiece n = some r) (h : s.removesStill r)
    (ho : s.line.state ≠ .run ∨ ¬ r.evaluatedBy o)
    (hstays : s.line.state ≠ .draining ∨ ∃ q ∈ s.pieces.records, q.number ≠ n) (hanonymous : r.anonymous = false)
    {i : Nat} {b : BatchEntry} (hi : s.placeOf r.batch = some i) (hb : s.batchAt i = some b)
    (hlive : ¬(b.state = .closing ∧ b.live - 1 = 0)) :
    (s.removePiece n o).batchAt i = some (b.afterRemoval r.article r.doubt o) := by
  obtain ⟨-, hbatch, -⟩ := s.takenOut_blocks r o
  have hi' : (s.takenOut r o).placeOf r.batch = some i := by
    unfold State.placeOf
    rw [hbatch]
    exact hi
  rw [(State.removePiece_settles (o := o) hr h ho hstays).1.batchAt]
  exact State.reported_batchAt o hanonymous hi' ((State.batchAt_congr (congrArg BatchCounter.places hbatch) i).trans hb) hlive

/-- Outside RUN a removal, up to the test for an empty table, reports to the Batch Counter and leaves the line. -/
theorem State.laneLeft_reportsIn (hrun : s.line.state ≠ .run) (r : Piece) (o : Removal) :
    s.ReportsIn (s.laneLeft r o) r ∧ (s.laneLeft r o).line = s.line ∧
      (s.laneLeft r o).pieces.records = s.pieces.records.filter (fun q => q.number != r.number) := by
  obtain ⟨-, hbatch, hline, -, hroutine, -⟩ := s.takenOut_blocks r o
  have hreports := State.reported_reportsIn (s := s.takenOut r o) (r := r) o (by rw [hline]; exact hrun)
  obtain ⟨hsettles, -⟩ := State.laneLeft_settles (o := o) (.inl hrun) (.inl hrun)
  obtain ⟨hpieces, -, hline', -⟩ := State.reported_still o (State.takenOut_still o (.inl hrun))
  have hline'' : (s.laneLeft r o).line = s.line := hsettles.line.trans (hline'.trans hline)
  have hrecords : (s.laneLeft r o).pieces.records = s.pieces.records.filter fun q => q.number != r.number := by
    rw [hsettles.pieces, hpieces, State.takenOut_records]
  have hat (j : Nat) : (s.takenOut r o).batchAt j = s.batchAt j := State.batchAt_congr (congrArg BatchCounter.places hbatch) j
  have hplace : (s.takenOut r o).placeOf r.batch = s.placeOf r.batch := by
    unfold State.placeOf
    rw [hbatch]
  refine ⟨⟨fun j => ?_, fun j b hb hopened => ?_, fun j c hc => ?_, ?_⟩, hline'', hrecords⟩
  · have hopen := hreports.opens j
    unfold State.openAt at hopen ⊢
    rw [hat] at hopen
    rw [hsettles.batchAt]
    exact hopen
  · obtain ⟨c, hc, hentry⟩ := hreports.entry j b ((hat j).trans hb) hopened
    rw [hplace] at hentry
    exact ⟨c, (hsettles.batchAt j).trans hc, hentry⟩
  · obtain ⟨b, hb, hnum⟩ := hreports.held j c ((hsettles.batchAt j).symm.trans hc)
    exact ⟨b, (hat j).symm.trans hb, hnum⟩
  · obtain ⟨new, hnew, hof⟩ := hreports.routine
    refine ⟨new, hsettles.routine.trans (hnew.trans (by rw [hroutine])), fun q hq k hk => ?_⟩
    obtain ⟨j, c, hc, hclosing⟩ := hof q hq k hk
    exact ⟨j, c, (hat j).symm.trans hc, hclosing⟩

theorem State.laneLeft_placesSound (hrun : s.line.state ≠ .run) (r : Piece) (o : Removal) (hsound : placesSound s.batch.places) :
    placesSound (s.laneLeft r o).batch.places := by
  obtain ⟨-, hbatch, hline, -⟩ := s.takenOut_blocks r o
  have hreported : placesSound ((s.takenOut r o).reported r o).batch.places := by
    refine State.LotMoves.keeps (s := s.takenOut r o) (I := fun u => placesSound u.batch.places) ?_
      (fun h k => h.placesSound k) (by rwa [hbatch])
    unfold State.reported
    split
    · exact .rfl' _
    · exact State.batchRemoved_lotMoves _ _ _ _ _
  rw [(State.laneLeft_settles (o := o) (.inl hrun) (.inl hrun)).1.places]
  exact hreported

/-- In DRAINING the removal that empties the table takes the line into CONFIG (R153). -/
theorem State.removePiece_last (hstate : s.line.state = .draining) (hr : s.findPiece n = some r)
    (hlast : ∀ q ∈ s.pieces.records, q.number = n) (o : Removal) : (s.laneLeft r o).pieces.records = [] ∧
      s.removePiece n o = (s.laneLeft r o).enterConfig .command := by
  obtain ⟨-, hline, hrecords⟩ := State.laneLeft_reportsIn (s := s) (by simp [hstate]) r o
  have hempty : (s.laneLeft r o).pieces.records = [] := by
    rw [hrecords, State.findPiece_number hr, List.filter_eq_nil_iff]
    exact fun q hq => by simp [hlast q hq]
  exact ⟨hempty, by rw [State.removePiece_eq o hr, State.tableEmptied_empty hempty (by rw [hline, hstate])]⟩

/-- No two entries of a sound batch list hold one number (R119). -/
theorem State.batchAt_number {i j : Nat} {b c : BatchEntry} (hsound : s.batchesSound = true) (hb : s.batchAt i = some b)
    (hc : s.batchAt j = some c) (hnum : b.number = c.number) : i = j := by
  obtain ⟨-, -, hnodup⟩ := State.batchesSound_iff.mp hsound
  by_contra hne
  have hpair := List.pairwise_filterMap.mp hnodup
  obtain ⟨hi, hib⟩ := List.getElem?_eq_some_iff.mp (State.batchAt_eq_some.mp hb)
  obtain ⟨hj, hjc⟩ := List.getElem?_eq_some_iff.mp (State.batchAt_eq_some.mp hc)
  rw [List.pairwise_iff_getElem] at hpair
  rcases Nat.lt_or_gt_of_ne hne with hlt | hgt
  · exact hpair i j hi hj hlt b.number (by rw [hib]; rfl) c.number (by rw [hjc]; rfl) hnum
  · exact hpair j i hj hi hgt c.number (by rw [hjc]; rfl) b.number (by rw [hib]; rfl) hnum.symm

theorem State.placeOf_eq {i : Nat} {b : BatchEntry} (hsound : s.batchesSound = true) (hb : s.batchAt i = some b) :
    s.placeOf b.number = some i := by
  obtain ⟨j, hj⟩ := Option.isSome_iff_exists.mp (State.placeOf_isSome.mpr ⟨i, b, hb, rfl⟩)
  obtain ⟨c, hc, hnum⟩ := State.placeOf_batchAt hj
  rw [hj, State.batchAt_number hsound hc hb hnum]

/-- What comes before an entry to CONFIG without touching the batch list or queueing a TALLY. -/
theorem State.entersConfig_before {s t u : State} {cause : ClosureCause} (hbatch : t.batch = s.batch)
    (hroutine : ∃ new, t.port.routine = s.port.routine ++ new ∧ ∀ q ∈ new, ∀ k : TallyReport, q.msg ≠ .tally k)
    (h : State.entersConfig t u cause) : State.entersConfig s u cause := by
  obtain ⟨hstate, hnone, htfault, horder, hready, hhold, hblock, hcloses⟩ := h
  refine ⟨hstate, hnone, htfault, horder, hready, hhold, hblock, fun hsound => ?_⟩
  obtain ⟨hcurrent, later, hlater, hclosed⟩ := hcloses (by rw [State.batchesSound_iff, hbatch]; exact State.batchesSound_iff.mp hsound)
  obtain ⟨first, hfirst, hnotTally⟩ := hroutine
  refine ⟨hcurrent, first ++ later, by rw [hlater, hfirst, List.append_assoc], fun i b hi hb => ?_⟩
  obtain ⟨hidle, hentry, htally⟩ := hclosed i b (by unfold State.currentPlace; rw [hbatch]; exact hi)
    ((State.batchAt_congr (congrArg BatchCounter.places hbatch) i).trans hb)
  refine ⟨hidle, hentry, fun q hq k hk => ?_⟩
  rcases List.mem_append.mp hq with hq | hq
  · exact absurd hk (hnotTally q hq k)
  · exact htally q hq k hk

/-- What comes after an entry to CONFIG without touching the line, the lanes, the batch list or the routine queue. -/
theorem State.entersConfig_after {s t u : State} {cause : ClosureCause} (hline : u.line = t.line) (hfeed : u.feed = t.feed)
    (hbatch : u.batch = t.batch) (hroutine : u.port.routine = t.port.routine) (h : State.entersConfig s t cause) :
    State.entersConfig s u cause := by
  unfold State.entersConfig State.lane State.currentBatch State.batchAt at *
  rw [hline, hfeed, hbatch, hroutine]
  exact h

/-- What comes before an entry to CONFIG outside RUN: the open entry keeps its place and its number, no entry is new, and
the tallies queued are of entries that were not OPEN. -/
structure State.Drains (s t : State) : Prop where
  sound : placesSound s.batch.places → placesSound t.batch.places
  opens : ∀ j, t.openAt j ↔ s.openAt j
  held : ∀ j c, t.batchAt j = some c → ∃ b, s.batchAt j = some b ∧ b.number = c.number
  routine : ∃ new, t.port.routine = s.port.routine ++ new ∧ ∀ q ∈ new, ∀ k : TallyReport, q.msg = .tally k →
    ∃ j c, s.batchAt j = some c ∧ c.state ≠ .opened ∧ k.batch = c.number

theorem State.laneLeft_drains (hrun : s.line.state ≠ .run) (r : Piece) (o : Removal) : s.Drains (s.laneLeft r o) := by
  obtain ⟨hreports, -⟩ := State.laneLeft_reportsIn hrun r o
  obtain ⟨new, hnew, hof⟩ := hreports.routine
  refine ⟨State.laneLeft_placesSound hrun r o, hreports.opens, hreports.held, new, hnew, fun q hq k hk => ?_⟩
  obtain ⟨j, c, hc, hclosing, hnum⟩ := hof q hq k hk
  exact ⟨j, c, hc, by simp [hclosing], hnum⟩

theorem State.entersConfig_drains {s t u : State} {cause : ClosureCause} (h : s.Drains t)
    (henters : State.entersConfig t u cause) : State.entersConfig s u cause := by
  obtain ⟨hconfig, hnone, htfault, horder, hready, hhold, hblock, hcloses⟩ := henters
  refine ⟨hconfig, hnone, htfault, horder, hready, hhold, hblock, fun hsound => ?_⟩
  obtain ⟨hcurrent, later, hlater, hclosed⟩ :=
    hcloses (State.batchesSound_iff.mpr (h.sound (State.batchesSound_iff.mp hsound)))
  obtain ⟨first, hfirst, hof⟩ := h.routine
  refine ⟨hcurrent, first ++ later, by rw [hlater, hfirst, List.append_assoc], fun i b hi hb => ?_⟩
  have hi' : t.currentPlace = some i := (State.currentPlace_congr h.opens).trans hi
  obtain ⟨c, hc, -⟩ := State.currentPlace_opened hi'
  obtain ⟨d, hd, hopened⟩ := State.currentPlace_opened hi
  obtain rfl : b = d := Option.some.inj (hb.symm.trans hd)
  obtain ⟨e, he, hnum⟩ := h.held i c hc
  obtain rfl : b = e := Option.some.inj (hb.symm.trans he)
  obtain ⟨hidle, hentry, htally⟩ := hclosed i c hi' hc
  refine ⟨hidle, fun f hf => hnum ▸ hentry f hf, fun q hq k hk hbatch => ?_⟩
  rcases List.mem_append.mp hq with hq | hq
  · obtain ⟨j, f, hf, hclosing, hnumber⟩ := hof q hq k hk
    obtain rfl : i = j := State.batchAt_number hsound hb hf (hbatch.symm.trans hnumber)
    exact absurd (Option.some.inj (hb.symm.trans hf) ▸ hopened) hclosing
  · exact htally q hq k hk (hbatch.trans hnum)

/-- The removal that empties the table of a DRAINING line takes it to CONFIG, the current batch closed with cause COMMAND
(R128, R153). -/
theorem State.removePiece_entersConfig (hstate : s.line.state = .draining) (hr : s.findPiece n = some r)
    (hlast : ∀ q ∈ s.pieces.records, q.number = n) (o : Removal) :
    State.entersConfig s (s.removePiece n o) .command := by
  rw [(State.removePiece_last hstate hr hlast o).2]
  exact State.entersConfig_drains (State.laneLeft_drains (by simp [hstate]) r o)
    ((s.laneLeft r o).enterConfig_entersConfig .command)

end

end Sys2Proof.Machine

/-! SUPPORT. MODE STOP and the purges (R59, R60, R152, R153), and the statements of these. -/

namespace Sys2Proof.Machine

open Sys2Proof

/-! ### MODE STOP (R152, R153) -/

/-- A closure outside RUN leaves the urgent queue. -/
theorem State.closeCurrent_urgent {s : State} (hrun : s.line.state ≠ .run) (cause : ClosureCause) :
    (s.closeCurrent cause).port.urgent = s.port.urgent := by
  cases hi : s.currentPlace with
  | none => rw [s.closeCurrent_none cause hi]
  | some i =>
    obtain ⟨b, hb, -⟩ := State.currentPlace_opened hi
    rw [State.closeCurrent_notRun hrun hi hb]
    split
    · rw [(State.sendTallies_talliesOnly (s := s.closedAt i b cause) hrun).blocks]
      rfl
    · rfl

/-- With the condition HOLD LINE already, the entry to CONFIG queues no FEED_STATE (R110). -/
theorem State.inConfig_urgent {s : State} (h : s.feed.condition = .hold .line) : s.inConfig.port.urgent = s.port.urgent :=
  if_pos h

/-- The state at the entry to DRAINING that a request makes, by the urgent frames in it. -/
def State.drainingWith (s : State) (urgent : List Queued) : State :=
  { s.received with
    line := { state := .draining, cause := none, tfault := false, owed := decide (15 ≤ s.port.routine.length) }
    feed := { s.feed with condition := .hold .line }
    port := { s.received.port with
      reserved := true
      urgent := urgent
      routine := s.port.routine ++
        (if s.port.routine.length < 15 then [{ dest := 31, msg := .lineState .draining none, suspect := false }]
        else []) } }

/-- The state at the entry to DRAINING that a request makes: the LINE_STATE report, queued or owed with the place of the
REPLY the only free one, and the condition HOLD LINE with its FEED_STATE when that is a change (R110, R149, R152). -/
def State.inDraining (s : State) : State :=
  s.drainingWith (if s.feed.condition = .hold .line then s.port.urgent else feedStateQueued (.hold .line) s.port.urgent)

theorem State.enterLine_draining (s : State) : s.performing.enterLine .draining none = s.inDraining := by
  have hcondition : (s.performing.setLine .draining none).feedCondition = .hold .line :=
    State.feedCondition_notRun (by simp [State.setLine])
  have hfull : (s.performing.freePlaces = 0) = (15 ≤ s.port.routine.length) := propext State.performing_full
  have hsame : (FeedCondition.hold .line = s.performing.feed.condition) = (s.feed.condition = .hold .line) :=
    propext eq_comm
  rw [State.enterLine_eq _ _ _ hcondition]
  simp only [hfull, hsame]
  unfold State.inDraining State.drainingWith
  by_cases hroom : s.port.routine.length < 15
  · rw [if_neg (Nat.not_le.mpr hroom), if_pos hroom]
    rfl
  · rw [if_pos (Nat.not_lt.mp hroom), if_neg hroom]
    rfl

theorem State.inDraining_lineOnly (s : State) : s.performing.LineOnly s.inDraining :=
  s.enterLine_draining ▸ s.performing.enterLine_lineOnly .draining none

/-- Behind the report of DRAINING, 14 places are for other frames. -/
theorem State.inDraining_full {s : State} : s.inDraining.freePlaces = 0 ↔ 14 ≤ s.port.routine.length := by
  have hlength : s.inDraining.port.routine.length =
      s.port.routine.length + if s.port.routine.length < 15 then 1 else 0 := by
    rw [State.inDraining, State.drainingWith, List.length_append]
    split <;> rfl
  show 16 - (s.inDraining.port.routine.length + 1) = 0 ↔ _
  rw [hlength]
  split <;> omega

theorem State.answered_urgent (s : State) (f : Frame) (result : Byte) (data : List Byte) :
    (s.answered f result data).port.urgent = s.port.urgent := rfl

theorem State.answered_routine (s : State) (f : Frame) (result : Byte) (data : List Byte) :
    (s.answered f result data).port.routine =
      s.port.routine ++ [{ dest := f.src, msg := .reply (byteAt f.body 0) result data, suspect := false }] := rfl

section

variable {s : State} {e : Envelope}

theorem exec_modeStop (hadmits : s.admitsRequest (commandFrame e 2 []) = true) (hstate : s.line.state = .run) {t : State}
    (ht : s.performing.enterDraining = t) : exec (.modeStop e) s = .next (t.answered (commandFrame e 2 []) 0 [2]) := by
  subst ht
  have hdo : s.performing.doCommand 2 [] = s.performing.enterDraining.answer 2 resDone := if_pos hstate
  exact exec_command (c := .modeStop e) hadmits hdo

theorem State.enterDraining_records (hrecords : s.pieces.records ≠ []) : s.performing.enterDraining = s.inDraining := by
  have hnot : ¬ s.inDraining.pieces.records.isEmpty = true := by
    simpa [State.inDraining, State.drainingWith, State.received] using hrecords
  rw [State.enterDraining, s.enterLine_draining, if_neg hnot]

theorem State.enterDraining_empty (hrecords : s.pieces.records = []) :
    s.performing.enterDraining = s.inDraining.enterConfig .command := by
  have hempty : s.inDraining.pieces.records.isEmpty = true := by
    simp [State.inDraining, State.drainingWith, State.received, hrecords]
  rw [State.enterDraining, s.enterLine_draining, if_pos hempty]

/-- With an empty table the line goes on into CONFIG, and all that was asked of the entry to CONFIG holds from the
beginning of the command. -/
theorem State.inDraining_entersConfig (s : State) :
    State.entersConfig s.performing (s.inDraining.enterConfig .command) .command := by
  refine State.entersConfig_before (t := s.inDraining) rfl ⟨_, rfl, fun q hq k => ?_⟩
    (s.inDraining.enterConfig_entersConfig .command)
  split at hq
  · rw [List.mem_singleton.mp hq]
    simp
  · simp at hq

/-- The frames that the routine queue holds after an entry to CONFIG from DRAINING: the two reports that found a place,
and tallies. -/
theorem State.inDraining_routine (s : State) : ∃ new : List Queued,
    (s.inDraining.enterConfig .command).port.routine = s.port.routine ++
      (if s.port.routine.length < 15 then [{ dest := 31, msg := .lineState .draining none, suspect := false }] else []) ++
      (if s.port.routine.length < 14 then [{ dest := 31, msg := .lineState .config none, suspect := false }] else []) ++
      new := by
  obtain ⟨tallies, htallies, -⟩ := (s.inDraining.inConfig_closesIn .command).routine
  refine ⟨tallies, htallies.trans (congrArg (· ++ tallies) (congrArg (_ ++ ·) ?_))⟩
  by_cases hroom : s.port.routine.length < 14
  · rw [if_neg (fun h => absurd (State.inDraining_full.mp h) (by omega)), if_pos hroom]
  · rw [if_pos (State.inDraining_full.mpr (by omega)), if_neg hroom]

end

/-- Settles O50: the entry to DRAINING, the entry to CONFIG behind it with an empty table, and the one that the removal of
the last record makes. -/
theorem modeStopTaken : Obligations.ModeStopTaken := by
  refine ⟨fun e s hadmits hstate hrecords => ?draining, fun e s hadmits hstate hrecords => ?config,
    fun s r o hstate hrecords => ?last, fun e s hadmits hstate => ?refused⟩
  case draining =>
    have hexec := exec_modeStop hadmits hstate (State.enterDraining_records hrecords)
    have honly := s.inDraining_lineOnly
    refine ⟨_, hexec, rfl, rfl, rfl, rfl, rfl, rfl, fun hroom => ⟨decide_eq_false (by omega), ?_⟩,
      fun hfull => ⟨decide_eq_true hfull, ?_⟩, rfl, State.answered_repliedLast _ _ _ _,
      honly.sameTracking_answered _ _ _, honly.sameOuter_answered _ _ _⟩
    · show s.port.routine ++ (if s.port.routine.length < 15 then _ else _) ++ _ = _
      rw [if_pos hroom, List.append_assoc]
      rfl
    · show s.port.routine ++ (if s.port.routine.length < 15 then _ else _) ++ _ = _
      rw [if_neg (by omega), List.append_nil]
      rfl
  case config =>
    have hexec := exec_modeStop hadmits hstate (State.enterDraining_empty hrecords)
    have honly := s.inDraining_lineOnly.trans (s.inDraining.enterConfig_lineOnly .command)
    have henters := State.entersConfig_answered (commandFrame e 2 []) 0 [2] s.inDraining_entersConfig
    have ⟨hconfig, _, _, horder, hready, _⟩ := henters
    have hurgent : (s.inDraining.enterConfig .command).port.urgent = s.inDraining.port.urgent := by
      rw [s.inDraining.enterConfig_eq, State.closeCurrent_urgent (by simp [State.inConfig])]
      exact State.inConfig_urgent rfl
    obtain ⟨new, hnew⟩ := s.inDraining_routine
    have hline := s.inDraining.enterConfig_line .command
    refine ⟨_, hexec, hconfig, ?records, horder, hready, State.answered_repliedLast _ _ _ _,
      honly.sameTracking_answered _ _ _, honly.sameOuter_answered _ _ _, henters, ?urgent, ?owed, 
      ⟨new ++ [{ dest := e.src, msg := .reply 4 0 [2], suspect := false }], ?routine⟩,      fun d hd => ?whole⟩
    case records =>
      rw [State.answered_pieces, (s.inDraining.enterConfig_blocks .command).1]
      exact hrecords
    case urgent =>
      rw [State.answered_urgent, hurgent]
      rfl
    case owed =>
      rw [State.answered_line, hline]
      exact decide_eq_decide.mpr State.inDraining_full
    case routine =>
      rw [State.answered_routine, hnew, List.append_assoc _ new]
      rfl
    case whole =>
      have hwith : d = s.drainingWith
          ((s.inDraining.enterConfig .command).answered (commandFrame e 2 []) 0 [2]).port.urgent := hd
      have hsame : d = s.inDraining := by
        rw [hwith, State.answered_urgent, hurgent]
        rfl
      rw [hsame, s.inDraining.enterConfig_eq]
  case last =>
    have hr : s.findPiece r.number = some r := by simp [State.findPiece, hrecords]
    have hlast : ∀ q ∈ s.pieces.records, q.number = r.number := by simp [hrecords]
    obtain ⟨hreports, hline, -⟩ := State.laneLeft_reportsIn (s := s) (by simp [hstate]) r o
    obtain ⟨hempty, hremove⟩ := State.removePiece_last hstate hr hlast o
    refine ⟨s.laneLeft r o, hline, hempty, State.currentPlace_congr hreports.opens, fun i b hi hb => ?_,
      by rw [hremove, State.enterConfig_eq], State.removePiece_entersConfig hstate hr hlast o⟩
    obtain ⟨d, hd, hopened⟩ := State.currentPlace_opened hi
    obtain rfl : b = d := Option.some.inj (hb.symm.trans hd)
    obtain ⟨c, hc, hnum, hopen, hother, hlive⟩ := hreports.entry i b hb hopened
    exact ⟨c, hc, hnum, hopen, hother, fun hsound hanonymous hbatch =>
      hlive hanonymous (hbatch ▸ State.placeOf_eq hsound hb)⟩
  case refused =>
    have hdo : s.performing.doCommand 2 [] = s.performing.answer 2 resRefusedMode := if_neg hstate
    exact exec_command (c := .modeStop e) hadmits hdo

end Sys2Proof.Machine

/-! SUPPORT. A removal's totals, frames, lane and batch entry (R54 to R57), and the statements of the purges (R59, R60). -/

namespace Sys2Proof.Machine

open Sys2Proof

/-! ### What a removal leaves, whatever it sets going -/

section

variable {s : State} {n : Half} {r : Piece} {o : Removal}

theorem State.withdrawRemoved_blocks (s : State) (r : Piece) (o : Removal) : (s.withdrawRemoved r o).pieces = s.pieces ∧
    (s.withdrawRemoved r o).line = s.line := by
  unfold State.withdrawRemoved
  split <;> exact ⟨rfl, rfl⟩

/-- Taking the record out leaves the batch list. -/
theorem State.takenOut_batch (s : State) (r : Piece) (o : Removal) :
    (∀ m, (s.takenOut r o).placeOf m = s.placeOf m) ∧ ∀ i, (s.takenOut r o).batchAt i = s.batchAt i := by
  obtain ⟨-, hbatch, -⟩ := s.takenOut_blocks r o
  unfold State.placeOf State.batchAt
  rw [hbatch]
  exact ⟨fun _ => rfl, fun _ => rfl⟩

theorem State.takenOut_totals (s : State) (r : Piece) (o : Removal) :
    (s.takenOut r o).pieces.lost = (s.pieces.countRemoval o).lost ∧
      (s.takenOut r o).pieces.discharged = (s.pieces.countRemoval o).discharged := by
  have hcount (t : PieceTable) (l : List Piece) : (({ t with records := l } : PieceTable).countRemoval o).lost =
      (t.countRemoval o).lost ∧ (({ t with records := l } : PieceTable).countRemoval o).discharged =
      (t.countRemoval o).discharged := by
    cases o <;> exact ⟨rfl, rfl⟩
  rw [← (s.withdrawRemoved_blocks r o).1]
  exact hcount _ _

/-- The totals of a removal (R55, R56). -/
theorem State.removePiece_totals (o : Removal) (hr : s.findPiece n = some r) :
    (s.removePiece n o).pieces.lost = (s.pieces.countRemoval o).lost ∧
      (s.removePiece n o).pieces.discharged = (s.pieces.countRemoval o).discharged := by
  obtain ⟨hdischarged, hlost⟩ := (State.removePiece_grown o hr).totals
  exact ⟨hlost.trans (s.takenOut_totals r o).1, hdischarged.trans (s.takenOut_totals r o).2⟩

theorem State.findPiece_without {s t : State} {n : Half}
    (h : t.pieces.records = s.pieces.records.filter fun q => q.number != n) : t.findPiece n = none := by
  rw [State.findPiece, h]
  simp

/-- Every other record stays as it is (R54). -/
theorem State.removePiece_held (o : Removal) (hr : s.findPiece n = some r) {q : Piece} (hq : q ∈ s.pieces.records)
    (hne : q.number ≠ n) : q ∈ (s.removePiece n o).pieces.records := by
  refine (State.removePiece_grown o hr).held q ?_
  rw [State.takenOut_records, State.findPiece_number hr]
  exact List.mem_filter.mpr ⟨hq, by simpa using hne⟩

/-- A record of the table after a removal is another that it held, or one granted since, in RUN. -/
theorem State.removePiece_fresh (o : Removal) (hr : s.findPiece n = some r) {q : Piece}
    (hq : q ∈ (s.removePiece n o).pieces.records) : (q ∈ s.pieces.records ∧ q.number ≠ n) ∨
      (s.line.state = .run ∧ q.state = .granted ∧ q.grantPos = some s.travel.position) := by
  obtain ⟨-, -, hline, -, -, htravel⟩ := s.takenOut_blocks r o
  rcases (State.removePiece_grown o hr).fresh q hq with hold | hnew
  · rw [State.takenOut_records, State.findPiece_number hr] at hold
    exact .inl ((List.mem_filter.mp hold).imp id fun h => by simpa using h)
  · rw [hline, htravel] at hnew
    exact .inr hnew

/-- The GRANT of a record removed in GRANTED as PURGED or RELEASE_MISSED is withdrawn (R57, R176). -/
theorem State.removePiece_grantWithdrawn (hr : s.findPiece n = some r) (hgranted : r.state = .granted)
    (ho : o = .purged ∨ o = .releaseMissed) : State.grantWithdrawn s (s.removePiece n o) n := by
  have hgrown := State.removePiece_grown o hr
  obtain ⟨-, -, hline, -, -, htravel⟩ := s.takenOut_blocks r o
  have htaken : (s.takenOut r o).port.urgent = s.port.urgent.filter fun q => q.grantPiece != some n := by
    rw [State.takenOut, State.withdrawRemoved, if_pos ⟨hgranted, ho⟩, State.findPiece_number hr]
    rfl
  obtain ⟨grants, hurgent, hof⟩ := hgrown.urgent
  rw [htaken, List.filter_filter] at hurgent
  refine ⟨List.Sublist.trans ?_ List.filter_sublist (l₂ := (s.removePiece n o).port.urgent.filter fun q => !q.isFeedState),
    fun q hq hnum => ?_⟩
  · rw [hurgent, show (fun q : Queued => q.grantPiece != some n && !q.isFeedState) =
      fun q => !q.isFeedState && q.grantPiece != some n from funext fun q => Bool.and_comm _ _]
    exact List.sublist_append_left _ _
  · have hnotState : q.isFeedState = false := by
      unfold Queued.grantPiece at hnum
      unfold Queued.isFeedState
      split at hnum
      next hmsg => rw [hmsg]
      next => exact absurd hnum (by simp)
    have hkept : q ∈ (s.removePiece n o).port.urgent.filter fun q => !q.isFeedState :=
      List.mem_filter.mpr ⟨hq, by simp [hnotState]⟩
    rw [hurgent] at hkept
    rcases List.mem_append.mp hkept with hold | hnew
    · simp [hnum] at hold
    · obtain ⟨hrun, w, hw, hwnum, hwgranted, hpos⟩ := hof q hnew
      exact ⟨hline ▸ hrun, w, hw, (Option.some.inj (hnum.symm.trans hwnum)).symm, hwgranted, htravel ▸ hpos⟩

/-! ### The lane of a removed record (R57) -/

/-- The entry to CONFIG leaves the lanes as R117 has them, but for dead tails. -/
theorem State.enterConfig_lane (s : State) (cause : ClosureCause) (l : Lane) :
    LaneEntry.Agrees (if (s.lane l).run = .ready then { s.lane l with run := .idle, request := none } else s.lane l)
      ((s.enterConfig cause).lane l) := by
  have hquiet := (State.closeCurrent_lotMoves s.inConfig cause).quiet (by simp [State.inConfig])
  rw [s.enterConfig_eq]
  have hlane := hquiet.lanes l
  rwa [show s.inConfig.lane l =
    if (s.lane l).run = .ready then { s.lane l with run := .idle, request := none } else s.lane l from
    PerLane.get_map _ _ _] at hlane

theorem State.enterConfig_order (s : State) (cause : ClosureCause) : (s.enterConfig cause).feed.order = [] :=
  (s.inConfig_closesIn cause).order

/-- A lane that is not READY is left by the test for an empty table as it is, and out of the request order if it was. -/
theorem State.tableEmptied_lane {s : State} {l : Lane} (h : (s.lane l).run ≠ .ready) :
    (s.lane l).Agrees (s.tableEmptied.lane l) ∧ (l ∉ s.feed.order → l ∉ s.tableEmptied.feed.order) := by
  unfold State.tableEmptied
  split
  · have hlane := s.enterConfig_lane .command l
    rw [if_neg h] at hlane
    exact ⟨hlane, fun _ => by simp [s.enterConfig_order]⟩
  · exact ⟨rfl, id⟩

theorem State.laneLeft_granted (o : Removal) (hgranted : r.state = .granted) (hanonymous : r.anonymous = false) :
    s.laneLeft r o = ((s.takenOut r o).reportRemoval r o).laneAfterRemoval r o := if_pos ⟨hgranted, hanonymous⟩

/-- The lane of a record removed in GRANTED as PURGED or RELEASE_MISSED is IDLE (R57, R115, R116). -/
theorem State.removePiece_idle (hr : s.findPiece n = some r) (hgranted : r.state = .granted) (hanonymous : r.anonymous = false)
    (ho : o = .purged ∨ o = .releaseMissed) : ((s.removePiece n o).lane r.lane).run = .idle ∧
      ((s.removePiece n o).lane r.lane).request = none ∧ r.lane ∉ (s.removePiece n o).feed.order := by
  have hidle : s.laneLeft r o = ((s.takenOut r o).reportRemoval r o).laneToIdle r.lane := by
    rw [State.laneLeft_granted o hgranted hanonymous]
    rcases ho with rfl | rfl <;> rfl
  have hrests : (s.laneLeft r o).feed.RestsAt r.lane := by
    rw [hidle, State.laneToIdle, State.restLane_idle]
    exact State.evaluate_rests (State.withoutRequest_rests _ _)
  obtain ⟨hrun, hrequest, horder⟩ := hrests
  obtain ⟨hlane, hout⟩ := State.tableEmptied_lane (s := s.laneLeft r o) (l := r.lane) (by
    rw [State.lane, hrun]
    simp)
  rw [State.removePiece_eq o hr]
  exact ⟨hlane.run.1.trans hrun, hlane.run.2.trans hrequest, hout horder⟩

/-! ### The removal that makes an evaluation, in RUN (R99) -/

/-- In RUN the evaluation that a removal quietly makes records no fault, and may grant again from the batch (R99, R121). -/
theorem State.removePiece_evaluated (hr : s.findPiece n = some r) (hrun : s.line.state = .run)
    (hquiet : s.removesQuietly r.batch = true) (hevaluated : r.evaluatedBy o) :
    (s.removePiece n o).faults = s.faults ∧
      ∀ (i : Nat) (b : BatchEntry), s.placeOf r.batch = some i → s.batchAt i = some b →
        ¬(b.state = .closing ∧ b.live - 1 = 0) → ∃ again : Nat, (s.removePiece n o).batchAt i =
          some { b.afterRemoval r.article r.doubt o with live := b.live - 1 + again } := by
  obtain ⟨hgranted, hanonymous, ho⟩ := hevaluated
  have hstill := State.takenOut_still o (r := r) (s := s) (.inr hquiet)
  obtain ⟨-, hfaults, hline, -⟩ := State.reported_still o hstill
  obtain ⟨hsettles, -⟩ := State.reportRemoval_still o hstill
  obtain ⟨-, -, hline', hfaults', -⟩ := s.takenOut_blocks r o
  let rested := ((s.takenOut r o).reportRemoval r o).restLane r.lane .idle
  have hidle : s.laneLeft r o = rested.evaluate := by
    rw [State.laneLeft_granted o hgranted hanonymous]
    rcases ho with rfl | rfl <;> rfl
  have honly := rested.evaluate_feedOnly
  have hsame : (s.laneLeft r o).tableEmptied = s.laneLeft r o := by
    refine State.tableEmptied_notEmpty (.inr ?_)
    rw [hidle, honly.line]
    show ((s.takenOut r o).reportRemoval r o).line.state ≠ .draining
    rw [hsettles.line, hline, hline', hrun]
    simp
  rw [State.removePiece_eq o hr, hsame, hidle]
  refine ⟨honly.faults.trans (hsettles.faults.trans (hfaults.trans hfaults')), fun i b hi hb hstays => ?_⟩
  obtain ⟨hplace, hat⟩ := s.takenOut_batch r o
  have hrested : rested.batchAt i = some (b.afterRemoval r.article r.doubt o) :=
    (hsettles.batchAt i).trans
      (State.reported_batchAt o hanonymous ((hplace _).trans hi) ((hat i).trans hb) hstays)
  obtain ⟨m, k, hgrants, -⟩ := rested.evaluate_grantsFrom
  obtain ⟨-, -, hlive, -⟩ := b.afterRemoval_keeps r.article r.doubt o
  rw [State.batchAt_granted hgrants, hrested, Option.map_some, ← hlive]
  by_cases hm : (b.afterRemoval r.article r.doubt o).number = m
  · exact ⟨k, by rw [if_pos (by simp [hm])]⟩
  · exact ⟨0, by rw [if_neg (by simp [hm])]; rfl⟩

/-! ### The last live piece of a CLOSING entry (R130) -/

/-- The report of the last live piece of a CLOSING entry takes it on to SENDING. -/
theorem State.reported_sendsEntry {i first : Nat} {b d : BatchEntry} (hanonymous : r.anonymous = false)
    (hi : s.placeOf r.batch = some i) (hb : s.batchAt i = some b) (hclosing : b.state = .closing) (hlive : b.live - 1 = 0)
    (hd : d = b.afterRemoval r.article r.doubt o) (hfirst : d.firstSlot first) :
    State.sendsEntry s (s.reported r o) i { d with state := .sending, nextSlot := some first } := by
  subst hd
  rw [State.reported, if_neg (by simp [hanonymous]), State.batchRemoved_eq _ _ _ hi hb, if_pos ⟨hclosing, hlive⟩]
  exact State.enterSending_sendsEntry (s := s.setPlace i (some (b.afterRemoval r.article r.doubt o)))
    ((State.setPlace_batchAt hb _ i).trans (if_pos rfl)) hfirst rfl

/-- What comes after an entry's way to SENDING without touching the batch list, or what the routine queue holds. -/
theorem State.sendsEntry_after {s t u : State} {i : Nat} {b : BatchEntry} (hplaces : u.batch.places = t.batch.places)
    (horder : u.batch.sendOrder = t.batch.sendOrder) {more : List Queued}
    (hroutine : u.port.routine = t.port.routine ++ more) (h : State.sendsEntry s t i b) : State.sendsEntry s u i b := by
  obtain ⟨hwaits, hbegins⟩ := h
  refine ⟨fun hwait => ?_, fun hempty hroom => ?_⟩
  · rw [State.batchAt_congr hplaces, horder]
    exact hwaits hwait
  · obtain ⟨new, hnew⟩ := hbegins hempty hroom
    exact ⟨new ++ more, by rw [hroutine, hnew, List.append_assoc]; rfl⟩

/-- What comes before it without touching the send order or the routine queue. -/
theorem State.sendsEntry_before {s t u : State} {i : Nat} {b : BatchEntry} (horder : t.batch.sendOrder = s.batch.sendOrder)
    (hroutine : t.port.routine = s.port.routine) (hreserved : t.port.reserved = s.port.reserved)
    (h : State.sendsEntry t u i b) : State.sendsEntry s u i b := by
  unfold State.sendsEntry State.freePlaces at *
  rwa [horder, hroutine, hreserved] at h

/-- So does the removal of the piece, in SUSPECT (R121, R130). -/
theorem State.removePiece_sendsEntry {i first : Nat} {b d : BatchEntry} (hstate : s.line.state = .suspect)
    (hr : s.findPiece n = some r) (hanonymous : r.anonymous = false) (hi : s.placeOf r.batch = some i)
    (hb : s.batchAt i = some b) (hclosing : b.state = .closing) (hlive : b.live - 1 = 0)
    (hd : d = b.afterRemoval r.article r.doubt o) (hfirst : d.firstSlot first) :
    State.sendsEntry s (s.removePiece n o) i { d with state := .sending, nextSlot := some first } := by
  have hrun : s.line.state ≠ .run := by simp [hstate]
  obtain ⟨hsettles, -⟩ := State.removePiece_settles (o := o) hr (.inl hrun) (.inl hrun) (.inl (by simp [hstate]))
  obtain ⟨hplace, hat⟩ := s.takenOut_batch r o
  obtain ⟨-, hbatch, -, -, hroutine, -⟩ := s.takenOut_blocks r o
  have hsends := State.reported_sendsEntry (s := s.takenOut r o) hanonymous ((hplace _).trans hi) ((hat i).trans hb)
    hclosing hlive hd hfirst
  have hreserved : (s.takenOut r o).port.reserved = s.port.reserved := by
    unfold State.takenOut State.withdrawRemoved
    split <;> rfl
  exact State.sendsEntry_after hsettles.places hsettles.sendOrder (more := [])
    (hsettles.routine.trans (List.append_nil _).symm)
    (State.sendsEntry_before (congrArg BatchCounter.sendOrder hbatch) hroutine hreserved hsends)

/-- The line and its state stay through a removal but for the entry to CONFIG (R54). -/
theorem State.removePiece_line (hr : s.findPiece n = some r) (hrun : s.line.state ≠ .run)
    (hstays : s.line.state ≠ .draining ∨ ∃ q ∈ s.pieces.records, q.number ≠ n) : (s.removePiece n o).line = s.line := by
  obtain ⟨-, hline, -⟩ := State.laneLeft_reportsIn hrun r o
  rw [(State.removePiece_settles (o := o) hr (.inl hrun) (.inl hrun) hstays).2, hline]

end

/-! ### PURGE of a piece (R59) -/

section

variable {s : State} {e : Envelope} {piece : Half} {r : Piece}

/-- PURGE as it is answered. -/
theorem exec_purge {t : State} {result : Byte} (hadmits : s.admitsRequest (commandFrame e 6 (bytes16 piece)) = true)
    (ht : s.performing.doPurge piece = t.answer 6 result) :
    exec (.purge e piece) s = .next (t.answered (commandFrame e 6 (bytes16 piece)) result [6]) := by
  have hhalf : halfAt (bytes16 piece) 0 = piece := by simpa using halfAt_bytes16 piece []
  have hdo : s.performing.doCommand 6 (bytes16 piece) = t.answer 6 result := by
    rw [State.doCommand, if_pos rfl, if_pos (show (bytes16 piece).length = 2 from rfl), hhalf, ht]
  exact exec_command (c := .purge e piece) hadmits hdo

theorem Piece.ticketed_iff : r.ticketed = true ↔ r.state = .atFolder ∧ (r.ticket = .sent ∨ r.ticket = .delivered) := by
  simp [Piece.ticketed]

theorem State.doPurge_none (h : piece = 0 ∨ s.findPiece piece = none) : s.doPurge piece = s.answer 6 resBadIndex := by
  unfold State.doPurge
  split
  · rfl
  next hzero => rw [h.resolve_left hzero]

theorem State.doPurge_found (hzero : piece ≠ 0) (hr : s.findPiece piece = some r) : s.doPurge piece =
    if r.ticketed then s.answer 6 resBusy else (s.removePiece piece .purged).answer 6 resDone := by
  rw [State.doPurge, if_neg hzero, hr]

theorem State.not_evaluated_of_notGranted {o : Removal} (h : s.line.state ≠ .run ∨ r.state ≠ .granted) :
    s.line.state ≠ .run ∨ ¬ r.evaluatedBy o :=
  h.imp id fun hnot hevaluated => hnot hevaluated.1

/-- An entry counted under a code keeps its live pieces. -/
theorem BatchEntry.count_live (b : BatchEntry) (code : Byte) (k : CountName) :
    { b.count code k with live := b.live } = b.count code k := by
  obtain ⟨-, -, hlive, -⟩ := b.count_keeps code k
  rw [← hlive]

end

/-- Settles O54: the removal of the piece with a place reserved for the REPLY. -/
theorem purgeTaken : Obligations.PurgeTaken := by
  refine ⟨fun e piece s hadmits hnone => ?none, fun e piece s r hadmits hzero hr hfolder hticket => ?busy,
    fun e piece s r hadmits hzero hr hnot => ?removed⟩
  case none =>
    rw [← State.performing_answered]
    exact exec_purge hadmits (State.doPurge_none (s := s.performing) hnone)
  case busy =>
    rw [← State.performing_answered]
    refine exec_purge hadmits ((State.doPurge_found (s := s.performing) hzero hr).trans (if_pos ?_))
    exact Piece.ticketed_iff.mpr ⟨hfolder, hticket⟩
  case removed =>
    have hr' : s.performing.findPiece piece = some r := hr
    have hticketed : ¬ r.ticketed = true := fun h => hnot (Piece.ticketed_iff.mp h)
    have hexec := exec_purge hadmits ((State.doPurge_found (s := s.performing) hzero hr').trans (if_neg hticketed))
    have honly := s.performing.removePiece_lineOnly piece .purged
    obtain ⟨hlost, hdischarged⟩ := State.removePiece_totals .purged hr'
    have hstill (h : s.line.state ≠ .run ∨ s.removesQuietly r.batch = true) : s.performing.removesStill r := h
    have hrecords (hrun : s.line.state ≠ .run) :=
      (State.removePiece_still (o := .purged) hr' (hstill (.inl hrun)) (.inl hrun)).1
    refine ⟨_, hexec, hlost, hdischarged, fun hrun => ?gone, State.answered_repliedLast _ _ _ _,
      fun hstate honly' => ?config, fun hgranted => ?withdrawn, fun hgranted hanonymous => ?lane, fun hrun => ?records,
      fun h => ⟨?faults, fun q hq hne => ?held, fun q hq => ?fresh, fun hanonymous hnotGranted => ?occupancy⟩,
      fun i b h hanonymous hi hb hstays => ?entry,
      fun i first b d u hstate hanonymous hi hb hclosing hlive hd hfirst hu => ?sending,
      honly.sameTracking_answered _ _ _, honly.sameOuter_answered _ _ _⟩
    case gone => exact State.findPiece_without (hrecords hrun)
    case config =>
      exact State.entersConfig_answered _ _ _ (State.removePiece_entersConfig (s := s.performing) hstate hr'
        (by simpa [State.performing, State.received, honly'] using State.findPiece_number hr') .purged)
    case withdrawn => exact State.removePiece_grantWithdrawn hr' hgranted (.inl rfl)
    case lane => exact State.removePiece_idle hr' hgranted hanonymous (.inl rfl)
    case records => exact hrecords hrun
    case faults =>
      by_cases hevaluated : s.line.state = .run ∧ r.evaluatedBy .purged
      · exact (State.removePiece_evaluated hr' hevaluated.1 (h.resolve_left fun hrun => hrun hevaluated.1) hevaluated.2).1
      · exact (State.removePiece_still hr' (hstill h) (not_and_or.mp hevaluated)).2.1
    case held => exact State.removePiece_held .purged hr' hq hne
    case fresh =>
      by_cases hevaluated : s.line.state = .run ∧ r.evaluatedBy .purged
      · exact (State.removePiece_fresh .purged hr' hq).imp id fun ⟨hrun, hgranted⟩ => ⟨hrun, hevaluated.2.1, hgranted⟩
      · have hq' : q ∈ (s.performing.removePiece piece .purged).pieces.records := hq
        rw [(State.removePiece_still hr' (hstill h) (not_and_or.mp hevaluated)).1] at hq'
        exact .inl ((List.mem_filter.mp hq').imp id fun h => by simpa using h)
    case occupancy =>
      have hocc := (State.removePiece_still (o := .purged) hr' (hstill h)
        (State.not_evaluated_of_notGranted hnotGranted)).2.2
      rwa [if_neg (by simp [hanonymous])] at hocc
    case entry =>
      have hquiet : s.line.state ≠ .run ∨ s.removesQuietly r.batch = true := by
        rcases h with h | ⟨-, h⟩ | ⟨h, -⟩
        · exact .inl (by simp [h])
        · exact .inr h
        · exact .inl (by simp [h])
      have hother : s.line.state ≠ .draining ∨ ∃ q ∈ s.pieces.records, q.number ≠ piece := by
        rcases h with h | ⟨h, -⟩ | ⟨-, h⟩
        · exact .inl (by simp [h])
        · exact .inl (by simp [h])
        · exact .inr h
      by_cases hevaluated : s.line.state = .run ∧ r.evaluatedBy .purged
      · obtain ⟨again, hagain⟩ := (State.removePiece_evaluated hr' hevaluated.1
          (hquiet.resolve_left fun hrun => hrun hevaluated.1) hevaluated.2).2 i b hi hb hstays
        refine ⟨again, fun hno => ?_, hagain⟩
        rcases hno with hrun | hgranted
        · exact absurd hevaluated.1 hrun
        · exact absurd hevaluated.2.1 hgranted
      · refine ⟨0, fun _ => rfl, ?_⟩
        have hat := State.removePiece_batchAt hr' (hstill hquiet) (not_and_or.mp hevaluated) hother hanonymous hi hb hstays
        exact hat.trans (congrArg some (BatchEntry.count_live _ _ _).symm)
    case sending =>
      subst hu
      exact State.sendsEntry_after (s := s.performing) (t := s.performing.removePiece piece .purged) rfl rfl
        (State.answered_routine _ _ _ _)
        (State.removePiece_sendsEntry (s := s.performing) (o := .purged) hstate hr' hanonymous hi hb hclosing hlive hd hfirst)

/-! ### PURGE ALL (R60) -/

/-- The removals of PURGE ALL, one after another. -/
def State.purgeEach (s : State) (numbers : List Half) : State := numbers.foldl (fun u n => u.removePiece n .purged) s

section

variable {s : State} {numbers : List Half}

theorem State.purgeEach_cons (s : State) (n : Half) (rest : List Half) :
    s.purgeEach (n :: rest) = (s.removePiece n .purged).purgeEach rest := rfl

theorem State.purgeEach_lineOnly (s : State) (numbers : List Half) : s.LineOnly (s.purgeEach numbers) :=
  foldl_keeps State.LineOnly.rfl' State.LineOnly.trans (fun u n => u.removePiece_lineOnly n .purged) numbers s

theorem State.removePiece_none {n : Half} (o : Removal) (h : s.findPiece n = none) : s.removePiece n o = s := by
  simp only [State.removePiece, h]

/-- A removal leaves a line that is not in RUN out of it, and every record but those of its number. -/
theorem State.removePiece_purges (hrun : s.line.state ≠ .run) (n : Half) :
    (s.removePiece n .purged).line.state ≠ .run ∧
      (s.removePiece n .purged).pieces.records = s.pieces.records.filter fun q => q.number != n := by
  cases hr : s.findPiece n with
  | none =>
    rw [State.removePiece_none .purged hr]
    refine ⟨hrun, (List.filter_eq_self.mpr fun q hq => ?_).symm⟩
    simpa using List.find?_eq_none.mp hr q hq
  | some r =>
    obtain ⟨-, -, hline, -⟩ := s.takenOut_blocks r .purged
    exact ⟨fun h => hrun (hline ▸ (State.removePiece_grown .purged hr).run h),
      (State.removePiece_still hr (.inl hrun) (.inl hrun)).1⟩

theorem State.purgeEach_records (hrun : s.line.state ≠ .run) (numbers : List Half) :
    (s.purgeEach numbers).pieces.records = s.pieces.records.filter fun q => !numbers.contains q.number := by
  induction numbers generalizing s with
  | nil => exact (List.filter_eq_self.mpr fun _ _ => rfl).symm
  | cons n rest ih =>
    obtain ⟨hrun', hrecords⟩ := State.removePiece_purges hrun n
    rw [State.purgeEach_cons, ih hrun', hrecords, List.filter_filter]
    refine List.filter_congr fun q _ => ?_
    simp [Bool.and_comm, bne, beq_eq_decide]

/-- Each removal of a record that the table still holds counts one lost (R55). -/
theorem State.purgeEach_lost (hrun : s.line.state ≠ .run) (hnodup : numbers.Nodup)
    (hheld : ∀ n ∈ numbers, (s.findPiece n).isSome = true) :
    (s.purgeEach numbers).pieces.lost = s.pieces.lost + BitVec.ofNat 32 numbers.length := by
  induction numbers generalizing s with
  | nil => exact (BitVec.add_zero _).symm
  | cons n rest ih =>
    obtain ⟨hrun', hrecords⟩ := State.removePiece_purges hrun n
    obtain ⟨hnot, hrest⟩ := List.nodup_cons.mp hnodup
    obtain ⟨r, hr⟩ := Option.isSome_iff_exists.mp (hheld n (by simp))
    have hlost : (s.removePiece n .purged).pieces.lost = s.pieces.lost + 1 := (State.removePiece_totals .purged hr).1
    have hstill : ∀ m ∈ rest, ((s.removePiece n .purged).findPiece m).isSome = true := fun m hm => ?held
    case held =>
      obtain ⟨q, hq⟩ := Option.isSome_iff_exists.mp (hheld m (List.mem_cons_of_mem _ hm))
      have hnum : q.number = m := State.findPiece_number hq
      refine List.find?_isSome.mpr ⟨q, ?_, by simp [hnum]⟩
      rw [hrecords]
      refine List.mem_filter.mpr ⟨List.mem_of_find?_eq_some hq, ?_⟩
      rw [hnum, bne_iff_ne]
      rintro rfl
      exact hnot hm
    rw [State.purgeEach_cons, ih hrun' hrest hstill, hlost, List.length_cons, BitVec.ofNat_add, BitVec.add_assoc,
      BitVec.add_comm 1]
    rfl

theorem State.purgeEach_suspect (hstate : s.line.state = .suspect) (numbers : List Half) :
    (s.purgeEach numbers).line.state = .suspect := by
  induction numbers generalizing s with
  | nil => exact hstate
  | cons n rest ih =>
    rw [State.purgeEach_cons]
    refine ih ?_
    cases hr : s.findPiece n with
    | none => rwa [State.removePiece_none .purged hr]
    | some r => rw [State.removePiece_line hr (by simp [hstate]) (.inl (by simp [hstate])), hstate]

theorem State.purgeEach_empty (hempty : s.pieces.records = []) (numbers : List Half) : s.purgeEach numbers = s := by
  induction numbers with
  | nil => rfl
  | cons n rest ih =>
    rw [State.purgeEach_cons, State.removePiece_none .purged (by simp [State.findPiece, hempty])]
    exact ih

/-- The removals that empty the table of a DRAINING line take it to CONFIG (R128, R153). -/
theorem State.purgeEach_entersConfig (hstate : s.line.state = .draining) (hrecords : s.pieces.records ≠ [])
    (hall : ∀ q ∈ s.pieces.records, q.number ∈ numbers) : State.entersConfig s (s.purgeEach numbers) .command := by
  have hrun : s.line.state ≠ .run := by simp [hstate]
  induction numbers generalizing s with
  | nil => exact absurd (List.eq_nil_iff_forall_not_mem.mpr fun q hq => by simpa using hall q hq) hrecords
  | cons n rest ih =>
    obtain ⟨-, hleft⟩ := State.removePiece_purges hrun n
    rw [State.purgeEach_cons]
    cases hr : s.findPiece n with
    | none =>
      rw [State.removePiece_none .purged hr]
      refine ih hstate hrecords (fun q hq => (List.mem_cons.mp (hall q hq)).resolve_left ?_) hrun
      simpa using List.find?_eq_none.mp hr q hq
    | some r =>
      by_cases hlast : ∀ q ∈ s.pieces.records, q.number = n
      · have hempty : (s.removePiece n .purged).pieces.records = [] := by
          rw [hleft, List.filter_eq_nil_iff]
          exact fun q hq => by simp [hlast q hq]
        rw [State.purgeEach_empty hempty]
        exact State.removePiece_entersConfig hstate hr hlast .purged
      · have hother : ∃ q ∈ s.pieces.records, q.number ≠ n := by simpa using hlast
        have hsame := (State.removePiece_settles (o := .purged) hr (.inl hrun) (.inl hrun) (.inr hother)).2
        have hline := State.removePiece_line (o := .purged) hr hrun (.inr hother)
        refine State.entersConfig_drains (hsame ▸ State.laneLeft_drains hrun r .purged) (ih (by rw [hline, hstate]) ?_
          (fun q hq => ?_) (by rw [hline]; exact hrun))
        · obtain ⟨q, hq, hne⟩ := hother
          exact List.ne_nil_of_mem (hleft ▸ List.mem_filter.mpr ⟨hq, by simpa using hne⟩)
        · rw [hleft] at hq
          obtain ⟨hq, hne⟩ := List.mem_filter.mp hq
          exact (List.mem_cons.mp (hall q hq)).resolve_left (by simpa using hne)

theorem State.purgeEvery_eq (s : State) : s.purgeEvery = { s.purgeEach (s.pieces.records.map fun r => r.number) with
    folder := FolderHandoff.powerOn
    port := { (s.purgeEach (s.pieces.records.map fun r => r.number)).port with
      urgent := (s.purgeEach (s.pieces.records.map fun r => r.number)).port.urgent.filter fun q =>
        q.grantPiece.isNone && q.ticketPiece.isNone } } := rfl

end

/-- Settles O55: the removals of every record, the folder, and the frames withdrawn. -/
theorem purgeAllTaken : Obligations.PurgeAllTaken := by
  refine ⟨fun e s hadmits hstate => ?purged, fun e s hadmits hstate => ?run, fun e s hadmits hstate => ?config⟩
  case purged =>
    let numbers := s.pieces.records.map fun r => r.number
    have hrun : s.performing.line.state ≠ .run := by
      show s.line.state ≠ .run
      rcases hstate with h | h <;> simp [h]
    have hdo : s.performing.doCommand 7 [] = s.performing.purgeEvery.answer 7 resDone := by
      show s.performing.doPurgeAll = _
      unfold State.doPurgeAll
      rw [show s.performing.line = s.line from rfl]
      rcases hstate with h | h <;> rw [h]
    have hexec := exec_command (c := .purgeAll e) hadmits hdo
    have honly := s.performing.purgeEach_lineOnly numbers
    have henters (hdraining : s.line.state = .draining) (hrecords : s.pieces.records ≠ []) :
        State.entersConfig s.performing (s.performing.purgeEach numbers) .command :=
      State.purgeEach_entersConfig (s := s.performing) hdraining hrecords fun q hq => List.mem_map_of_mem hq
    rw [State.purgeEvery_eq] at hexec
    refine ⟨_, hexec, ?records, rfl, fun q hq => ?urgent, fun hsound => ?lost,
      fun hsuspect => State.purgeEach_suspect (s := s.performing) hsuspect numbers,
      fun hdraining hrecords => (henters hdraining hrecords).1, fun hdraining hrecords => ?enters,
      State.answered_repliedLast _ _ _ _, honly.travel, honly.eyes, honly.matcher, honly.pins, honly.mgmt, honly.freeIndex,
      honly.pending, (congrArg RingPort.own honly.port :)⟩
    case records =>
      show (s.performing.purgeEach numbers).pieces.records = []
      rw [State.purgeEach_records hrun, List.filter_eq_nil_iff]
      intro q hq
      simpa [numbers] using ⟨q, hq, rfl⟩
    case urgent =>
      simpa using (List.mem_filter.mp hq).2
    case lost =>
      have hlost := State.purgeEach_lost (s := s.performing) (numbers := numbers) hrun
        (State.recordsSound_iff.mp hsound).2 fun n hn => by
          obtain ⟨q, hq, hnum⟩ := List.mem_map.mp hn
          exact List.find?_isSome.mpr ⟨q, hq, by simp [hnum]⟩
      rwa [List.length_map] at hlost
    case enters =>
      exact State.entersConfig_answered _ _ _ (State.entersConfig_after (t := s.performing.purgeEach numbers) rfl rfl rfl rfl
        (henters hdraining hrecords))
  case run =>
    have hdo : s.performing.doCommand 7 [] = s.performing.answer 7 resRefusedMode := by
      show s.performing.doPurgeAll = _
      unfold State.doPurgeAll
      rw [show s.performing.line = s.line from rfl, hstate]
    exact exec_command (c := .purgeAll e) hadmits hdo
  case config =>
    have hdo : s.performing.doCommand 7 [] = s.performing.answer 7 resDone := by
      show s.performing.doPurgeAll = _
      unfold State.doPurgeAll
      rw [show s.performing.line = s.line from rfl, hstate]
    exact exec_command (c := .purgeAll e) hadmits hdo

end Sys2Proof.Machine

/-! SUPPORT. Removals that a frame of the ring brings: what comes before one, the slot it frees, the lane it leaves, and the
statements of the returns and of SLOT_FREE (R111 to R114, R137 to R145). -/

namespace Sys2Proof.Machine

open Sys2Proof

/-! ### Faults recorded beside a removal (R157) -/

/-- A fault recorded after what leaves the faults, the travel state and whether the line is SUSPECT is the one that would
have been recorded before. -/
theorem State.recorded_after {s u t : State} {f : Raised} (hfaults : u.faults = s.faults) (htravel : u.travel = s.travel)
    (hsuspect : (u.line.state == .suspect) = (s.line.state == .suspect)) (h : State.recorded u t f) : State.recorded s t f := by
  have hsame : u.faultRecord f = s.faultRecord f := by
    simp only [State.faultRecord, htravel, hsuspect]
  unfold State.recorded at *
  rwa [hfaults, hsame] at h

theorem State.recorded_faults {s t u : State} {f : Raised} (hfaults : u.faults = t.faults) (h : State.recorded s t f) :
    State.recorded s u f := by
  unfold State.recorded at *
  rwa [hfaults]

/-- The routine frames that a recorded fault queues are no TALLY. -/
theorem State.logFault_alerts (s : State) (f : Raised) : ∃ new, (s.logFault f).port.routine = s.port.routine ++ new ∧
    ∀ q ∈ new, ∀ k : TallyReport, q.msg ≠ .tally k := by
  have hqueue (t : State) : ∃ new, t.queueAlert.port.routine = t.port.routine ++ new ∧
      ∀ q ∈ new, ∀ k : TallyReport, q.msg ≠ .tally k := by
    unfold State.queueAlert
    split
    · exact ⟨[], (List.append_nil _).symm, by simp⟩
    · split
      · exact ⟨[], (List.append_nil _).symm, by simp⟩
      · exact ⟨_, rfl, by simp⟩
  unfold State.logFault State.offerAlert
  split
  · exact ⟨[], (List.append_nil _).symm, by simp⟩
  · split
    · exact hqueue _
    · exact ⟨[], (List.append_nil _).symm, by simp⟩
    · exact ⟨[], (List.append_nil _).symm, by simp⟩

/-- An entry to CONFIG with a fault recorded after it. -/
theorem State.entersConfig_logFault {s t : State} {cause : ClosureCause} (f : Raised) (h : State.entersConfig s t cause) :
    State.entersConfig s (t.logFault f) cause := by
  obtain ⟨-, hfeed, hbatch, -⟩ := t.logFault_blocks f
  have hline := (t.logFault_lotsOnly f).line
  obtain ⟨more, hmore, hnotTally⟩ := t.logFault_alerts f
  obtain ⟨hconfig, hnone, htfault, horder, hready, hhold, hblock, hcloses⟩ := h
  refine ⟨by rwa [hline], by rwa [hline], by rwa [hline], by rwa [hfeed], fun l => ?_, by rwa [hfeed], by rwa [hbatch],
    fun hsound => ?_⟩
  · rw [State.lane, hfeed]
    exact hready l
  · obtain ⟨hcurrent, new, hnew, hclosed⟩ := hcloses hsound
    refine ⟨?_, new ++ more, by rw [hmore, hnew, List.append_assoc], fun i b hi hb => ?_⟩
    · rw [State.currentBatch, hbatch]
      exact hcurrent
    · obtain ⟨hidle, hentry, htally⟩ := hclosed i b hi hb
      refine ⟨by rwa [hbatch], fun c hc => hentry c ?_, fun q hq k hk hnum => ?_⟩
      · rwa [State.batchAt_congr (congrArg BatchCounter.places hbatch)] at hc
      · rcases List.mem_append.mp hq with hq | hq
        · exact htally q hq k hk hnum
        · exact absurd hk (hnotTally q hq k)

/-- A removal does not move the line into or out of SUSPECT. -/
theorem State.removePiece_isSuspect (s : State) (n : Half) (o : Removal) :
    ((s.removePiece n o).line.state == .suspect) = (s.line.state == .suspect) := by
  cases hr : s.findPiece n with
  | none => rw [State.removePiece_none o hr]
  | some r =>
    have hlots : (s.takenOut r o).LotsOnly (s.laneLeft r o) := by
      unfold State.laneLeft
      split
      · exact (State.reportRemoval_lotsOnly _ _ _).trans (State.laneAfterRemoval_lotsOnly _ _ _)
      · exact State.reportRemoval_lotsOnly _ _ _
    obtain ⟨-, -, hline, -⟩ := s.takenOut_blocks r o
    have hleft : (s.laneLeft r o).line = s.line := hlots.line.trans hline
    rw [State.removePiece_eq o hr, State.tableEmptied]
    split
    next hends =>
      rw [hleft, Bool.and_eq_true, beq_iff_eq] at hends
      have hdraining : s.line.state = .draining := hends.2
      rw [State.enterConfig_line, hdraining]
      rfl
    next => rw [hleft]

/-! ### What comes before a removal -/

/-- Between s and u a record was made ready for its removal: no other was touched, nor the line, the lanes or the batch
list, and no TALLY was queued. -/
structure State.Readies (s u : State) (n : Half) : Prop where
  line : u.line = s.line
  feed : u.feed = s.feed
  batch : u.batch = s.batch
  totals : u.pieces.discharged = s.pieces.discharged ∧ u.pieces.lost = s.pieces.lost
  others : u.pieces.records.filter (fun q => q.number != n) = s.pieces.records.filter fun q => q.number != n
  routine : ∃ new, u.port.routine = s.port.routine ++ new ∧ ∀ q ∈ new, ∀ k : TallyReport, q.msg ≠ .tally k

theorem State.Readies.of_same {s u : State} {n : Half} (hline : u.line = s.line) (hfeed : u.feed = s.feed)
    (hbatch : u.batch = s.batch) (hpieces : u.pieces = s.pieces) (hroutine : u.port.routine = s.port.routine) :
    s.Readies u n :=
  ⟨hline, hfeed, hbatch, by rw [hpieces]; exact ⟨rfl, rfl⟩, by rw [hpieces], [], by rw [hroutine, List.append_nil], by simp⟩

theorem State.Readies.trans {s t u : State} {n : Half} (h : s.Readies t n) (k : t.Readies u n) : s.Readies u n := by
  obtain ⟨first, hfirst, hof⟩ := h.routine
  obtain ⟨second, hsecond, hof'⟩ := k.routine
  refine ⟨k.line.trans h.line, k.feed.trans h.feed, k.batch.trans h.batch,
    ⟨k.totals.1.trans h.totals.1, k.totals.2.trans h.totals.2⟩, k.others.trans h.others, first ++ second,
    by rw [hsecond, hfirst, List.append_assoc], fun q hq => ?_⟩
  exact (List.mem_append.mp hq).elim (hof q) (hof' q)

theorem State.logFault_readies (s : State) (f : Raised) (n : Half) : s.Readies (s.logFault f) n := by
  obtain ⟨hpieces, hfeed, hbatch, -⟩ := s.logFault_blocks f
  exact ⟨(s.logFault_lotsOnly f).line, hfeed, hbatch, by rw [hpieces]; exact ⟨rfl, rfl⟩, by rw [hpieces],
    s.logFault_alerts f⟩

theorem State.onPiece_readies (s : State) (n : Half) {f : Piece → Piece} (hf : ∀ q, (f q).number = q.number) :
    s.Readies (s.onPiece n f) n := by
  refine ⟨rfl, rfl, rfl, ⟨rfl, rfl⟩, ?_, [], (List.append_nil _).symm, by simp⟩
  refine filter_map_fixed (fun q => ?_) (fun q hq => if_neg (by simpa using hq)) _
  split
  · rw [hf]
  · rfl

section

variable {s u : State} {n : Half} {r : Piece} {o : Removal}

theorem State.Readies.removesStill (h : s.Readies u n) (hstill : s.removesStill r) : u.removesStill r := by
  unfold State.removesStill State.removesQuietly State.currentPlace State.placeOf State.batchAt at *
  rwa [h.line, h.feed, h.batch]

theorem State.Readies.removed (h : s.Readies u n) (hr : u.findPiece n = some r) (hstill : s.removesStill r)
    (ho : s.line.state ≠ .run ∨ ¬ r.evaluatedBy o) :
    (u.removePiece n o).pieces.records = s.pieces.records.filter (fun q => q.number != n) ∧
      (u.removePiece n o).faults = u.faults ∧
      (u.removePiece n o).feed.occupancy = (if r.anonymous then s.feed.occupancy else s.feed.occupancy - 1) := by
  obtain ⟨hrecords, hfaults, hoccupancy⟩ := State.removePiece_still (o := o) hr (h.removesStill hstill) (by rwa [h.line])
  exact ⟨hrecords.trans h.others, hfaults, by rw [hoccupancy, h.feed]⟩

theorem State.Readies.totalled (h : s.Readies u n) (o : Removal) (hr : u.findPiece n = some r) :
    (u.removePiece n o).pieces.lost = (s.pieces.countRemoval o).lost ∧
      (u.removePiece n o).pieces.discharged = (s.pieces.countRemoval o).discharged := by
  obtain ⟨hlost, hdischarged⟩ := State.removePiece_totals o hr
  rw [hlost, hdischarged]
  cases o <;> simp [PieceTable.countRemoval, h.totals]

theorem State.Readies.other (h : s.Readies u n) :
    (∃ q ∈ u.pieces.records, q.number ≠ n) ↔ ∃ q ∈ s.pieces.records, q.number ≠ n := by
  have hiff (v : State) : (∃ q ∈ v.pieces.records, q.number ≠ n) ↔
      (v.pieces.records.filter fun q => q.number != n) ≠ [] := by
    rw [Ne, List.filter_eq_nil_iff]
    simp
  rw [hiff, hiff, h.others]

theorem State.Readies.batchAt (h : s.Readies u n) (hr : u.findPiece n = some r) (hstill : s.removesStill r)
    (ho : s.line.state ≠ .run ∨ ¬ r.evaluatedBy o)
    (hstays : s.line.state ≠ .draining ∨ ∃ q ∈ s.pieces.records, q.number ≠ n) (hanonymous : r.anonymous = false)
    {i : Nat} {b : BatchEntry} (hi : s.placeOf r.batch = some i) (hb : s.batchAt i = some b)
    (hlive : ¬(b.state = .closing ∧ b.live - 1 = 0)) :
    (u.removePiece n o).batchAt i = some (b.afterRemoval r.article r.doubt o) :=
  State.removePiece_batchAt hr (h.removesStill hstill) (by rwa [h.line]) (by rwa [h.line, h.other]) hanonymous
    (by unfold State.placeOf at *; rwa [h.batch]) ((State.batchAt_congr (congrArg BatchCounter.places h.batch) i).trans hb) hlive

theorem State.Readies.entersConfig (h : s.Readies u n) (o : Removal) (hstate : s.line.state = .draining)
    (hr : u.findPiece n = some r) (hlast : ∀ q ∈ s.pieces.records, q.number = n) :
    State.entersConfig s (u.removePiece n o) .command := by
  refine State.entersConfig_before h.batch h.routine
    (State.removePiece_entersConfig (by rw [h.line, hstate]) hr (fun q hq => ?_) o)
  by_contra hne
  obtain ⟨w, hw, hne'⟩ := h.other.mp ⟨q, hq, hne⟩
  exact hne' (hlast w hw)

end

/-! ### The slot that a removal frees (R138, R139) -/

theorem find_number_filter {l : List Piece} {m n : Half} (hne : m ≠ n) :
    (l.filter fun q => q.number != n).find? (fun q => q.number == m) = l.find? fun q => q.number == m := by
  rw [List.find?_filter]
  congr 1
  funext q
  by_cases hq : q.number = m
  · simp [hq, hne]
  · simp [hq]

section

variable {s u : State} {gone : Half} {r : Piece} {c : Lane} {n : SlotName}

theorem State.Readies.pendingOf (h : s.Readies u gone) (o : Removal) (hr : u.findPiece gone = some r) (c : Lane) :
    (u.removePiece gone o).pendingOf c =
      (s.pendingOf c).filter fun q => q.number != gone := by
  rw [(State.removePiece_grown o hr).pending, State.pendingOf, State.takenOut_records, State.findPiece_number hr, h.others,
    State.pendingOf, List.filter_filter, List.filter_filter]
  exact List.filter_congr fun q _ => Bool.and_comm _ _

theorem State.Readies.findPiece (h : s.Readies u gone) (o : Removal) (hr : u.findPiece gone = some r) {w : Piece} {m : Half}
    (hne : m ≠ gone) (hw : s.findPiece m = some w) : (u.removePiece gone o).findPiece m = some w := by
  refine (State.removePiece_grown o hr).finds m w ?_
  rw [State.findPiece, State.takenOut_records, State.findPiece_number hr, h.others, find_number_filter hne]
  exact hw

/-- The slot of a removed record is FREE with no pending record of the channel, and otherwise serves the oldest. -/
theorem State.Readies.servesSlot (h : s.Readies u gone) (o : Removal) (hr : u.findPiece gone = some r)
    (hmgmt : u.mgmt = s.mgmt) (hfree : (u.channel c).owner n = none) :
    State.servesSlot s ((u.removePiece gone o).servePending c n) c n gone := by
  have honly := u.removePiece_lineOnly gone o
  have hpending := h.pendingOf o hr c
  have hchannel : ((u.removePiece gone o).channel c).owner n = none := by
    rw [State.channel, honly.folder]
    exact hfree
  refine ⟨fun hnone => ?_, fun w hw hne hfind => ?_⟩
  · have hempty : s.pendingOf c = [] := by
      rw [State.pendingOf, List.filter_eq_nil_iff]
      exact fun q hq => by simpa using hnone q hq
    rw [State.servePending, hpending, hempty]
    exact hchannel
  · obtain ⟨rest, hrest⟩ : ∃ rest, s.pendingOf c = w :: rest := List.head?_eq_some_iff.mp hw
    have hserves : (u.removePiece gone o).servePending c n = (u.removePiece gone o).assignSlot c n w := by
      rw [State.servePending, hpending, hrest, List.filter_cons_of_pos (by simpa using hne)]
    rw [hserves, State.assignSlot_channel_self, State.assignSlot_findPiece, h.findPiece o hr hne hfind,
      State.assignSlot_urgent, honly.mgmt, hmgmt]
    exact ⟨by simp, rfl, ⟨_, rfl, rfl, rfl, rfl⟩, _, List.getLast?_concat .., rfl, rfl⟩

end

end Sys2Proof.Machine

/-! SUPPORT. The statements of the returns of a GRANT and a TICKET and of the deadlines (R111 to R114, R142, R143). -/

namespace Sys2Proof.Machine

open Sys2Proof

/-! ### The lane of a GRANT that comes home (R112, R113) -/

/-- A lane is READY with this request, or in RUN it was granted. -/
def State.readyOrGranted (s : State) (l : Lane) (q : LaneRequest) : Prop :=
  ((s.lane l).run = .ready ∧ (s.lane l).request = some q) ∨ (s.line.state = .run ∧ (s.lane l).run = .granted)

theorem State.readyOrGranted_congr {s t : State} {l : Lane} {q : LaneRequest} (h : s.readyOrGranted l q)
    (hlane : (t.lane l).run = (s.lane l).run ∧ (t.lane l).request = (s.lane l).request) (hline : t.line = s.line) :
    t.readyOrGranted l q := by
  unfold State.readyOrGranted
  rwa [hlane.1, hlane.2, hline]

theorem State.LotMove.readyOrGranted {a b : State} {l : Lane} {q : LaneRequest} (h : a.LotMove b)
    (ha : a.readyOrGranted l q) : b.readyOrGranted l q := by
  have hline := h.line_eq
  cases h with
  | grant k r hrun _ hqualifies hroom =>
    have hlane : (a.grant k r).lane l = _ := (State.grant_lane hroom l).trans (State.granting_lane l)
    by_cases hl : l = k
    · refine .inr ⟨hline ▸ State.qualifies_run hqualifies, ?_⟩
      rw [hlane, if_pos hl]
    · exact ha.imp (fun hready => by rw [hlane]; simpa [hl] using hready) fun hgranted => by
        rw [hlane, hline]; simpa [hl] using hgranted
  | dropTails => exact State.readyOrGranted_congr ha ((a.dropTails_quiet).lanes l).run rfl
  | testHold => exact State.readyOrGranted_congr ha ((a.testHold_quiet).lanes l).run hline
  | block c => exact State.readyOrGranted_congr ha ((State.refreshFeed_quiet { a with batch := c }).lanes l).run hline
  | _ => exact ha

theorem State.readyFront_lane (s : State) (r : Piece) : (((s.laneBack r).joinFront r.lane).lane r.lane).run = .ready ∧
    (((s.laneBack r).joinFront r.lane).lane r.lane).request = some r.request := by
  have hlane : ((s.laneBack r).joinFront r.lane).lane r.lane = (s.laneBack r).lane r.lane := rfl
  rw [hlane, State.laneBack, State.onLane_lane_self]
  exact ⟨rfl, rfl⟩

section

variable {s : State} {n : Half} {r : Piece}

/-- A lane whose GRANT came home busy is READY with the record's request, unless the report of its order granted it in
RUN or the line left DRAINING (R112). -/
theorem State.removePiece_busy (hr : s.findPiece n = some r) (hgranted : r.state = .granted) (hanonymous : r.anonymous = false) :
    let t := s.removePiece n .grantBusy
    ((t.lane r.lane).run = .ready ∧ (t.lane r.lane).request = some r.request) ∨
      (s.line.state = .run ∧ (t.lane r.lane).run = .granted) ∨
      (s.line.state = .draining ∧ t.line.state = .config ∧ (t.lane r.lane).run = .idle) := by
  obtain ⟨-, -, hline, -⟩ := s.takenOut_blocks r .grantBusy
  let reported := (s.takenOut r .grantBusy).reportRemoval r .grantBusy
  have hreported : reported.line = s.line := (State.reportRemoval_lotsOnly _ _ _).line.trans hline
  have hleft : s.laneLeft r .grantBusy = ((reported.laneBack r).joinFront r.lane).orderChanged :=
    State.laneLeft_granted .grantBusy hgranted hanonymous
  have hready : ((reported.laneBack r).joinFront r.lane).readyOrGranted r.lane r.request := by
    exact .inl (reported.readyFront_lane r)
  have hafter : (s.laneLeft r .grantBusy).readyOrGranted r.lane r.request := by
    rw [hleft]
    exact (State.orderChanged_lotMoves _).keeps (fun h k => h.readyOrGranted k) hready
  have hline' : (s.laneLeft r .grantBusy).line = s.line := by
    rw [hleft, (State.orderChanged_lotsOnly _).line]
    exact hreported
  rw [State.removePiece_eq .grantBusy hr, State.tableEmptied]
  split
  next hends =>
    rw [hline', Bool.and_eq_true, beq_iff_eq] at hends
    refine .inr (.inr ⟨hends.2, by rw [State.enterConfig_line], ?_⟩)
    rw [State.enterConfig_run]
    rcases hafter with ⟨hrun, -⟩ | ⟨hrun, -⟩
    · rw [if_pos hrun]
    · rw [hline', hends.2] at hrun
      exact absurd hrun (by simp)
  next =>
    rcases hafter with hready | ⟨hrun, hgranted⟩
    · exact .inl hready
    · exact .inr (.inl ⟨hline' ▸ hrun, hgranted⟩)

/-- Where the removal sets nothing else going the lane is READY with the record's request at the front (R95, R112). -/
theorem State.removePiece_busy_still (hr : s.findPiece n = some r) (hgranted : r.state = .granted)
    (hanonymous : r.anonymous = false) (hstill : s.removesStill r) (hstays : s.line.state ≠ .draining) :
    ((s.removePiece n .grantBusy).lane r.lane).run = .ready ∧
      ((s.removePiece n .grantBusy).lane r.lane).request = some r.request ∧
      (s.removePiece n .grantBusy).feed.order = r.lane :: s.feed.order.filter (· != r.lane) := by
  have hnot : ¬ r.evaluatedBy .grantBusy := fun h => by simp [Piece.evaluatedBy] at h
  obtain ⟨-, hleft⟩ := State.removePiece_settles (o := .grantBusy) hr hstill (.inr hnot) (.inl hstays)
  have htaken := State.takenOut_still .grantBusy hstill
  obtain ⟨-, -, hline, -, hcurrent⟩ := State.reported_still .grantBusy htaken
  obtain ⟨hsettles, -, horder, -⟩ := State.reportRemoval_still .grantBusy htaken
  obtain ⟨hfeed, -, hline', -⟩ := s.takenOut_blocks r .grantBusy
  let reported := (s.takenOut r .grantBusy).reportRemoval r .grantBusy
  let back := (reported.laneBack r).joinFront r.lane
  have hchoice : back.line.state ≠ .run ∨ back.currentPlace.isSome = true := by
    have hback : back.line = s.line := hsettles.line.trans (hline.trans hline')
    by_cases hrun : s.line.state = .run
    · refine .inr ?_
      show reported.currentPlace.isSome = true
      rw [hsettles.currentPlace]
      exact hcurrent (hline' ▸ hrun)
    · exact .inl (hback ▸ hrun)
  have hsame : s.removePiece n .grantBusy = back := by
    rw [hleft, State.laneLeft_granted .grantBusy hgranted hanonymous]
    show back.orderChanged = back
    rw [State.orderChanged, if_neg (by simp [back, State.joinFront]), State.choose_of_noChoice hchoice]
  obtain ⟨hready, hrequest⟩ := reported.readyFront_lane r
  rw [hsame]
  refine ⟨hready, hrequest, ?_⟩
  show r.lane :: reported.feed.order.filter (· != r.lane) = _
  rw [horder, hfeed]

/-- A lane whose GRANT was not taken is OFFLINE (R113). -/
theorem State.removePiece_absent (hr : s.findPiece n = some r) (hgranted : r.state = .granted) (hanonymous : r.anonymous = false) :
    ((s.removePiece n .laneAbsent).lane r.lane).run = .offline ∧ ((s.removePiece n .laneAbsent).lane r.lane).request = none := by
  have hleft : s.laneLeft r .laneAbsent = ((s.takenOut r .laneAbsent).reportRemoval r .laneAbsent).restLane r.lane .offline :=
    State.laneLeft_granted .laneAbsent hgranted hanonymous
  have hlane : ((s.laneLeft r .laneAbsent).lane r.lane).run = .offline ∧
      ((s.laneLeft r .laneAbsent).lane r.lane).request = none := by
    rw [hleft, State.restLane_lane, if_pos rfl]
    exact ⟨rfl, rfl⟩
  have hagrees := (State.tableEmptied_lane (s := s.laneLeft r .laneAbsent) (l := r.lane) (by simp [hlane.1])).1.run
  rw [State.removePiece_eq .laneAbsent hr]
  exact ⟨hagrees.1.trans hlane.1, hagrees.2.trans hlane.2⟩

/-- The node of a lane in the lane table stays through a removal that sets nothing else going. -/
theorem State.removePiece_absent_node (hr : s.findPiece n = some r) (hgranted : r.state = .granted)
    (hanonymous : r.anonymous = false) (hstill : s.removesStill r) :
    ((s.removePiece n .laneAbsent).lane r.lane).cfg.node = (s.lane r.lane).cfg.node := by
  have htaken := State.takenOut_still .laneAbsent hstill
  obtain ⟨-, -, -, hlanes⟩ := State.reportRemoval_still .laneAbsent htaken
  have hleft : s.laneLeft r .laneAbsent = ((s.takenOut r .laneAbsent).reportRemoval r .laneAbsent).restLane r.lane .offline :=
    State.laneLeft_granted .laneAbsent hgranted hanonymous
  have hlane : (s.laneLeft r .laneAbsent).lane r.lane =
      { ((s.takenOut r .laneAbsent).reportRemoval r .laneAbsent).lane r.lane with run := .offline, request := none } := by
    rw [hleft, State.restLane_lane, if_pos rfl]
  have hagrees := (State.tableEmptied_lane (s := s.laneLeft r .laneAbsent) (l := r.lane) (by simp [hlane])).1
  obtain ⟨hfeed, -⟩ := s.takenOut_blocks r .laneAbsent
  rw [State.removePiece_eq .laneAbsent hr, hagrees, hlane, hlanes r.lane, State.lane, hfeed]
  rfl

end

/-! ### The return of a GRANT (R111 to R114) -/

section

variable {s t : State} {f : Frame}

/-- What does no more than Line Control's operations when an own frame is home leaves the tracking blocks alone. -/
theorem State.LineOnly.same_home (h : (s.home f).LineOnly t) : State.sameTracking s t ∧ State.sameOuter s t :=
  ⟨⟨h.travel, h.eyes, h.matcher, h.folder⟩, h.pins, h.mgmt, h.freeIndex, h.pending, (congrArg RingPort.own h.port :)⟩

theorem State.home_readies (s : State) (f : Frame) (n : Half) : s.Readies (s.home f) n := .of_same rfl rfl rfl rfl rfl

/-- A fault that is not of severity LINE, recorded after a removal that leaves the fault list (R157). -/
theorem State.recorded_after_removal {n : Half} {o : Removal} {g : Raised} (hg : g.severity ≠ .line)
    (hfaults : (s.removePiece n o).faults = s.faults) : State.recorded s ((s.removePiece n o).recordFault g) g := by
  rw [State.recordFault_eq_logFault _ _ (.inl hg)]
  exact State.recorded_after hfaults (s.removePiece_lineOnly n o).travel (s.removePiece_isSuspect n o)
    (State.logFault_recorded _ g)

theorem State.grantReturned_busy {n : Half} {r : Piece} {marks : Byte} (hr : s.findPiece n = some r)
    (hgranted : r.state = .granted) (hbusy : isBusy marks = true) :
    s.grantReturned marks n = (s.removePiece n .grantBusy).recordFault
      { code := .grantBusy, severity := .noted, piece := some n, site := .lane r.lane, position := none } := by
  simp only [State.grantReturned, hr, hbusy, hgranted, if_true, State.noteBusy, State.findPiece_number hr]

theorem State.grantReturned_absent {n : Half} {r : Piece} {marks : Byte} (hr : s.findPiece n = some r)
    (hgranted : r.state = .granted) (hbusy : isBusy marks = false) (htaken : isTaken marks = false) :
    s.grantReturned marks n = (s.removePiece n .laneAbsent).recordFault
      { code := .laneAbsent, severity := .piece, piece := some n,
        site := .node ((s.removePiece n .laneAbsent).lane r.lane).cfg.node, position := none } := by
  simp [State.grantReturned, hr, hbusy, htaken, hgranted, State.noteAbsent, State.findPiece_number hr]

theorem State.grantReturned_past {n : Half} {r : Piece} {marks : Byte} (hr : s.findPiece n = some r)
    (hpast : r.state ≠ .granted) (h : isBusy marks = true ∨ isTaken marks = false) : s.grantReturned marks n =
      s.recordFault (if isBusy marks then
        { code := .grantBusy, severity := .noted, piece := some n, site := .lane r.lane, position := none }
      else { code := .laneAbsent, severity := .piece, piece := some n, site := .node (s.lane r.lane).cfg.node,
             position := none }) := by
  have hnum := State.findPiece_number hr
  by_cases hbusy : isBusy marks = true
  · simp [State.grantReturned, hr, hbusy, hpast, State.noteBusy, hnum]
  · simp [State.grantReturned, hr, hbusy, h.resolve_left hbusy, hpast, State.noteAbsent, hnum]

end

/-! ### The return of a TICKET (R142) -/

section

variable {s : State} {c : Lane} {n : SlotName} {r : Piece}

/-- The state in which an undelivered TICKET's record is removed: the fault recorded, the slot FREE, the reason set. -/
def State.undeliverable (s : State) (c : Lane) (n : SlotName) (r : Piece) : State :=
  ((s.recordFault { code := .ticketUndelivered, severity := .piece, piece := some r.number, site := .channel c,
                    position := none }).freeSlot c n).onPiece r.number fun q => { q with reject := .undelivered }

theorem State.undelivered_eq (s : State) (c : Lane) (n : SlotName) (r : Piece) : s.undelivered c n r =
    ((s.undeliverable c n r).removePiece r.number .undelivered).servePending c n := rfl

theorem State.undeliverable_eq (s : State) (c : Lane) (n : SlotName) (r : Piece) : s.undeliverable c n r =
    ((s.logFault { code := .ticketUndelivered, severity := .piece, piece := some r.number, site := .channel c,
                   position := none }).freeSlot c n).onPiece r.number fun q => { q with reject := .undelivered } := by
  rw [State.undeliverable, State.recordFault_eq_logFault _ _ (.inl (by simp))]

theorem State.freeSlot_readies (s : State) (c : Lane) (n : SlotName) (m : Half) : s.Readies (s.freeSlot c n) m :=
  .of_same rfl rfl rfl rfl rfl

theorem State.undeliverable_readies (s : State) (c : Lane) (n : SlotName) (r : Piece) :
    s.Readies (s.undeliverable c n r) r.number := by
  rw [State.undeliverable_eq]
  exact ((State.logFault_readies _ _ _).trans (State.freeSlot_readies _ _ _ _)).trans
    (State.onPiece_readies _ _ (by exact fun _ => rfl))

theorem State.undeliverable_findPiece (hr : s.findPiece r.number = some r) :
    (s.undeliverable c n r).findPiece r.number = some { r with reject := .undelivered } := by
  rw [State.undeliverable_eq, State.onPiece_findPiece_self _ _ (by exact fun _ => rfl)]
  exact congrArg (Option.map fun q : Piece => { q with reject := .undelivered })
    ((State.findPiece_congr (t := (s.logFault _).freeSlot c n) (s.logFault_blocks _).1 _).trans hr)

theorem State.ticketMatch_found {piece : Half} (h : s.ticketMatch c n piece = some r) :
    s.findPiece piece = some r ∧ r.number = piece ∧ s.findPiece r.number = some r := by
  obtain ⟨hr, -⟩ := Option.filter_eq_some_iff.mp h
  have hnum := State.findPiece_number hr
  exact ⟨hr, hnum, hnum ▸ hr⟩

/-- Serving the oldest pending record leaves the records' numbers and all but the table, the slot and the TICKET. -/
theorem State.servePending_blocks (s : State) (c : Lane) (n : SlotName) : (s.servePending c n).feed = s.feed ∧
    (s.servePending c n).batch = s.batch ∧ (s.servePending c n).line = s.line ∧
    (s.servePending c n).faults = s.faults ∧ (s.servePending c n).port.routine = s.port.routine ∧
    (s.servePending c n).pieces.discharged = s.pieces.discharged ∧ (s.servePending c n).pieces.lost = s.pieces.lost := by
  unfold State.servePending
  split <;> exact ⟨rfl, rfl, rfl, rfl, rfl, rfl, rfl⟩

theorem State.onPiece_findPiece_none {s : State} {m k : Half} {f : Piece → Piece} (hf : ∀ q, (f q).number = q.number)
    (h : s.findPiece m = none) : (s.onPiece k f).findPiece m = none := by
  rw [State.findPiece, List.find?_eq_none] at *
  intro q hq
  obtain ⟨w, hw, rfl⟩ := List.mem_map.mp hq
  have := h w hw
  split
  · rwa [hf]
  · exact this

theorem State.servePending_findPiece_none {m : Half} (h : s.findPiece m = none) : (s.servePending c n).findPiece m = none := by
  unfold State.servePending
  split
  · exact h
  · exact State.onPiece_findPiece_none (s := s.onChannel c _) (fun _ => rfl) h

end

end Sys2Proof.Machine

/-! SUPPORT. The obligation on the returns of GRANT and TICKET frames and on the deadlines, clause by clause (R111 to R114,
R142, R143). -/

namespace Sys2Proof.Machine

open Sys2Proof

/-! ### A GRANT that comes home (R111 to R114) -/

section

variable {e : Envelope} {lane span : Byte} {piece : Half} {s : State} {r : Piece}

/-- A record that a home GRANT removes: the totals, the tracking blocks, the entry to CONFIG and, where the removal sets
nothing else going, the table, the occupancy, the batch and the fault. -/
theorem State.home_removed {f : Frame} {n : Half} {o : Removal} {g : Raised} (hr : s.findPiece n = some r)
    (hanonymous : r.anonymous = false) (ho : ¬ r.evaluatedBy o) (hg : g.severity ≠ .line)
    (hcount : (s.pieces.countRemoval o).discharged = s.pieces.discharged ∧ (s.pieces.countRemoval o).lost = s.pieces.lost) :
    let t := ((s.home f).removePiece n o).recordFault g
    t.pieces.discharged = s.pieces.discharged ∧ t.pieces.lost = s.pieces.lost ∧
      State.sameTracking s t ∧ State.sameOuter s t ∧
      (s.removesStill r → t.findPiece n = none ∧ t.pieces.records = s.pieces.records.filter (fun q => q.number != n) ∧
        t.feed.occupancy = s.feed.occupancy - 1 ∧ State.recorded s t g) ∧
      (s.line.state = .draining → s.pieces.records = [r] → State.entersConfig s t .command) ∧
      (s.removesStill r → s.line.state ≠ .draining →
        ∀ (i : Nat) (b : BatchEntry), s.placeOf r.batch = some i → s.batchAt i = some b →
          ¬(b.state = .closing ∧ b.live - 1 = 0) → t.batchAt i = some (b.afterRemoval r.article r.doubt o)) := by
  intro t
  have hready := s.home_readies f n
  have hfound : (s.home f).findPiece n = some r := hr
  have ht : t = ((s.home f).removePiece n o).logFault g := State.recordFault_eq_logFault _ _ (.inl hg)
  obtain ⟨hpieces, hfeed, hbatch, -⟩ := ((s.home f).removePiece n o).logFault_blocks g
  obtain ⟨hlost, hdischarged⟩ := hready.totalled o hfound
  have honly : (s.home f).LineOnly t := by
    rw [ht]
    exact ((s.home f).removePiece_lineOnly n o).trans (State.logFault_lotsOnly _ g).lineOnly
  refine ⟨?_, ?_, honly.same_home.1, honly.same_home.2, fun hstill => ?_, fun hdraining hlast => ?_,
    fun hstill hstays i b hi hb hlive => ?_⟩
  · rw [ht, hpieces, hdischarged, hcount.1]
  · rw [ht, hpieces, hlost, hcount.2]
  · obtain ⟨hrecords, hfaults, hoccupancy⟩ := hready.removed (o := o) hfound hstill (.inr ho)
    have hrecords' : t.pieces.records = s.pieces.records.filter fun q => q.number != n := by rw [ht, hpieces, hrecords]
    refine ⟨State.findPiece_without hrecords', hrecords', ?_, ?_⟩
    · rw [ht, hfeed, hoccupancy, hanonymous]
      rfl
    · exact State.recorded_after (u := s.home f) rfl rfl rfl (State.recorded_after_removal hg hfaults)
  · rw [ht]
    refine State.entersConfig_logFault g (hready.entersConfig o hdraining hfound fun q hq => ?_)
    rw [hlast, List.mem_singleton] at hq
    rw [hq, State.findPiece_number hr]
  · rw [ht, State.batchAt_congr (congrArg BatchCounter.places hbatch)]
    exact hready.batchAt hfound hstill (.inr ho) (.inl hstays) hanonymous hi hb hlive

theorem State.removesStill_of (h : s.line.state = .suspect ∨ (s.line.state = .run ∧ s.removesQuietly r.batch = true)) :
    s.removesStill r ∧ s.line.state ≠ .draining :=
  h.elim (fun hs => ⟨.inl (by simp [hs]), by simp [hs]⟩) fun hs => ⟨.inr hs.2, by simp [hs.1]⟩

theorem State.logFault_lane (s : State) (g : Raised) (l : Lane) : (s.logFault g).lane l = s.lane l :=
  congrArg (fun f : FeedSequencer => f.lanes.get l) (s.logFault_blocks g).2.1

theorem grantReturned_busy_judged (hhome : s.comesHome (grantFrame e lane span piece) = true)
    (hr : s.findPiece piece = some r) (hgranted : r.state = .granted) (hanonymous : r.anonymous = false)
    (hbusy : isBusy e.marks = true) :
    ∃ t : State, exec (.grantReturn e lane span piece) s = .next t ∧
      t.pieces.discharged = s.pieces.discharged ∧ t.pieces.lost = s.pieces.lost ∧
      State.sameTracking s t ∧ State.sameOuter s t ∧
      (((t.lane r.lane).run = .ready ∧ (t.lane r.lane).request = some r.request) ∨
        (s.line.state = .run ∧ (t.lane r.lane).run = .granted) ∨
        (s.line.state = .draining ∧ t.line.state = .config ∧ (t.lane r.lane).run = .idle)) ∧
      (s.line.state ≠ .run ∨ s.removesQuietly r.batch = true →
        t.findPiece piece = none ∧ t.pieces.records = s.pieces.records.filter (fun q => q.number != piece) ∧
        t.feed.occupancy = s.feed.occupancy - 1 ∧
        State.recorded s t { code := .grantBusy, severity := .noted, piece := some piece, site := .lane r.lane,
                             position := none }) ∧
      (s.line.state = .draining → s.pieces.records = [r] → State.entersConfig s t .command) ∧
      (s.line.state = .suspect ∨ (s.line.state = .run ∧ s.removesQuietly r.batch = true) →
        (t.lane r.lane).run = .ready ∧ (t.lane r.lane).request = some r.request ∧
        t.feed.order = r.lane :: s.feed.order.filter (· != r.lane) ∧
        ∀ (i : Nat) (b : BatchEntry), s.placeOf r.batch = some i → s.batchAt i = some b →
          ¬(b.state = .closing ∧ b.live - 1 = 0) → t.batchAt i = some { b with live := b.live - 1 }) := by
  let f := grantFrame e lane span piece
  let g : Raised := { code := .grantBusy, severity := .noted, piece := some piece, site := .lane r.lane, position := none }
  have hnot : ¬ r.evaluatedBy .grantBusy := fun h => by simp [Piece.evaluatedBy] at h
  have hfound : (s.home f).findPiece piece = some r := hr
  have hlane (l : Lane) : ((((s.home f).removePiece piece .grantBusy).recordFault g).lane l) =
      ((s.home f).removePiece piece .grantBusy).lane l := by
    rw [State.recordFault_eq_logFault _ _ (.inl (by simp [g]))]
    exact State.logFault_lane _ _ _
  have hline : (((s.home f).removePiece piece .grantBusy).recordFault g).line =
      ((s.home f).removePiece piece .grantBusy).line := by
    rw [State.recordFault_eq_logFault _ _ (.inl (by simp [g]))]
    exact (State.logFault_lotsOnly _ _).line
  obtain ⟨hdischarged, hlost, htracking, houter, hremoved, hconfig, hentry⟩ :=
    State.home_removed (f := f) (o := .grantBusy) (g := g) hr hanonymous hnot (by simp [g]) ⟨rfl, rfl⟩
  refine ⟨_, (exec_grantReturn hhome).trans (congrArg Host.Outcome.next (State.grantReturned_busy hfound hgranted hbusy)),
    hdischarged, hlost, htracking, houter, ?_, hremoved, hconfig, fun hruns => ?_⟩
  · rw [hlane, hline]
    exact State.removePiece_busy hfound hgranted hanonymous
  · obtain ⟨hstill, hstays⟩ := State.removesStill_of hruns
    obtain ⟨hready, hrequest, horder⟩ := State.removePiece_busy_still hfound hgranted hanonymous hstill hstays
    rw [hlane]
    refine ⟨hready, hrequest, ?_, hentry hstill hstays⟩
    rw [State.recordFault_eq_logFault _ _ (.inl (by simp)), (State.logFault_blocks _ _).2.1]
    exact horder

theorem grantReturned_absent_judged (hhome : s.comesHome (grantFrame e lane span piece) = true)
    (hr : s.findPiece piece = some r) (hgranted : r.state = .granted) (hanonymous : r.anonymous = false)
    (hbusy : isBusy e.marks = false) (htaken : isTaken e.marks = false) :
    ∃ t : State, exec (.grantReturn e lane span piece) s = .next t ∧ (t.lane r.lane).run = .offline ∧
      (t.lane r.lane).request = none ∧ t.pieces.discharged = s.pieces.discharged ∧
      t.pieces.lost = s.pieces.lost ∧ State.sameTracking s t ∧ State.sameOuter s t ∧
      (s.line.state ≠ .run ∨ s.removesQuietly r.batch = true →
        t.findPiece piece = none ∧ t.pieces.records = s.pieces.records.filter (fun q => q.number != piece) ∧
        t.feed.occupancy = s.feed.occupancy - 1 ∧
        State.recorded s t { code := .laneAbsent, severity := .piece, piece := some piece,
                             site := .node (s.lane r.lane).cfg.node, position := none }) ∧
      (s.line.state = .draining → s.pieces.records = [r] → State.entersConfig s t .command) ∧
      (s.line.state = .suspect ∨ (s.line.state = .run ∧ s.removesQuietly r.batch = true) →
        ∀ (i : Nat) (b : BatchEntry), s.placeOf r.batch = some i → s.batchAt i = some b →
          ¬(b.state = .closing ∧ b.live - 1 = 0) → t.batchAt i = some { b with live := b.live - 1 }) := by
  let f := grantFrame e lane span piece
  let u := (s.home f).removePiece piece .laneAbsent
  let g : Raised := { code := .laneAbsent, severity := .piece, piece := some piece,
                      site := .node (u.lane r.lane).cfg.node, position := none }
  have hnot : ¬ r.evaluatedBy .laneAbsent := fun h => by simp [Piece.evaluatedBy] at h
  have hfound : (s.home f).findPiece piece = some r := hr
  obtain ⟨hdischarged, hlost, htracking, houter, hremoved, hconfig, hentry⟩ :=
    State.home_removed (f := f) (o := .laneAbsent) (g := g) hr hanonymous hnot (by simp [g]) ⟨rfl, rfl⟩
  obtain ⟨hoffline, hnone⟩ := State.removePiece_absent hfound hgranted hanonymous
  have hlane : (u.recordFault g).lane r.lane = u.lane r.lane := by
    rw [State.recordFault_eq_logFault _ _ (.inl (by simp [g]))]
    exact State.logFault_lane _ _ _
  refine ⟨_, (exec_grantReturn hhome).trans (congrArg Host.Outcome.next (State.grantReturned_absent hfound hgranted hbusy htaken)),
    (congrArg LaneEntry.run hlane).trans hoffline, (congrArg LaneEntry.request hlane).trans hnone, hdischarged, hlost,
    htracking, houter, fun hstill => ?_, hconfig, fun hruns => ?_⟩
  · obtain ⟨hfind, hrecords, hoccupancy, hrecorded⟩ := hremoved hstill
    have hnode : (u.lane r.lane).cfg.node = (s.lane r.lane).cfg.node :=
      State.removePiece_absent_node hfound hgranted hanonymous hstill
    refine ⟨hfind, hrecords, hoccupancy, ?_⟩
    rw [← hnode]
    exact hrecorded
  · obtain ⟨hstill, hstays⟩ := State.removesStill_of hruns
    exact hentry hstill hstays

theorem grantReturned_past_judged (hhome : s.comesHome (grantFrame e lane span piece) = true)
    (hr : s.findPiece piece = some r) (hpast : r.state ≠ .granted) (h : isBusy e.marks = true ∨ isTaken e.marks = false) :
    ∃ t : State, exec (.grantReturn e lane span piece) s = .next t ∧ t.pieces = s.pieces ∧ t.feed = s.feed ∧
      t.line = s.line ∧ t.batch = s.batch ∧ State.sameTracking s t ∧ State.sameOuter s t ∧
      (isBusy e.marks = true →
        State.recorded s t { code := .grantBusy, severity := .noted, piece := some piece, site := .lane r.lane,
                             position := none }) ∧
      (isBusy e.marks = false →
        State.recorded s t { code := .laneAbsent, severity := .piece, piece := some piece,
                             site := .node (s.lane r.lane).cfg.node, position := none }) := by
  let f := grantFrame e lane span piece
  have hfound : (s.home f).findPiece piece = some r := hr
  have hexec := (exec_grantReturn hhome).trans (congrArg Host.Outcome.next (State.grantReturned_past hfound hpast h))
  have hlogged (g : Raised) (hg : g.severity ≠ .line) : (s.home f).recordFault g = (s.home f).logFault g :=
    State.recordFault_eq_logFault _ _ (.inl hg)
  have hkept (g : Raised) : ((s.home f).logFault g).pieces = s.pieces ∧ ((s.home f).logFault g).feed = s.feed ∧
      ((s.home f).logFault g).line = s.line ∧ ((s.home f).logFault g).batch = s.batch ∧
      State.sameTracking s ((s.home f).logFault g) ∧ State.sameOuter s ((s.home f).logFault g) := by
    obtain ⟨hpieces, hfeed, hbatch, -⟩ := (s.home f).logFault_blocks g
    have honly := (s.home f).logFault_lotsOnly g
    exact ⟨hpieces, hfeed, honly.line, hbatch, honly.lineOnly.same_home⟩
  have hrecorded (g : Raised) : State.recorded s ((s.home f).logFault g) g :=
    State.recorded_after (u := s.home f) rfl rfl rfl (State.logFault_recorded _ g)
  by_cases hbusy : isBusy e.marks = true
  · rw [if_pos hbusy, hlogged _ (by simp)] at hexec
    obtain ⟨hpieces, hfeed, hline, hbatch, htracking, houter⟩ := hkept _
    exact ⟨_, hexec, hpieces, hfeed, hline, hbatch, htracking, houter, fun _ => hrecorded _,
      fun hfalse => absurd (hbusy.symm.trans hfalse) (by simp)⟩
  · rw [if_neg hbusy, hlogged _ (by simp)] at hexec
    obtain ⟨hpieces, hfeed, hline, hbatch, htracking, houter⟩ := hkept _
    exact ⟨_, hexec, hpieces, hfeed, hline, hbatch, htracking, houter, fun htrue => absurd htrue hbusy, fun _ => hrecorded _⟩

end

/-! ### A fault recorded, then the removal (R142, R143) -/

section

variable {s u : State} {n : Half} {r : Piece} {o : Removal} {g : Raised}

/-- A removal behind the recording of its fault: the table, the occupancy and the fault where the removal sets nothing else
going, the entry to CONFIG, and the batch. -/
theorem State.Readies.judged (h : s.Readies u n) (hr : u.findPiece n = some r) (ho : ¬ r.evaluatedBy o)
    (hrecorded : State.recorded s u g) :
    (s.removesStill r → (u.removePiece n o).findPiece n = none ∧
      (r.anonymous = false → (u.removePiece n o).feed.occupancy = s.feed.occupancy - 1) ∧
      State.recorded s (u.removePiece n o) g) ∧
    (s.line.state = .draining → (∀ q ∈ s.pieces.records, q.number = n) →
      State.entersConfig s (u.removePiece n o) .command) ∧
    (s.line.state = .suspect ∨ (s.line.state = .run ∧ s.removesQuietly r.batch = true) → r.anonymous = false →
      ∀ (i : Nat) (b : BatchEntry), s.placeOf r.batch = some i → s.batchAt i = some b →
        ¬(b.state = .closing ∧ b.live - 1 = 0) →
        (u.removePiece n o).batchAt i = some (b.afterRemoval r.article r.doubt o)) := by
  refine ⟨fun hstill => ?_, fun hdraining hlast => h.entersConfig o hdraining hr hlast,
    fun hruns hanonymous i b hi hb hlive => ?_⟩
  · obtain ⟨hrecords, hfaults, hoccupancy⟩ := h.removed (o := o) hr hstill (.inr ho)
    refine ⟨State.findPiece_without hrecords, fun hanonymous => ?_, State.recorded_faults hfaults hrecorded⟩
    rw [hoccupancy, hanonymous]
    rfl
  · obtain ⟨hstill, hstays⟩ := State.removesStill_of hruns
    exact h.batchAt hr hstill (.inr ho) (.inl hstays) hanonymous hi hb hlive

theorem State.last_number (hr : s.findPiece n = some r) (hlast : s.pieces.records = [r]) : ∀ q ∈ s.pieces.records, q.number = n := by
  intro q hq
  rw [hlast, List.mem_singleton] at hq
  rw [hq, State.findPiece_number hr]

end

theorem State.freeSlot_owner (s : State) (c : Lane) (n : SlotName) : ((s.freeSlot c n).channel c).owner n = none := by
  have hchannel : (s.freeSlot c n).channel c = (s.channel c).setOwner n none :=
    State.onChannel_channel_self ..
  rw [hchannel]
  cases n <;> rfl

theorem State.servePending_eyes (s : State) (c : Lane) (n : SlotName) : (s.servePending c n).eyes = s.eyes ∧
    (s.servePending c n).matcher = s.matcher := by
  unfold State.servePending
  split <;> exact ⟨rfl, rfl⟩

theorem State.undeliverable_only (s : State) (c : Lane) (n : SlotName) (r : Piece) :
    let u := s.undeliverable c n r
    State.sameOuter s u ∧ u.travel = s.travel ∧ u.eyes = s.eyes ∧ u.matcher = s.matcher ∧ (u.channel c).owner n = none ∧
      State.recorded s u { code := .ticketUndelivered, severity := .piece, piece := some r.number, site := .channel c,
                           position := none } := by
  intro u
  have hu := s.undeliverable_eq c n r
  let g : Raised := { code := .ticketUndelivered, severity := .piece, piece := some r.number, site := .channel c, position := none }
  obtain ⟨hpins, hport, htravel, heyes, hmatcher, -, hmgmt, hindex, hpending⟩ := (s.logFault_lotsOnly g).lineOnly
  rw [show u = _ from hu]
  refine ⟨⟨hpins, hmgmt, hindex, hpending, (congrArg RingPort.own hport :)⟩, htravel, heyes, hmatcher, ?_,
    s.logFault_recorded g⟩
  exact State.freeSlot_owner _ c n

/-- A TICKET home busy or not taken: its record is UNDELIVERED (R142). -/
theorem ticketReturned_undelivered_judged {e : Envelope} {k : TicketFields} {s : State} {c : Lane} {n : SlotName} {r : Piece}
    (hhome : s.comesHome (ticketFrame e k) = true) (hc : Lane.ofNumber k.channel.toNat = some c)
    (hn : slotOf k.slot = some n) (hmatch : s.ticketMatch c n k.piece = some r)
    (hmarks : isTaken e.marks = false ∨ isBusy e.marks = true) :
    ∃ t : State, exec (.ticketReturn e k) s = .next t ∧ t.pieces.discharged = s.pieces.discharged + 1 ∧
      t.pieces.lost = s.pieces.lost ∧ t.travel = s.travel ∧ t.eyes = s.eyes ∧ t.matcher = s.matcher ∧
      State.sameOuter s t ∧
      State.servesSlot s t c n r.number ∧
      (s.line.state ≠ .run ∨ s.removesQuietly r.batch = true →
        t.findPiece k.piece = none ∧
        (r.anonymous = false → t.feed.occupancy = s.feed.occupancy - 1) ∧
        State.recorded s t { code := .ticketUndelivered, severity := .piece, piece := some k.piece,
                             site := .channel c, position := none }) ∧
      (s.line.state = .draining → s.pieces.records = [r] → State.entersConfig s t .command) ∧
      (s.line.state = .suspect ∨ (s.line.state = .run ∧ s.removesQuietly r.batch = true) →
        r.anonymous = false →
        ∀ (i : Nat) (b : BatchEntry), s.placeOf r.batch = some i → s.batchAt i = some b →
          ¬(b.state = .closing ∧ b.live - 1 = 0) →
          t.batchAt i = some ({ b with live := b.live - 1 }.count r.article .reject)) := by
  let v := s.home (ticketFrame e k)
  let u := v.undeliverable c n r
  let w := u.removePiece r.number .undelivered
  have hmatch' : v.ticketMatch c n k.piece = some r := hmatch
  obtain ⟨-, hnum, hr⟩ := State.ticketMatch_found hmatch'
  have hfound : u.findPiece r.number = some { r with reject := .undelivered } := State.undeliverable_findPiece hr
  have hreadies : s.Readies u r.number := (s.home_readies _ _).trans (v.undeliverable_readies c n r)
  obtain ⟨⟨hpins, hmgmt, hindex, hpending, hown⟩, htravel, heyes, hmatcher, hfree, hrecorded⟩ := v.undeliverable_only c n r
  have honly := u.removePiece_lineOnly r.number .undelivered
  have hrecorded' := State.recorded_after (s := s) rfl rfl rfl hrecorded
  have hnot : ¬ ({ r with reject := .undelivered } : Piece).evaluatedBy .undelivered := fun h => by
    simp [Piece.evaluatedBy] at h
  obtain ⟨hremoved, hconfig, hentry⟩ := hreadies.judged hfound hnot hrecorded'
  obtain ⟨hlost, hdischarged⟩ := hreadies.totalled .undelivered hfound
  obtain ⟨hfeed, hbatch, hline, hfaults, hroutine, hdischarged', hlost'⟩ := w.servePending_blocks c n
  obtain ⟨spins, sport, stravel, smgmt, sindex, spending⟩ := w.servePending_trackOnly c n
  obtain ⟨seyes, smatcher⟩ := w.servePending_eyes c n
  have hreturned : v.ticketReturned e.marks c n k.piece = w.servePending c n := by
    have hif : (isTaken e.marks && !isBusy e.marks) = false := by
      rcases hmarks with h | h <;> simp [h]
    simp only [State.ticketReturned, hmatch', hif, Bool.false_eq_true, if_false, State.undelivered_eq]
    rfl
  refine ⟨w.servePending c n, (exec_ticketReturn hhome hc hn).trans (congrArg Host.Outcome.next hreturned),
    hdischarged'.trans hdischarged, hlost'.trans hlost, stravel.trans (honly.travel.trans htravel),
    seyes.trans (honly.eyes.trans heyes), smatcher.trans (honly.matcher.trans hmatcher),
    ⟨spins.trans (honly.pins.trans hpins), smgmt.trans (honly.mgmt.trans hmgmt), sindex.trans (honly.freeIndex.trans hindex),
      spending.trans (honly.pending.trans hpending), (congrArg RingPort.own sport :).trans ((congrArg RingPort.own honly.port :).trans hown)⟩,
    hreadies.servesSlot .undelivered hfound hmgmt hfree, fun hstill => ?_, fun hdraining hlast => ?_,
    fun hruns hanonymous i b hi hb hlive => ?_⟩
  · obtain ⟨hfind, hoccupancy, hrec⟩ := hremoved hstill
    rw [← hnum]
    exact ⟨State.servePending_findPiece_none hfind, fun ha => (congrArg FeedSequencer.occupancy hfeed).trans (hoccupancy ha),
      State.recorded_faults hfaults hrec⟩
  · exact State.entersConfig_after hline hfeed hbatch hroutine (hconfig hdraining (State.last_number hr hlast))
  · rw [State.batchAt_congr (congrArg BatchCounter.places hbatch)]
    exact hentry hruns hanonymous i b hi hb hlive


/-! ### Deadlines (R143) -/

theorem State.overrun_eq (s : State) (r : Piece) : s.overrun r =
    ((s.logFault { code := .ticketOverrun, severity := .piece, piece := some r.number, site := .channel r.lane,
                   position := some s.travel.position }).onPiece r.number fun q =>
      { q with reject := .overrun, ticket := .none, deadline := none }).removePiece r.number .overrun := by
  rw [State.overrun, State.recordFault_eq_logFault _ _ (.inl (by simp))]

/-- A record whose deadline the position has passed goes as OVERRUN (R143). -/
theorem testDeadline_overrun_judged {s : State} {r : Piece} {d : Pos} (hr : s.findPiece r.number = some r)
    (hd : r.deadline = some d) (hpassed : 0 < (s.travel.position - d).toInt) :
    (s.testDeadline r).pieces.discharged = s.pieces.discharged + 1 ∧
    (s.testDeadline r).pieces.lost = s.pieces.lost ∧ (s.testDeadline r).folder = s.folder ∧
    (s.line.state ≠ .run ∨ s.removesQuietly r.batch = true →
      (s.testDeadline r).findPiece r.number = none ∧
      (r.anonymous = false → (s.testDeadline r).feed.occupancy = s.feed.occupancy - 1) ∧
      State.recorded s (s.testDeadline r) { code := .ticketOverrun, severity := .piece, piece := some r.number,
                                            site := .channel r.lane, position := none }) ∧
    (s.line.state = .draining → s.pieces.records = [r] → State.entersConfig s (s.testDeadline r) .command) ∧
    (s.line.state = .suspect ∨ (s.line.state = .run ∧ s.removesQuietly r.batch = true) → r.anonymous = false →
      ∀ (i : Nat) (b : BatchEntry), s.placeOf r.batch = some i → s.batchAt i = some b →
        ¬(b.state = .closing ∧ b.live - 1 = 0) →
        (s.testDeadline r).batchAt i = some ({ b with live := b.live - 1 }.count r.article .reject)) := by
  let g : Raised := { code := .ticketOverrun, severity := .piece, piece := some r.number, site := .channel r.lane,
                      position := some s.travel.position }
  let u := (s.logFault g).onPiece r.number fun q => { q with reject := .overrun, ticket := .none, deadline := none }
  have htest : s.testDeadline r = u.removePiece r.number .overrun := by
    have hpasses : passes s.travel.position d = true := decide_eq_true hpassed
    rw [State.testDeadline, hd]
    exact (if_pos hpasses).trans (s.overrun_eq r)
  have hreadies : s.Readies u r.number :=
    (s.logFault_readies g r.number).trans (State.onPiece_readies _ _ (by exact fun _ => rfl))
  have hfound : u.findPiece r.number = some { r with reject := .overrun, ticket := .none, deadline := none } := by
    rw [State.onPiece_findPiece_self _ _ (by exact fun _ => rfl)]
    exact congrArg (Option.map _) ((State.findPiece_congr (s.logFault_blocks g).1 _).trans hr)
  have hrecorded : State.recorded s u { code := .ticketOverrun, severity := .piece, piece := some r.number,
                                        site := .channel r.lane, position := none } := s.logFault_recorded g
  obtain ⟨hremoved, hconfig, hentry⟩ := hreadies.judged (o := .overrun) hfound
    (fun h => by simp [Piece.evaluatedBy] at h) hrecorded
  obtain ⟨hlost, hdischarged⟩ := hreadies.totalled .overrun hfound
  rw [htest]
  exact ⟨hdischarged, hlost,
    (u.removePiece_lineOnly r.number .overrun).folder.trans (s.logFault_lotsOnly g).lineOnly.folder, hremoved,
    fun hdraining hlast => hconfig hdraining (State.last_number hr hlast), hentry⟩

/-- Settles O38: a removal and the fault beside it are taken apart by `Readies`, whichever of the two comes first. -/
theorem grantAndTicketReturnJudged : Obligations.GrantAndTicketReturnJudged := by
  unfold Obligations.GrantAndTicketReturnJudged
  refine ⟨fun e lane span piece s r => grantReturned_busy_judged, fun e lane span piece s r => grantReturned_absent_judged,
    fun e lane span piece s r => grantReturned_past_judged, fun e k s c n r => ticketReturned_undelivered_judged,
    fun s r d => testDeadline_overrun_judged, fun s r d hd hbefore => ?_⟩
  have hpasses : passes s.travel.position d = false := decide_eq_false (Int.not_lt.mpr hbefore)
  rw [State.testDeadline, hd]
  simp [hpasses]

end Sys2Proof.Machine

/-! SUPPORT. The obligation on SLOT_FREE, the hand-over and the count of a removed piece (R119, R120, R137 to R139, R144,
R145). -/

namespace Sys2Proof.Machine

open Sys2Proof

/-! ### What comes before the removal of a discharged record (R145, steps 1 to 3) -/

/-- The mismatch of a discharge (R145, step 1). -/
def slotMismatch (c : Lane) (owner : Half) : Raised :=
  { code := .slotMismatch, severity := .noted, piece := some owner, site := .channel c, position := none }

/-- The jam of a discharge (R145, step 2). -/
def folderJam (c : Lane) (owner : Half) : Raised :=
  { code := .folderJam, severity := .piece, piece := some owner, site := .channel c, position := none }

/-- The state in which the owner of a slot is removed: its faults recorded, its TICKET withdrawn, the slot FREE. -/
def State.dischargeable (s : State) (c : Lane) (n : SlotName) (owner carried : Half) (o : Removal) : State :=
  (((s.noteMismatch c owner carried).noteJam c owner o).withdrawTicket owner).freeSlot c n

theorem State.discharge_eq (s : State) (c : Lane) (n : SlotName) (owner carried : Half) (o : Removal) :
    s.discharge c n owner carried o = ((s.dischargeable c n owner carried o).removePiece owner o).servePending c n := rfl

section

variable (s : State) (c : Lane) (n : SlotName) (owner carried : Half) (o : Removal)

theorem State.noteMismatch_eq : s.noteMismatch c owner carried = if carried = owner then s else s.logFault (slotMismatch c owner) := by
  unfold State.noteMismatch
  split
  · rfl
  · exact State.recordFault_eq_logFault _ _ (.inl (by simp))

theorem State.noteJam_eq : s.noteJam c owner o = if o = .jammed then s.logFault (folderJam c owner) else s := by
  unfold State.noteJam
  split
  · exact State.recordFault_eq_logFault _ _ (.inl (by simp))
  · rfl

/-- The faults of a discharge touch the fault block and the routine queue alone. -/
theorem State.noted_logs : let u := (s.noteMismatch c owner carried).noteJam c owner o
    s.Readies u owner ∧ s.LotsOnly u ∧ u.pieces = s.pieces ∧ u.port.urgent = s.port.urgent := by
  have hlogged (t : State) (g : Raised) : t.Readies (t.logFault g) owner ∧ t.LotsOnly (t.logFault g) ∧
      (t.logFault g).pieces = t.pieces ∧ (t.logFault g).port.urgent = t.port.urgent := by
    obtain ⟨hpieces, -, -, hurgent⟩ := t.logFault_blocks g
    exact ⟨t.logFault_readies g owner, t.logFault_lotsOnly g, hpieces, hurgent⟩
  have hsame (t : State) : t.Readies t owner ∧ t.LotsOnly t ∧ t.pieces = t.pieces ∧ t.port.urgent = t.port.urgent :=
    ⟨.of_same rfl rfl rfl rfl rfl, .rfl' t, rfl, rfl⟩
  have hfirst : s.Readies (s.noteMismatch c owner carried) owner ∧ s.LotsOnly (s.noteMismatch c owner carried) ∧
      (s.noteMismatch c owner carried).pieces = s.pieces ∧
      (s.noteMismatch c owner carried).port.urgent = s.port.urgent := by
    rw [State.noteMismatch_eq]
    split
    · exact hsame s
    · exact hlogged s _
  obtain ⟨hreadies, hlots, hpieces, hurgent⟩ := hfirst
  dsimp only
  rw [State.noteJam_eq]
  split
  · obtain ⟨hreadies', hlots', hpieces', hurgent'⟩ := hlogged (s.noteMismatch c owner carried) (folderJam c owner)
    exact ⟨hreadies.trans hreadies', hlots.trans hlots', hpieces'.trans hpieces, hurgent'.trans hurgent⟩
  · exact ⟨hreadies, hlots, hpieces, hurgent⟩

theorem State.dischargeable_readies : s.Readies (s.dischargeable c n owner carried o) owner :=
  (s.noted_logs c owner carried o).1.trans (.of_same rfl rfl rfl rfl rfl)

theorem State.dischargeable_pieces : (s.dischargeable c n owner carried o).pieces = s.pieces :=
  (s.noted_logs c owner carried o).2.2.1

theorem State.dischargeable_urgent : (s.dischargeable c n owner carried o).port.urgent =
    s.port.urgent.filter fun q => q.ticketPiece != some owner := by
  obtain ⟨-, -, -, hurgent⟩ := s.noted_logs c owner carried o
  rw [← hurgent]
  rfl

theorem State.dischargeable_only : let u := s.dischargeable c n owner carried o
    State.sameOuter s u ∧ u.travel = s.travel ∧ u.eyes = s.eyes ∧ u.matcher = s.matcher ∧ (u.channel c).owner n = none := by
  obtain ⟨-, hlots, -⟩ := s.noted_logs c owner carried o
  obtain ⟨hpins, hport, htravel, heyes, hmatcher, -, hmgmt, hindex, hpending⟩ := hlots.lineOnly
  exact ⟨⟨hpins, hmgmt, hindex, hpending, (congrArg RingPort.own hport :)⟩, htravel, heyes, hmatcher,
    State.freeSlot_owner _ c n⟩

end

/-- What a fault put into a fault block gives depends on its list and overflow count alone (R158). -/
theorem FaultMonitor.insert_congr {m k : FaultMonitor} (r : FaultRecord) (hlist : m.list = k.list)
    (hoverflow : m.overflow = k.overflow) :
    (m.insert r).list = (k.insert r).list ∧ (m.insert r).overflow = (k.insert r).overflow := by
  unfold FaultMonitor.insert
  rw [hlist, hoverflow]
  split
  · exact ⟨rfl, rfl⟩
  · split <;> exact ⟨rfl, rfl⟩

/-- Two faults recorded one after the other (R157, R158). -/
theorem State.logFault_recordedTwo (s : State) (f g : Raised) : State.recordedTwo s ((s.logFault f).logFault g) f g := by
  obtain ⟨hlist, hoverflow⟩ := s.logFault_recorded f
  obtain ⟨hlist', hoverflow'⟩ := (s.logFault f).logFault_recorded g
  have hlots := s.logFault_lotsOnly f
  have hrecord : (s.logFault f).faultRecord g = s.faultRecord g := by
    simp only [State.faultRecord, hlots.line, hlots.lineOnly.travel]
  rw [hrecord] at hlist' hoverflow'
  obtain ⟨hsame, hsame'⟩ := FaultMonitor.insert_congr (s.faultRecord g) hlist hoverflow
  exact ⟨hlist'.trans hsame, hoverflow'.trans hsame'⟩

/-- The faults of a discharge, in its four cases (R145). -/
theorem State.dischargeable_faults (s : State) (c : Lane) (n : SlotName) (owner carried : Half) (o : Removal) :
    let u := s.dischargeable c n owner carried o
    (carried ≠ owner → o ≠ .jammed → State.recorded s u (slotMismatch c owner)) ∧
      (carried = owner → o = .jammed → State.recorded s u (folderJam c owner)) ∧
      (carried ≠ owner → o = .jammed → State.recordedTwo s u (slotMismatch c owner) (folderJam c owner)) ∧
      (carried = owner → o ≠ .jammed → u.faults = s.faults) := by
  have hu : (s.dischargeable c n owner carried o).faults = ((s.noteMismatch c owner carried).noteJam c owner o).faults := rfl
  rw [State.noteJam_eq, State.noteMismatch_eq] at hu
  refine ⟨fun hmismatch ho => ?_, fun hmatch ho => ?_, fun hmismatch ho => ?_, fun hmatch ho => ?_⟩
  · rw [if_neg ho, if_neg hmismatch] at hu
    exact State.recorded_faults hu (s.logFault_recorded _)
  · rw [if_pos ho, if_pos hmatch] at hu
    exact State.recorded_faults hu (s.logFault_recorded _)
  · rw [if_pos ho, if_neg hmismatch] at hu
    unfold State.recordedTwo
    rw [hu]
    exact s.logFault_recordedTwo _ _
  · rwa [if_neg ho, if_pos hmatch] at hu

/-! ### The outcome of a SLOT_FREE (R122, R166) -/

section

variable {outcome : Byte} {o : Removal}

theorem folderOutcome_eq (h : folderOutcome outcome = some o) :
    (outcome.toNat = 1 ∧ o = .folded) ∨ (outcome.toNat = 2 ∧ o = .rejected) ∨ (outcome.toNat = 3 ∧ o = .jammed) := by
  unfold folderOutcome at h
  split at h
  next h1 => exact .inl ⟨h1, (Option.some.inj h).symm⟩
  next h2 => exact .inr (.inl ⟨h2, (Option.some.inj h).symm⟩)
  next h3 => exact .inr (.inr ⟨h3, (Option.some.inj h).symm⟩)
  next => exact absurd h (by simp)

theorem folderOutcome_jammed (h : folderOutcome outcome = some o) : o = .jammed ↔ outcome.toNat = 3 := by
  rcases folderOutcome_eq h with ⟨hn, rfl⟩ | ⟨hn, rfl⟩ | ⟨hn, rfl⟩ <;> simp [hn]

theorem folderOutcome_notEvaluated (h : folderOutcome outcome = some o) (r : Piece) : ¬ r.evaluatedBy o := by
  rcases folderOutcome_eq h with ⟨-, rfl⟩ | ⟨-, rfl⟩ | ⟨-, rfl⟩ <;> simp [Piece.evaluatedBy]

theorem folderOutcome_totals (h : folderOutcome outcome = some o) (p : PieceTable) :
    (p.countRemoval o).discharged = p.discharged + (if outcome.toNat = 3 then 0 else 1) ∧
      (p.countRemoval o).lost = p.lost + (if outcome.toNat = 3 then 1 else 0) := by
  rcases folderOutcome_eq h with ⟨hn, rfl⟩ | ⟨hn, rfl⟩ | ⟨hn, rfl⟩ <;> simp [hn, PieceTable.countRemoval]

theorem folderOutcome_counts (h : folderOutcome outcome = some o) (b : BatchEntry) (article : Byte) (doubt : Bool) :
    b.afterRemoval article doubt o = { b with live := b.live - 1 }.count article
      (if outcome.toNat = 3 then .lost else if outcome.toNat = 2 then .reject else if doubt then .flagged else .good) := by
  rcases folderOutcome_eq h with ⟨hn, rfl⟩ | ⟨hn, rfl⟩ | ⟨hn, rfl⟩ <;> simp [hn, BatchEntry.afterRemoval, tallyOf]

end

/-! ### The urgent queue after a discharge (R145, R176) -/

theorem Queued.ticketPiece_of_grant {q : Queued} {n : Half} (h : q.grantPiece = some n) : q.ticketPiece = none := by
  unfold Queued.grantPiece at h
  unfold Queued.ticketPiece
  split at h
  next hmsg => rw [hmsg]
  next => exact absurd h (by simp)

theorem Queued.ticketPiece_of_feedState {q : Queued} (h : q.isFeedState = true) : q.ticketPiece = none := by
  unfold Queued.isFeedState at h
  unfold Queued.ticketPiece
  split at h
  next hmsg => rw [hmsg]
  next => exact absurd h (by simp)

section

variable {u : State} {n : Half} {r : Piece} {o : Removal}

/-- A removal that withdraws no GRANT queues no TICKET and drops no frame but the FEED_STATE. -/
theorem State.removePiece_urgent (hr : u.findPiece n = some r) (ho : o ≠ .purged ∧ o ≠ .releaseMissed) :
    (u.port.urgent.filter fun x => !x.isFeedState).Sublist (u.removePiece n o).port.urgent ∧
      ∀ x ∈ (u.removePiece n o).port.urgent, ∀ m, x.ticketPiece = some m → x ∈ u.port.urgent := by
  obtain ⟨grants, hurgent, hof⟩ := (State.removePiece_grown o hr).urgent
  have htaken : (u.takenOut r o).port.urgent = u.port.urgent := by
    rw [State.takenOut, State.withdrawRemoved, if_neg (fun h => h.2.elim ho.1 ho.2)]
    rfl
  rw [htaken] at hurgent
  refine ⟨List.Sublist.trans ?_ List.filter_sublist (l₂ := (u.removePiece n o).port.urgent.filter fun x => !x.isFeedState),
    fun x hx m hm => ?_⟩
  · rw [hurgent]
    exact List.sublist_append_left _ _
  · have hnotState : x.isFeedState = false := by
      by_contra h
      simp [Queued.ticketPiece_of_feedState (by simpa using h)] at hm
    have hkept : x ∈ (u.removePiece n o).port.urgent.filter fun x => !x.isFeedState :=
      List.mem_filter.mpr ⟨hx, by simp [hnotState]⟩
    rw [hurgent] at hkept
    rcases List.mem_append.mp hkept with hold | hnew
    · exact List.mem_of_mem_filter hold
    · obtain ⟨-, w, -, hw, -⟩ := hof x hnew
      simp [Queued.ticketPiece_of_grant hw] at hm

end

/-- Serving the oldest pending record queues at most its TICKET. -/
theorem State.servePending_urgent (s : State) (c : Lane) (n : SlotName) : ∃ new,
    (s.servePending c n).port.urgent = s.port.urgent ++ new ∧
      ∀ x ∈ new, ∃ w ∈ s.pendingOf c, x.ticketPiece = some w.number := by
  unfold State.servePending
  split
  · exact ⟨[], (List.append_nil _).symm, by simp⟩
  next w rest hw =>
    refine ⟨_, rfl, fun x hx => ?_⟩
    rw [List.mem_singleton] at hx
    exact ⟨w, by rw [hw]; exact List.mem_cons_self, by rw [hx]; rfl⟩

/-! ### The discharge (R145) -/

section

variable {s : State} {c : Lane} {n : SlotName} {owner carried : Half} {r : Piece} {o : Removal}

/-- What a discharge leaves alone, the slot it frees and the frames that wait (R138, R139, R145, R176). -/
theorem State.discharge_serves (hr : s.findPiece owner = some r) (ho : o ≠ .purged ∧ o ≠ .releaseMissed) :
    let t := s.discharge c n owner carried o
    t.pieces.discharged = (s.pieces.countRemoval o).discharged ∧ t.pieces.lost = (s.pieces.countRemoval o).lost ∧
      t.travel = s.travel ∧ t.eyes = s.eyes ∧ t.matcher = s.matcher ∧ State.sameOuter s t ∧
      State.servesSlot s t c n owner ∧ (∀ x ∈ t.port.urgent, x.ticketPiece ≠ some owner) ∧
      (s.port.urgent.filter fun x => x.ticketPiece != some owner && !x.isFeedState).Sublist t.port.urgent := by
  let u := s.dischargeable c n owner carried o
  let w := u.removePiece owner o
  have hfound : u.findPiece owner = some r := (State.findPiece_congr (s.dischargeable_pieces c n owner carried o) owner).trans hr
  have hreadies := s.dischargeable_readies c n owner carried o
  obtain ⟨⟨hpins, hmgmt, hindex, hpending, hown⟩, htravel, heyes, hmatcher, hfree⟩ := s.dischargeable_only c n owner carried o
  have honly := u.removePiece_lineOnly owner o
  obtain ⟨hlost, hdischarged⟩ := hreadies.totalled o hfound
  obtain ⟨-, -, -, -, -, hdischarged', hlost'⟩ := w.servePending_blocks c n
  obtain ⟨spins, sport, stravel, smgmt, sindex, spending⟩ := w.servePending_trackOnly c n
  obtain ⟨seyes, smatcher⟩ := w.servePending_eyes c n
  obtain ⟨hkept, hold⟩ := State.removePiece_urgent hfound ho
  obtain ⟨new, hnew, hof⟩ := w.servePending_urgent c n
  have hurgent := s.dischargeable_urgent c n owner carried o
  rw [State.discharge_eq]
  refine ⟨hdischarged'.trans hdischarged, hlost'.trans hlost, stravel.trans (honly.travel.trans htravel),
    seyes.trans (honly.eyes.trans heyes), smatcher.trans (honly.matcher.trans hmatcher),
    ⟨spins.trans (honly.pins.trans hpins), smgmt.trans (honly.mgmt.trans hmgmt), sindex.trans (honly.freeIndex.trans hindex),
      spending.trans (honly.pending.trans hpending),
      (congrArg RingPort.own sport :).trans ((congrArg RingPort.own honly.port :).trans hown)⟩,
    hreadies.servesSlot o hfound hmgmt hfree, fun x hx hname => ?_, ?_⟩
  · rw [hnew] at hx
    rcases List.mem_append.mp hx with hx | hx
    · have hwaits := hold x hx owner hname
      rw [hurgent] at hwaits
      simp [hname] at hwaits
    · obtain ⟨p, hp, hpname⟩ := hof x hx
      rw [hreadies.pendingOf o hfound] at hp
      have hne : p.number ≠ owner := by simpa using (List.mem_filter.mp hp).2
      exact hne (Option.some.inj (hpname.symm.trans hname))
  · rw [hurgent, List.filter_filter] at hkept
    rw [hnew, show (fun x : Queued => x.ticketPiece != some owner && !x.isFeedState) =
      fun x => !x.isFeedState && x.ticketPiece != some owner from funext fun x => Bool.and_comm _ _]
    exact hkept.trans (List.sublist_append_left _ _)

/-- The table, the fault block, the line and the batch after a discharge (R121, R122, R130, R145, R153). -/
theorem State.discharge_removes (hr : s.findPiece owner = some r) (ho : ¬ r.evaluatedBy o) :
    let t := s.discharge c n owner carried o
    let u := s.dischargeable c n owner carried o
    (s.removesStill r → t.findPiece owner = none ∧ t.faults = u.faults) ∧
      (s.line.state = .draining → s.pieces.records = [r] → State.entersConfig s t .command) ∧
      (∀ (i : Nat) (b d : BatchEntry) (first : Nat), s.line.state = .suspect → r.anonymous = false →
        s.placeOf r.batch = some i → s.batchAt i = some b → b.state = .closing → b.live - 1 = 0 →
        d = b.afterRemoval r.article r.doubt o → d.firstSlot first → carried = owner → o ≠ .jammed →
        State.sendsEntry s t i { d with state := .sending, nextSlot := some first }) ∧
      ∀ (i : Nat) (b : BatchEntry), s.removesStill r →
        (s.line.state ≠ .draining ∨ ∃ q ∈ s.pieces.records, q.number ≠ owner) → r.anonymous = false →
        s.placeOf r.batch = some i → s.batchAt i = some b → ¬(b.state = .closing ∧ b.live - 1 = 0) →
        t.batchAt i = some (b.afterRemoval r.article r.doubt o) := by
  intro t u
  let w := u.removePiece owner o
  have hfound : u.findPiece owner = some r := (State.findPiece_congr (s.dischargeable_pieces c n owner carried o) owner).trans hr
  have hreadies := s.dischargeable_readies c n owner carried o
  obtain ⟨hfeed, hbatch, hline, hfaults, hroutine, -⟩ := w.servePending_blocks c n
  refine ⟨fun hstill => ?_, fun hdraining hlast => ?_, fun i b d first hsuspect ha hi hb hclosing hlive hd hfirst hc hj => ?_,
    fun i b hstill hstays ha hi hb hlive => ?_⟩
  · obtain ⟨hrecords, hfaults', -⟩ := hreadies.removed (o := o) hfound hstill (.inr ho)
    exact ⟨State.servePending_findPiece_none (State.findPiece_without hrecords), hfaults.trans hfaults'⟩
  · exact State.entersConfig_after hline hfeed hbatch hroutine
      (hreadies.entersConfig o hdraining hfound (State.last_number hr hlast))
  · have hu : u = (s.withdrawTicket owner).freeSlot c n := by
      show (((s.noteMismatch c owner carried).noteJam c owner o).withdrawTicket owner).freeSlot c n = _
      rw [State.noteJam_eq, if_neg hj, State.noteMismatch_eq, if_pos hc]
    have hsends : State.sendsEntry u w i { d with state := .sending, nextSlot := some first } := by
      refine State.removePiece_sendsEntry (by rw [hreadies.line, hsuspect]) hfound ha ?_ ?_ hclosing hlive hd hfirst
      · unfold State.placeOf at *
        rwa [hreadies.batch]
      · rwa [State.batchAt_congr (congrArg BatchCounter.places hreadies.batch)]
    refine State.sendsEntry_after (congrArg BatchCounter.places hbatch) (congrArg BatchCounter.sendOrder hbatch) (more := [])
      (hroutine.trans (List.append_nil _).symm) (State.sendsEntry_before ?_ ?_ ?_ hsends) <;> rw [hu] <;> rfl
  · refine (State.batchAt_congr (congrArg BatchCounter.places hbatch) i).trans ?_
    exact hreadies.batchAt hfound hstill (.inr ho) hstays ha hi hb hlive

end

/-! ### The hand-over (R137, R139) -/

section

variable {s : State} {n : Half} {r : Piece}

theorem State.handOver_pointer (hr : s.findPiece n = some r) (h : (s.channel r.lane).owner (s.channel r.lane).next = none) :
    s.handOver n = s.assignSlot r.lane (s.channel r.lane).next r := by
  simp [State.handOver, hr, h]

theorem State.handOver_other (hr : s.findPiece n = some r) (h : (s.channel r.lane).owner (s.channel r.lane).next ≠ none)
    (h' : (s.channel r.lane).owner (s.channel r.lane).next.other = none) :
    s.handOver n = s.assignSlot r.lane (s.channel r.lane).next.other r := by
  simp [State.handOver, hr, h, h']

theorem State.handOver_pending (hr : s.findPiece n = some r) (hx : (s.channel r.lane).owner .x ≠ none)
    (hy : (s.channel r.lane).owner .y ≠ none) : s.handOver n = s.onPiece n fun q =>
      { q with ticket := .pending
               deadline := r.exitLead.map fun p => posAdd p ((s.lane r.lane).cfg.arming : Nat) } := by
  have hboth (m : SlotName) : (s.channel r.lane).owner m ≠ none := by
    cases m
    · exact hx
    · exact hy
  simp [State.handOver, hr, hboth]

end

/-! ### The count of a piece under its code (R119, R120) -/

section

variable {b : BatchEntry} {code : Byte} {k : CountName} {i : Nat} {x : TallySlot}

theorem findIdx_eq_of_first {α : Type} {p : α → Bool} {l : List α} {i : Nat} {x : α} (hx : l[i]? = some x) (hp : p x = true)
    (hbefore : ∀ j y, j < i → l[j]? = some y → p y = false) : l.findIdx? p = some i := by
  obtain ⟨hi, rfl⟩ := List.getElem?_eq_some_iff.mp hx
  refine List.findIdx?_eq_some_iff_getElem.mpr ⟨hi, hp, fun j hj => ?_⟩
  simp [hbefore j _ hj (List.getElem?_eq_getElem (hj.trans hi))]

theorem BatchEntry.count_at (hi : slotIndex b.slots code = some i) (hx : b.slots[i]? = some x) :
    b.count code k = { b with slots := b.slots.set i { code := some code, counts := x.counts.bump k } } := by
  unfold BatchEntry.count
  rw [hi]
  simp only
  rw [List.modify_eq_set_getElem?, hx]
  rfl

/-- The slot of a code: the one that holds it, else the lowest unused (R120). -/
theorem slotIndex_eq {slots : List TallySlot} (hx : slots[i]? = some x)
    (hbefore : ∀ j y, j < i → slots[j]? = some y → y.code ≠ some code)
    (h : x.code = some code ∨ (x.code = none ∧ (∀ y ∈ slots, y.code ≠ some code) ∧
      ∀ j y, j < i → slots[j]? = some y → y.code ≠ none)) : slotIndex slots code = some i := by
  unfold slotIndex
  rcases h with hholds | ⟨hunused, hnone, hused⟩
  · rw [findIdx_eq_of_first hx (by simpa using hholds) fun j y hj hy => by simpa using hbefore j y hj hy]
  · rw [List.findIdx?_eq_none_iff.mpr fun y hy => by simpa using hnone y hy]
    exact findIdx_eq_of_first hx (by simpa using hunused) fun j y hj hy => by
      simpa [Option.isSome_iff_ne_none] using hused j y hj hy

theorem BatchEntry.count_other (h : ∀ y ∈ b.slots, y.code ≠ some code ∧ y.code ≠ none) :
    b.count code k = { b with other := b.other.bump k } := by
  have hnone : slotIndex b.slots code = none := by
    unfold slotIndex
    rw [List.findIdx?_eq_none_iff.mpr fun y hy => by simpa using (h y hy).1]
    exact List.findIdx?_eq_none_iff.mpr fun y hy => by simpa [Option.isSome_iff_ne_none] using (h y hy).2
  rw [BatchEntry.count, hnone]

end

/-! ### SLOT_FREE (R144, R145) -/

theorem exec_slotFree_discharges {e : Envelope} {channel slot : Byte} {piece : Half} {outcome : Byte} {s : State} {c : Lane}
    {n : SlotName} {owner : Half} {r : Piece}
    (hown : s.admitsOwn (slotFreeFrame e channel slot piece outcome) = true) (hc : Lane.ofNumber channel.toNat = some c)
    (hn : slotOf slot = some n) (hlow : 1 ≤ outcome.toNat) (hhigh : outcome.toNat ≤ 3)
    (howner : (s.channel c).owner n = some owner) (hr : s.findPiece owner = some r) :
    ∃ t : State, exec (.slotFree e channel slot piece outcome) s = .next t ∧
      t.pieces.discharged = s.pieces.discharged + (if outcome.toNat = 3 then 0 else 1) ∧
      t.pieces.lost = s.pieces.lost + (if outcome.toNat = 3 then 1 else 0) ∧
      t.travel = s.travel ∧ t.eyes = s.eyes ∧ t.matcher = s.matcher ∧ State.sameOuter s t ∧
      (s.line.state ≠ .run → t.findPiece owner = none) ∧
      State.servesSlot s t c n owner ∧
      (∀ x ∈ t.port.urgent, x.ticketPiece ≠ some owner) ∧
      (s.port.urgent.filter fun x => x.ticketPiece != some owner && !x.isFeedState).Sublist t.port.urgent ∧
      (∀ mismatch jam : Raised, mismatch = slotMismatch c owner → jam = folderJam c owner →
        s.line.state ≠ .run ∨ s.removesQuietly r.batch = true →
        (piece ≠ owner → outcome.toNat ≠ 3 → State.recorded s t mismatch) ∧
        (piece = owner → outcome.toNat = 3 → State.recorded s t jam) ∧
        (piece ≠ owner → outcome.toNat = 3 → State.recordedTwo s t mismatch jam) ∧
        (piece = owner → outcome.toNat ≠ 3 → t.faults = s.faults)) ∧
      (s.line.state = .draining → s.pieces.records = [r] → State.entersConfig s t .command) ∧
      (∀ (i : Nat) (b d : BatchEntry) (first : Nat), s.line.state = .suspect → r.anonymous = false →
        s.placeOf r.batch = some i → s.batchAt i = some b → b.state = .closing → b.live - 1 = 0 →
        d = { b with live := b.live - 1 }.count r.article
          (if outcome.toNat = 3 then .lost else if outcome.toNat = 2 then .reject
            else if r.doubt then .flagged else .good) →
        d.firstSlot first → piece = owner → outcome.toNat ≠ 3 →
        State.sendsEntry s t i { d with state := .sending, nextSlot := some first }) ∧
      ∀ (i : Nat) (b : BatchEntry),
        (s.line.state = .suspect ∨ (s.line.state = .run ∧ s.removesQuietly r.batch = true) ∨
          (s.line.state = .draining ∧ ∃ q ∈ s.pieces.records, q.number ≠ owner)) →
        r.anonymous = false → s.placeOf r.batch = some i →
        s.batchAt i = some b → ¬(b.state = .closing ∧ b.live - 1 = 0) →
        t.batchAt i = some ({ b with live := b.live - 1 }.count r.article
          (if outcome.toNat = 3 then .lost else if outcome.toNat = 2 then .reject
            else if r.doubt then .flagged else .good)) := by
  obtain ⟨o, ho⟩ := folderOutcome_isSome hlow hhigh
  have hjam := folderOutcome_jammed ho
  have hfreed : s.received.slotFreed channel slot piece outcome = s.received.discharge c n owner piece o := by
    simp only [State.slotFreed, hc, hn, ho, show (s.received.channel c).owner n = some owner from howner]
  have hnotWithdrawn : o ≠ .purged ∧ o ≠ .releaseMissed := by
    rcases folderOutcome_eq ho with ⟨-, rfl⟩ | ⟨-, rfl⟩ | ⟨-, rfl⟩ <;> simp
  have hr' : s.received.findPiece owner = some r := hr
  obtain ⟨hdischarged, hlost, htravel, heyes, hmatcher, houter, hserves, hnone, hkept⟩ :=
    State.discharge_serves (c := c) (n := n) (carried := piece) hr' hnotWithdrawn
  obtain ⟨hremoves, hconfig, hsends, hentry⟩ :=
    State.discharge_removes (c := c) (n := n) (carried := piece) hr' (folderOutcome_notEvaluated ho r)
  obtain ⟨htotal, htotal'⟩ := folderOutcome_totals ho s.received.pieces
  obtain ⟨honly, hjammed, htwo, hquiet⟩ := s.received.dischargeable_faults c n owner piece o
  refine ⟨_, exec_slotFree hown hfreed, hdischarged.trans htotal, hlost.trans htotal', htravel, heyes, hmatcher, houter,
    fun hrun => (hremoves (.inl hrun)).1, hserves, hnone, hkept, fun mismatch jam hm hj hstill => ?_, hconfig,
    fun i b d first hsuspect ha hi hb hclosing hlive hd hfirst hsame h3 => ?_, fun i b hstate ha hi hb hlive => ?_⟩
  · have hfaults := (hremoves hstill).2
    subst hm hj
    refine ⟨fun hne h3 => ?_, fun heq h3 => ?_, fun hne h3 => ?_, fun heq h3 => ?_⟩
    · exact State.recorded_faults hfaults (honly hne (mt hjam.mp h3))
    · exact State.recorded_faults hfaults (hjammed heq (hjam.mpr h3))
    · have hrecorded := htwo hne (hjam.mpr h3)
      unfold State.recordedTwo at *
      rwa [← hfaults] at hrecorded
    · exact hfaults.trans (hquiet heq (mt hjam.mp h3))
  · exact hsends i b d first hsuspect ha hi hb hclosing hlive (hd.trans (folderOutcome_counts ho b _ _).symm) hfirst hsame
      (mt hjam.mp h3)
  · have hat := hentry i b (by
      rcases hstate with h | ⟨-, h⟩ | ⟨h, -⟩
      · exact .inl (by simp [State.received, h])
      · exact .inr h
      · exact .inl (by simp [State.received, h])) (by
      rcases hstate with h | ⟨h, -⟩ | ⟨-, h⟩
      · exact .inl (by simp [State.received, h])
      · exact .inl (by simp [State.received, h])
      · exact .inr h) ha hi hb hlive
    exact hat.trans (congrArg some (folderOutcome_counts ho b _ _))

/-- Settles O35: the discharge is a removal made ready by its faults, its TICKET withdrawn and its slot FREE, and the service
of the channel's oldest pending record behind it. -/
theorem slotFreeDischarges : Obligations.SlotFreeDischarges := by
  unfold Obligations.SlotFreeDischarges
  refine ⟨fun e channel slot piece outcome s c n owner r => exec_slotFree_discharges, fun s n r hr =>
    ⟨State.handOver_pointer hr, State.handOver_other hr, fun hx hy p hp => ?_⟩,
    fun b code k i x hx hbefore h => BatchEntry.count_at (slotIndex_eq hx hbefore h) hx,
    fun b code k => BatchEntry.count_other, fun a => ⟨rfl, rfl, rfl, rfl⟩⟩
  rw [State.handOver_pending hr hx hy, hp]
  simp only [State.onPiece, State.onPieces, beq_iff_eq]
  rfl

end Sys2Proof.Machine

/-! SUPPORT. The obligation on GET: what section 10.6 says of each part that it names, byte by byte (R182). -/

namespace Sys2Proof.Machine

open Sys2Proof

/-! ### The bytes of a content (section 10.6) -/

theorem fillFrom_stated_append (index offset : Nat) (l : List Byte) (c : Content) :
    fillFrom index offset (stated l ++ c) = l ++ fillFrom index (offset + l.length) c := by
  induction l generalizing offset with
  | nil => rfl
  | cons b l ih =>
    have hstep : fillFrom index offset (stated (b :: l) ++ c) = b :: fillFrom index (offset + 1) (stated l ++ c) := rfl
    rw [hstep, ih, List.length_cons, Nat.add_right_comm, Nat.add_assoc, List.cons_append]

/-- A content that is stated throughout is sent as it is. -/
theorem fillFrom_stated (index offset : Nat) (l : List Byte) : fillFrom index offset (stated l) = l := by
  have h := fillFrom_stated_append index offset l []
  rwa [List.append_nil, fillFrom, List.append_nil] at h

theorem stated_append (a b : List Byte) : stated a ++ stated b = stated (a ++ b) := (List.map_append ..).symm

theorem byteOf_bool (b : Bool) : fieldBool b = [if b then 1 else 0] := by
  cases b <;> rfl

section

variable (s : State)

/-! ### STATUS (R187) -/

theorem State.statusBytes_eq : s.statusBytes =
    [(match s.line.state with | .config => 0 | .run => 1 | .draining => 2 | .suspect => 3),
      BitVec.ofNat 8 (match s.line.cause with | none => 0 | some f => f.number),
      BitVec.ofNat 8 s.feed.occupancy, (if s.feed.hold then 1 else 0), (if s.feed.fhold then 1 else 0),
      (if s.travel.running then 1 else 0)] ++
    bytes16 (match s.currentBatch with | none => 0 | some n => n) ++
    [(match s.batch.block with | none => 0 | some .numberHeld => 1 | some .listFull => 2),
      BitVec.ofNat 8 s.faults.overflow, s.port.own] ++
    bytes32 s.travel.position ++ bytes24 s.travel.ringTime := by
  have hstate : byteOf s.line.state.number =
      (match s.line.state with | .config => 0 | .run => 1 | .draining => 2 | .suspect => 3 : Byte) := by
    cases s.line.state <;> rfl
  have hcause : byteOf (causeNumber s.line.cause) =
      BitVec.ofNat 8 (match s.line.cause with | none => 0 | some f => f.number) := by
    cases s.line.cause <;> rfl
  have hbatch : s.currentBatch.getD 0 = (match s.currentBatch with | none => 0 | some n => n) := by
    cases s.currentBatch <;> rfl
  have hblock : byteOf (blockNumber s.batch.block) =
      (match s.batch.block with | none => 0 | some .numberHeld => 1 | some .listFull => 2 : Byte) := by
    cases s.batch.block with
    | none => rfl
    | some c => cases c <;> rfl
  rw [State.statusBytes, hstate, hcause, hbatch, hblock, byteOf_bool, byteOf_bool, byteOf_bool]
  rfl

/-! ### LANE (R118) -/

variable {s}

theorem State.laneContent_request {l : Lane} {q : LaneRequest} (h : (s.lane l).request = some q) : s.laneContent l 0 =
    stated ([(if (s.lane l).cfg.enabled then 1 else 0), (s.lane l).cfg.node, BitVec.ofNat 8 (s.lane l).cfg.level,
        (s.lane l).cfg.widths] ++
      bytes16 (BitVec.ofNat 16 (s.lane l).cfg.release) ++ bytes16 (BitVec.ofNat 16 (s.lane l).cfg.grantDist) ++
      bytes16 (BitVec.ofNat 16 (s.lane l).cfg.feedDist) ++ bytes16 (BitVec.ofNat 16 (s.lane l).cfg.arming) ++
      [(match (s.lane l).run with | .offline => 0 | .idle => 1 | .ready => 2 | .granted => 3),
        q.span.setWidth 8, q.article] ++ bytes16 q.batch ++
      [BitVec.ofNat 8 (s.lane l).early,
        (match s.feed.order.findIdx? (· == l) with | none => 255 | some place => BitVec.ofNat 8 place)]) := by
  have hrun : byteOf (s.lane l).run.number =
      (match (s.lane l).run with | .offline => 0 | .idle => 1 | .ready => 2 | .granted => 3 : Byte) := by
    cases (s.lane l).run <;> rfl
  have hplace : byteOf ((s.feed.order.findIdx? (· == l)).getD 255) =
      (match s.feed.order.findIdx? (· == l) with | none => 255 | some place => BitVec.ofNat 8 place : Byte) := by
    cases s.feed.order.findIdx? (· == l) <;> rfl
  rw [State.laneContent, if_pos rfl, h, requestContent, stated_append, stated_append, LaneConfig.fields, byteOf_bool, hrun,
    hplace]
  rfl

/-! ### PIECE (R62) -/

theorem Piece.part_ticketed {r : Piece} {c : Lane} {n : SlotName} : r.ticketSlot = some (c, n) →
    stated (bytes16 r.number) ++ r.part 0 = stated (bytes16 r.number ++
      [(if r.anonymous then 1 else 0),
        (match r.state with | .granted => 1 | .onFeed => 2 | .inIroner => 3 | .atFolder => 4),
        BitVec.ofNat 8 r.lane.number, r.span.setWidth 8, r.article] ++ bytes16 r.batch ++
      [(if r.doubt then 1 else 0), BitVec.ofNat 8 r.reject.number,
        (match r.ticket with | .none => 0 | .pending => 1 | .sent => 2 | .delivered => 3),
        BitVec.ofNat 8 c.number, (match n with | .x => 0 | .y => 1), (if r.trailFinal then 1 else 0)] ++
      bytes32 r.orderKey) := by
  have hstate : byteOf r.state.number =
      (match r.state with | .granted => 1 | .onFeed => 2 | .inIroner => 3 | .atFolder => 4 : Byte) := by
    cases r.state <;> rfl
  have hticket : byteOf r.ticket.number =
      (match r.ticket with | .none => 0 | .pending => 1 | .sent => 2 | .delivered => 3 : Byte) := by
    cases r.ticket <;> rfl
  have hslot : byteOf n.number = (match n with | .x => 0 | .y => 1 : Byte) := by
    cases n <;> rfl
  intro h
  simp only [Piece.part, h, ticketContent, stated_append, byteOf_bool, hstate, hticket, hslot]
  rfl

/-! ### BATCH and FAULT (R133, R159) -/

theorem BatchEntry.slotContent_eq {b : BatchEntry} {x : TallySlot} {part : Nat} (hlow : 1 ≤ part) (hhigh : part ≤ 8)
    (hx : b.slots[part - 1]? = some x) : b.slotContent part = stated ([(match x.code with | none => 0 | some a => a)] ++
      bytes16 (BitVec.ofNat 16 x.counts.good) ++ bytes16 (BitVec.ofNat 16 x.counts.flagged) ++
      bytes16 (BitVec.ofNat 16 x.counts.reject) ++ bytes16 (BitVec.ofNat 16 x.counts.lost)) := by
  have hzero : part ≠ 0 := by omega
  have hother : part ≠ 9 := by omega
  have hcode : b.codeOf part = (match x.code with | none => 0 | some a => a) := by
    rw [BatchEntry.codeOf, if_neg hzero, if_neg hother, hx]
    show x.code.getD 0 = _
    cases x.code <;> rfl
  have hcounts : b.countsOf part = x.counts := by
    rw [BatchEntry.countsOf, if_neg hzero, if_neg hother, hx]
    rfl
  rw [BatchEntry.slotContent, hcode, hcounts]
  rfl

theorem State.faultContent_lane {r : FaultRecord} {l : Lane} {i : Nat} (hr : s.faults.list[i]? = some r)
    (h : r.site = .lane l) : s.faultContent i = stated ([BitVec.ofNat 8 r.code.number,
        (match r.severity with | .noted => 0 | .piece => 1 | .doubt => 2 | .line => 3)] ++
      bytes24 r.stamp ++ bytes32 r.position ++ bytes16 (match r.piece with | none => 0 | some n => n) ++
      [2, 0, BitVec.ofNat 8 l.number, (if r.suspect then 1 else 0)]) := by
  have hseverity : byteOf r.severity.number =
      (match r.severity with | .noted => 0 | .piece => 1 | .doubt => 2 | .line => 3 : Byte) := by
    cases r.severity <;> rfl
  have hpiece : r.piece.getD 0 = (match r.piece with | none => 0 | some n => n) := by
    cases r.piece <;> rfl
  rw [State.faultContent, hr]
  simp only [h, Site.content, stated_append, hseverity, hpiece, byteOf_bool]
  rfl

end

/-! ### GET (R182) -/

theorem State.performing_content (s : State) (t : Table) (i part : Nat) : s.performing.content t i part = s.content t i part := by
  cases t <;> rfl

/-- GET of a part that an entry has, answered with its content. -/
theorem exec_get {e : Envelope} {part : Byte} {s : State} (h : s.admitsRequest (requestFrame e [3, part]) = true)
    (hindex : s.mgmt.index < s.mgmt.table.entries) (hpart : part.toNat < s.mgmt.table.parts) :
    exec (.get e part) s = .next ({ s.received with
        freeIndex := s.freeIndex + 1
        mgmt := { s.mgmt with
          index := if part.toNat + 1 = s.mgmt.table.parts then s.mgmt.index + 1 else s.mgmt.index } }.answered
      (requestFrame e [3, part]) 0
      ([BitVec.ofNat 8 s.mgmt.table.number, BitVec.ofNat 8 s.mgmt.index,
        BitVec.ofNat 8 (if part.toNat + 1 = s.mgmt.table.parts then part.toNat + 128 else part.toNat)] ++
        fillFrom s.freeIndex 0 (s.content s.mgmt.table s.mgmt.index part.toNat))) := by
  have hget : s.performing.perform 3 [part] =
      { state := { s.performing.afterGet part.toNat with freeIndex := s.freeIndex + 1 }, result := resDone,
        data := [byteOf s.mgmt.table.number, byteOf s.mgmt.index, partByte part.toNat s.mgmt.table.parts] ++
          fillFrom s.freeIndex 0 (s.performing.content s.mgmt.table s.mgmt.index part.toNat) } := by
    show s.performing.doGet part = _
    unfold State.doGet
    exact (if_neg (Nat.not_le.mpr hindex)).trans (if_neg (Nat.not_le.mpr hpart))
  have hexec := exec_request (c := .get e part) h hget
  rw [hexec, State.performing_content]
  unfold State.afterGet
  split
  next hlast =>
    have hlast' : part.toNat + 1 = s.mgmt.table.parts := hlast
    rw [if_pos hlast']
    rfl
  next hmore =>
    have hmore' : ¬ part.toNat + 1 = s.mgmt.table.parts := hmore
    rw [if_neg hmore']
    rfl

theorem exec_get_refused {e : Envelope} {part : Byte} {s : State} {result : Byte}
    (h : s.admitsRequest (requestFrame e [3, part]) = true) (hget : s.performing.doGet part = s.performing.refuse result) :
    exec (.get e part) s = .next (s.received.answered (requestFrame e [3, part]) result []) :=
  exec_request (c := .get e part) h hget

/-- Settles O45: the content of each part that section 10.6 is stated for, table by table. -/
theorem getReadsEntry : Obligations.GetReadsEntry := by
  unfold Obligations.GetReadsEntry
  refine ⟨fun e part s h hindex hpart => ⟨_, rfl, exec_get h hindex hpart, ?_⟩, fun e part s h hindex => ?_,
    fun e part s h hindex hpart => ?_⟩
  · refine ⟨fun ht hp => ?_, fun ht hp => ?_, fun l q ht hp hl hq => ?_, fun l ht hp hl hq => ?_,
      fun r c n ht hp hr hn => ?_, fun b x ht hlow hhigh hb hx => ?_, fun r l ht hr hl => ?_, fun ht hempty => ?_,
      fun ht hempty => ?_, fun ht hempty => ?_⟩
    case _ =>
      rw [ht, hp]
      exact fillFrom_stated ..
    case _ =>
      rw [ht, hp]
      exact (fillFrom_stated ..).trans s.statusBytes_eq
    case _ =>
      have hcontent : s.content .lane s.mgmt.index 0 = s.laneContent l 0 := by
        rw [State.content, Lane.ofNumber_eq_some.mpr hl.symm]
        rfl
      rw [ht, hp, hcontent, State.laneContent_request hq]
      exact fillFrom_stated ..
    case _ =>
      have hcontent : s.content .lane s.mgmt.index 0 = s.laneContent l 0 := by
        rw [State.content, Lane.ofNumber_eq_some.mpr hl.symm]
        rfl
      rw [ht, hp, hcontent, State.laneContent, if_pos rfl, hq]
      rfl
    case _ =>
      have hcontent : s.content .piece s.mgmt.index 0 = stated (bytes16 r.number) ++ r.part 0 := by
        rw [State.content, State.pieceContent, hr]
      rw [ht, hp, hcontent, Piece.part_ticketed hn]
      exact fillFrom_stated ..
    case _ =>
      have hcontent : s.content .batch s.mgmt.index part.toNat = stated (bytes16 b.number) ++ b.slotContent part.toNat := by
        rw [State.content, State.batchContent, hb]
        simp only
        rw [if_neg (by omega)]
      rw [ht, hcontent, BatchEntry.slotContent_eq hlow hhigh hx, stated_append]
      exact fillFrom_stated ..
    case _ =>
      have hcontent : s.content .fault s.mgmt.index part.toNat = s.faultContent s.mgmt.index := rfl
      rw [ht, hcontent, State.faultContent_lane hr hl]
      exact fillFrom_stated ..
    case _ =>
      have hcontent : s.content .piece s.mgmt.index part.toNat = stated [0, 0] ++ emptyPiecePart part.toNat := by
        rw [State.content, State.pieceContent, List.getElem?_eq_none hempty]
      rw [ht, hcontent, fillFrom_stated_append]
      refine ⟨rfl, fun hp => ?_, fun hp => ?_, fun hp => ?_, fun hp => ?_, fun hp => ?_⟩ <;> rw [hp]
      · exact ⟨rfl, rfl⟩
      · exact ⟨rfl, rfl, rfl⟩
      · exact ⟨rfl, rfl, rfl⟩
      · exact ⟨rfl, rfl⟩
      · exact ⟨rfl, rfl, rfl⟩
    case _ =>
      have hcontent : s.content .batch s.mgmt.index part.toNat = stated [0, 0] ++ emptyBatchPart part.toNat := by
        rw [State.content, State.batchContent, hempty]
      rw [ht, hcontent, fillFrom_stated_append]
      refine ⟨rfl, fun hp => ?_, fun hlow hhigh => ?_⟩
      · rw [hp]
        exact ⟨rfl, rfl, rfl, rfl⟩
      · have hpart' : emptyBatchPart part.toNat = stated [0] ++ unstated 8 := by
          rw [emptyBatchPart, if_neg (by omega), if_neg (by omega)]
        rw [hpart']
        exact ⟨rfl, rfl⟩
    case _ =>
      have hcontent : s.content .fault s.mgmt.index part.toNat =
          stated [0] ++ unstated 8 ++ stated [0, 0] ++ Site.absent.content ++ unstated 1 := by
        rw [State.content, State.faultContent, List.getElem?_eq_none hempty]
      rw [ht, hcontent]
      exact ⟨rfl, rfl, rfl, rfl, rfl⟩
  · exact exec_get_refused h (if_pos hindex)
  · exact exec_get_refused h ((if_neg (Nat.not_le.mpr hindex)).trans (if_pos hpart))

end Sys2Proof.Machine

/-! SUPPORT. PUT: which entry it writes, what its fields parse to, and the obligation on the refusals (R183 to R185). -/

namespace Sys2Proof.Machine

open Sys2Proof

/-! ### The entry that a PUT reaches (R183) -/

section

variable {s : State} {f : List Byte}

theorem State.putAnswer_entry (hwritten : s.mgmt.table.readOnly = false) (hindex : s.mgmt.index < s.mgmt.table.entries)
    (hlen : f.length = putLength s.mgmt.table s.mgmt.index) : s.putAnswer f = s.putEntry s.mgmt.table s.mgmt.index f := by
  rw [State.putAnswer, hwritten, if_neg (by simp), if_neg (Nat.not_le.mpr hindex), if_neg (not_not_intro hlen)]

theorem State.putAnswer_badLength (hwritten : s.mgmt.table.readOnly = false) (hindex : s.mgmt.index < s.mgmt.table.entries)
    (hlen : f.length ≠ putLength s.mgmt.table s.mgmt.index) : s.putAnswer f = .refused resBadRequest := by
  rw [State.putAnswer, hwritten, if_neg (by simp), if_neg (Nat.not_le.mpr hindex), if_pos hlen]

theorem State.putAnswer_eye (ht : s.mgmt.table = .eye) (hi : s.mgmt.index < 32) (hlen : f.length = 7) :
    s.putAnswer f = s.putEye s.mgmt.index f := by
  rw [State.putAnswer_entry (by rw [ht]; rfl) (by rw [ht]; exact hi) (by rw [ht]; exact hlen), ht]
  rfl

theorem State.putAnswer_lane {l : Lane} (ht : s.mgmt.table = .lane) (hl : l.number = s.mgmt.index + 1)
    (hlen : f.length = 12) : s.putAnswer f = s.putLane l f := by
  have hi : s.mgmt.index < 4 := by
    have : l.number ≤ 4 := by cases l <;> decide
    omega
  rw [State.putAnswer_entry (by rw [ht]; rfl) (by rw [ht]; exact hi) (by rw [ht]; exact hlen), ht]
  simp only [State.putEntry, Lane.ofNumber_eq_some.mpr hl.symm]

theorem State.putAnswer_article (ht : s.mgmt.table = .article) (hi : s.mgmt.index < 64) (hlen : f.length = 13) :
    s.putAnswer f = s.putArticle s.mgmt.index f := by
  rw [State.putAnswer_entry (by rw [ht]; rfl) (by rw [ht]; exact hi) (by rw [ht]; exact hlen), ht]
  rfl

theorem State.putAnswer_pathLine (ht : s.mgmt.table = .path) (hi : s.mgmt.index = 0) (hlen : f.length = 9) :
    s.putAnswer f = s.putPathLine f := by
  rw [State.putAnswer_entry (by rw [ht]; rfl) (by rw [ht, hi]; decide) (by rw [ht, hi]; exact hlen), ht, hi]
  rfl

theorem State.putAnswer_pathWindows (ht : s.mgmt.table = .path) (hi : s.mgmt.index = 1) (hlen : f.length = 10) :
    s.putAnswer f = s.putPathWindows f := by
  rw [State.putAnswer_entry (by rw [ht]; rfl) (by rw [ht, hi]; decide) (by rw [ht, hi]; exact hlen), ht, hi]
  rfl

theorem State.putAnswer_pathFlow (ht : s.mgmt.table = .path) (hi : s.mgmt.index = 2) (hlen : f.length = 14) :
    s.putAnswer f = s.putPathFlow f := by
  rw [State.putAnswer_entry (by rw [ht]; rfl) (by rw [ht, hi]; decide) (by rw [ht, hi]; exact hlen), ht, hi]
  rfl

/-- A PUT that is refused changes nothing. -/
theorem exec_put_refused {e : Envelope} {result : Byte} (h : s.admitsRequest (requestFrame e (2 :: f)) = true)
    (hput : s.performing.putAnswer f = .refused result) :
    exec (.put e f) s = .next (s.received.answered (requestFrame e (2 :: f)) result []) := by
  have hdo : s.performing.perform 2 f = s.performing.refuse result := by
    show s.performing.doPut f = _
    rw [State.doPut, hput]
  have hexec := exec_request (c := .put e f) h hdo
  exact hexec

/-- A PUT that is written answers DONE or DONE_CLAMPED and steps the cursor. -/
theorem exec_put_written {e : Envelope} {t : State} {clamped : Bool} (h : s.admitsRequest (requestFrame e (2 :: f)) = true)
    (hput : s.performing.putAnswer f = .written t clamped) :
    exec (.put e f) s = .next ((t.onMgmt fun q => { q with index := q.index + 1 }).answered (requestFrame e (2 :: f))
      (if clamped then 1 else 0) [byteOf s.mgmt.table.number, byteOf s.mgmt.index]) := by
  have hdo : s.performing.perform 2 f =
      { state := t.onMgmt fun q => { q with index := q.index + 1 }
        result := if clamped then resClamped else resDone
        data := [byteOf s.mgmt.table.number, byteOf s.mgmt.index] } := by
    show s.performing.doPut f = _
    rw [State.doPut, hput]
    rfl
  exact exec_request (c := .put e f) h hdo

end

/-! ### Fields (R183) -/

theorem clampTo_eq {lo hi : Nat} (h : lo ≤ hi) (v : Nat) : clampTo lo hi v = max lo (min hi v) := by
  unfold clampTo
  split
  · omega
  · split <;> omega

theorem clampTo_zero (hi v : Nat) : clampTo 0 hi v = min hi v := by
  rw [clampTo_eq (Nat.zero_le hi), Nat.max_eq_right (Nat.zero_le _)]

theorem nodeOk_iff {b : Byte} : nodeOk b = true ↔ 1 ≤ b.toNat ∧ b.toNat ≤ 30 := by
  simp [nodeOk]

theorem nodeOk_false_iff {b : Byte} : nodeOk b = false ↔ b.toNat = 0 ∨ 30 < b.toNat := by
  rw [Bool.eq_false_iff, Ne, nodeOk_iff]
  omega

theorem Role.ofNumber_eq_some {n : Nat} {r : Role} : Role.ofNumber n = some r ↔ n = r.number := by
  constructor
  · intro h
    unfold Role.ofNumber at h
    split at h <;> cases h <;> rfl
  · rintro rfl
    cases r <;> rfl

theorem kindOf_eq_some {n : Nat} {k : Option Checkpoint} : kindOf n = some k ↔ n = kindNumber k := by
  constructor
  · intro h
    unfold kindOf at h
    split at h <;> cases h <;> rfl
  · rintro rfl
    cases k with
    | none => rfl
    | some k => cases k <;> rfl

theorem Role.number_le (r : Role) : r.number ≤ 3 := by
  cases r <;> decide

theorem kindNumber_le (k : Option Checkpoint) : kindNumber k ≤ 3 := by
  cases k with
  | none => decide
  | some k => cases k <;> decide

/-! ### EYE (R22) -/

section

variable {s : State} {f : List Byte} {i : Nat}

/-- The fields of an EYE PUT with a role that is not UNUSED. -/
def eyeFields (f : List Byte) (role : Role) (kind : Option Checkpoint) : EyeConfig :=
  { node := byteAt f 0, channel := byteAt f 1, role := role, kind := kind, lane := byteAt f 4,
    minLength := (byteAt f 5).toNat, threshold := (byteAt f 6).toNat }

theorem parseEye_of {role : Role} {kind : Option Checkpoint} (hrole : (byteAt f 2).toNat = role.number)
    (hkind : (byteAt f 3).toNat = kindNumber kind) :
    parseEye f = some (if role = .unused then EyeConfig.unused else eyeFields f role kind) := by
  simp only [parseEye, Role.ofNumber_eq_some.mpr hrole, kindOf_eq_some.mpr hkind, apply_ite some]
  rfl

theorem parseEye_eq_some {c : EyeConfig} (h : parseEye f = some c) : ∃ (role : Role) (kind : Option Checkpoint),
    (byteAt f 2).toNat = role.number ∧ (byteAt f 3).toNat = kindNumber kind ∧
      c = if role = .unused then EyeConfig.unused else eyeFields f role kind := by
  unfold parseEye at h
  split at h
  next role kind hrole hkind =>
    have hrole' := Role.ofNumber_eq_some.mp hrole
    have hkind' := kindOf_eq_some.mp hkind
    refine ⟨role, kind, hrole', hkind', ?_⟩
    split at h
    next hunused => rw [if_pos hunused, Option.some.inj h]
    next hused =>
      rw [if_neg hused]
      exact (Option.some.inj h).symm
  next => exact absurd h (by simp)

theorem State.otherEye_iff {p : EyeConfig → Bool} :
    s.otherEye i p = true ↔ ∃ j y, j ≠ i ∧ s.eyeAt j = some y ∧ p y.cfg = true := by
  simp only [State.otherEye, List.any_eq_true, Prod.exists, Bool.and_eq_true, bne_iff_ne, ne_eq, State.eyeAt,
    List.mk_mem_zipIdx_iff_getElem?]
  exact ⟨fun ⟨y, j, hy, hj, hp⟩ => ⟨j, y, hj, hy, hp⟩, fun ⟨j, y, hj, hy, hp⟩ => ⟨y, j, hy, hj, hp⟩⟩

/-- The checks that an EYE entry fails (R22). -/
theorem State.eyeAccepted_false {c : EyeConfig} (hrole : c.role ≠ .unused)
    (h : nodeOk c.node = false ∨ 7 < c.channel.toNat ∨ s.otherEye i c.sameKey = true ∨
      (c.role = .track ∧ (c.kind = none ∨ Lane.ofNumber c.lane.toNat = none ∨ s.otherEye i c.samePlace = true))) :
    s.eyeAccepted i c = false := by
  have hused : (c.role == .unused) = false := by simpa using hrole
  rcases h with hnode | hchannel | hkey | ⟨htrack, hkind | hlane | hplace⟩
  · simp [State.eyeAccepted, hused, hnode]
  · simp [State.eyeAccepted, hused, Nat.not_le.mpr hchannel]
  · simp [State.eyeAccepted, hused, hkey]
  · simp [State.eyeAccepted, htrack, hkind]
  · simp [State.eyeAccepted, htrack, hlane]
  · simp [State.eyeAccepted, htrack, hplace]

/-- The EYE fields that are refused (R22, R183). -/
theorem State.putEye_badValue (hconfig : s.line.state = .config)
    (h : 3 < (byteAt f 2).toNat ∨ 3 < (byteAt f 3).toNat ∨
      ((byteAt f 2).toNat ≠ 0 ∧
        ((byteAt f 0).toNat = 0 ∨ 30 < (byteAt f 0).toNat ∨ 7 < (byteAt f 1).toNat ∨
          ∃ j y, j ≠ i ∧ s.eyeAt j = some y ∧ y.cfg.role ≠ .unused ∧ y.cfg.node = byteAt f 0 ∧
            y.cfg.channel = byteAt f 1)) ∨
      ((byteAt f 2).toNat = 1 ∧
        ((byteAt f 3).toNat = 0 ∨ (byteAt f 4).toNat = 0 ∨ 4 < (byteAt f 4).toNat ∨
          ∃ j y k, j ≠ i ∧ s.eyeAt j = some y ∧ y.cfg.role = .track ∧ y.cfg.kind = some k ∧
            k.number = (byteAt f 3).toNat ∧ y.cfg.lane = byteAt f 4))) :
    s.putEye i f = .refused resBadValue := by
  rw [State.putEye, if_neg (not_not_intro hconfig)]
  cases hparse : parseEye f with
  | none => rfl
  | some c =>
    obtain ⟨role, kind, hrole, hkind, hc⟩ := parseEye_eq_some hparse
    suffices s.eyeAccepted i c = false by simp [this]
    have hfields (hused : role ≠ .unused) : c = eyeFields f role kind := hc.trans (if_neg hused)
    rcases h with hbad | hbad | ⟨hused, hbad⟩ | ⟨htrack, hbad⟩
    · exact absurd hbad (Nat.not_lt.mpr (hrole ▸ role.number_le))
    · exact absurd hbad (Nat.not_lt.mpr (hkind ▸ kindNumber_le kind))
    · have hrole' : role ≠ .unused := fun h => hused (by rw [hrole, h]; rfl)
      rw [hfields hrole']
      refine State.eyeAccepted_false hrole' ?_
      rcases hbad with hnode | hnode | hchannel | ⟨j, y, hj, hy, hu, hnode, hchannel⟩
      · exact .inl (nodeOk_false_iff.mpr (.inl hnode))
      · exact .inl (nodeOk_false_iff.mpr (.inr hnode))
      · exact .inr (.inl hchannel)
      · exact .inr (.inr (.inl (State.otherEye_iff.mpr ⟨j, y, hj, hy, by
          simp [EyeConfig.sameKey, eyeFields, hu, hnode, hchannel]⟩)))
    · have htrack' : role = .track := by
        have h := Role.ofNumber_eq_some.mpr hrole
        rw [htrack] at h
        exact (Option.some.inj h).symm
      subst htrack'
      rw [hfields (by simp)]
      refine State.eyeAccepted_false (by simp [eyeFields]) (.inr (.inr (.inr ⟨rfl, ?_⟩)))
      rcases hbad with hzero | hlane | hlane | ⟨j, y, k, hj, hy, hu, hk, hnum, hlane⟩
      · have h := kindOf_eq_some.mpr hkind
        rw [hzero] at h
        exact .inl (Option.some.inj h).symm
      · exact .inr (.inl (Lane.ofNumber_eq_none.mpr (.inl hlane)))
      · exact .inr (.inl (Lane.ofNumber_eq_none.mpr (.inr hlane)))
      · have hsame : kind = some k := by
          have h := kindOf_eq_some.mpr hkind
          rw [← hnum, show kindOf k.number = some (some k) from kindOf_eq_some.mpr rfl] at h
          exact (Option.some.inj h).symm
        exact .inr (.inr (State.otherEye_iff.mpr ⟨j, y, hj, hy, by
          simp [EyeConfig.samePlace, eyeFields, hu, hk, hsame, hlane]⟩))

/-! ### LANE (R92) -/

theorem State.laneWriteRefusal_none {l : Lane}
    (h : s.line.state = .config ∨ (s.line.state = .run ∧ ((s.lane l).run = .idle ∨ (s.lane l).run = .offline))) :
    s.laneWriteRefusal l = none := by
  rcases h with h | ⟨h, h' | h'⟩
  · simp [State.laneWriteRefusal, h]
  · simp [State.laneWriteRefusal, h, h']
  · simp [State.laneWriteRefusal, h, h']

theorem State.laneWriteRefusal_mode {l : Lane} (h : s.line.state = .draining ∨ s.line.state = .suspect) :
    s.laneWriteRefusal l = some resRefusedMode := by
  rcases h with h | h <;> simp [State.laneWriteRefusal, h]

theorem State.laneWriteRefusal_busy {l : Lane} (hrun : s.line.state = .run)
    (h : (s.lane l).run = .ready ∨ (s.lane l).run = .granted) : s.laneWriteRefusal l = some resBusy := by
  rcases h with h | h <;> simp [State.laneWriteRefusal, hrun, h]

theorem State.putLane_refused {l : Lane} {r : Byte} (h : s.laneWriteRefusal l = some r) : s.putLane l f = .refused r := by
  rw [State.putLane, h]

theorem parseLane_none {l : Lane} (h : 1 < (byteAt f 0).toNat ∨
      ((byteAt f 0).toNat = 1 ∧ ((byteAt f 1).toNat = 0 ∨ 30 < (byteAt f 1).toNat)) ∨
      3 < (byteAt f 2).toNat ∨ 2 ^ (5 - l.number) ≤ (byteAt f 3).toNat) : parseLane l f = none := by
  unfold parseLane
  cases hbool : yesNo (byteAt f 0) with
  | none => rfl
  | some enabled =>
    simp only
    refine if_pos ?_
    rcases h with hbig | ⟨hone, hnode⟩ | hlevel | hwidths
    · unfold yesNo at hbool
      split at hbool
      next hzero => omega
      next hone => omega
      next => exact absurd hbool (by simp)
    · have henabled : enabled = true := by
        rw [yesNo, hone] at hbool
        exact (Option.some.inj hbool).symm
      have hbad : nodeOk (byteAt f 1) = false := nodeOk_false_iff.mpr hnode
      simp [henabled, hbad]
    · simp [hlevel]
    · simp [hwidths]

/-! ### ARTICLE (R184) -/

theorem State.otherArticle_iff {code : Byte} : s.otherArticle i code = true ↔
    ∃ j a, j ≠ i ∧ s.mgmt.articles[j]? = some (some a) ∧ a.code = code := by
  simp only [State.otherArticle, List.any_eq_true, Prod.exists, Bool.and_eq_true, bne_iff_ne, ne_eq, beq_iff_eq,
    Option.map_eq_some_iff, List.mk_mem_zipIdx_iff_getElem?]
  constructor
  · rintro ⟨-, j, hj, hne, a, rfl, ha⟩
    exact ⟨j, a, hne, hj, ha⟩
  · rintro ⟨j, a, hne, hj, ha⟩
    exact ⟨some a, j, hj, hne, a, rfl, ha⟩

theorem parseArticle_none (h : clampTo 20 8000 (wordAt f 5) < clampTo 20 8000 (wordAt f 3) ∨
      clampTo 20 8000 (wordAt f 1) < clampTo 20 8000 (wordAt f 3) ∨
      clampTo 20 8000 (wordAt f 5) < clampTo 20 8000 (wordAt f 1) ∨ 63 < (byteAt f 11).toNat ∨
      ((byteAt f 12).toNat ≠ 1 ∧ (byteAt f 12).toNat ≠ 2)) : parseArticle f = none := by
  unfold parseArticle
  simp only
  cases hpolicy : DoubtPolicy.ofNumber (byteAt f 12).toNat with
  | none => rfl
  | some policy =>
    refine if_pos ?_
    rcases h with h | h | h | h | ⟨hone, htwo⟩
    · exact .inl h
    · exact .inr (.inl h)
    · exact .inr (.inr (.inl h))
    · exact .inr (.inr (.inr h))
    · unfold DoubtPolicy.ofNumber at hpolicy
      split at hpolicy
      next h => exact absurd h hone
      next h => exact absurd h htwo
      next => exact absurd hpolicy (by simp)

theorem State.putArticle_badValue (hcode : (byteAt f 0).toNat ≠ 0)
    (h : (byteAt f 0).toNat = 255 ∨ s.otherArticle i (byteAt f 0) = true ∨ parseArticle f = none) :
    s.putArticle i f = .refused resBadValue := by
  have hcode' : byteAt f 0 ≠ 0 := fun h => hcode (by rw [h]; rfl)
  rw [State.putArticle, if_neg hcode']
  rcases h with h | h | h
  · exact if_pos (.inl (BitVec.eq_of_toNat_eq h))
  · exact if_pos (.inr h)
  · split
    · rfl
    · rw [h]

end

/-! ### The refusals (R183) -/

/-- Settles O46: each step of R183, by the answer of the entry that the cursor is on. -/
theorem putRefused : Obligations.PutRefused := by
  unfold Obligations.PutRefused
  refine ⟨fun e f s h ht => ?_, fun e f s h hwritten hindex => ?_, fun e f s h hlen => ?_, fun e f s h hmode => ?_,
    fun e f s l h ht hl hlen hrun hbusy => ?_, fun e f s h ht hi hlen hconfig hbad => ?_,
    fun e f s l h ht hl hlen hfree hbad => ?_, fun e f s nominal minimum maximum h ht hi hlen hcode hn hm hx hbad => ?_,
    fun e f s h ht hbad => ?_⟩ <;> refine exec_put_refused h ?_
  case refine_1 =>
    have hread : s.mgmt.table.readOnly = true := by
      rcases ht with ht | ht | ht | ht <;> rw [ht] <;> rfl
    exact if_pos hread
  case refine_2 =>
    have hread : ¬ s.mgmt.table.readOnly = true := by simp [hwritten]
    exact (if_neg hread).trans (if_pos hindex)
  case refine_3 =>
    have hall : s.mgmt.table.readOnly = false ∧ s.mgmt.index < s.mgmt.table.entries ∧
        f.length ≠ putLength s.mgmt.table s.mgmt.index := by
      rcases hlen with ⟨ht, hi, hlen⟩ | ⟨ht, hi, hlen⟩ | ⟨ht, hi, hlen⟩ | ⟨ht, hi, hlen⟩ | ⟨ht, hi, hlen⟩ | ⟨ht, hi, hlen⟩
      · rw [ht]; exact ⟨rfl, hi, hlen⟩
      · rw [ht]; exact ⟨rfl, hi, hlen⟩
      · rw [ht]; exact ⟨rfl, hi, hlen⟩
      · rw [ht, hi]; exact ⟨rfl, by decide, hlen⟩
      · rw [ht, hi]; exact ⟨rfl, by decide, hlen⟩
      · rw [ht, hi]; exact ⟨rfl, by decide, hlen⟩
    obtain ⟨hread, hindex, hbad⟩ := hall
    exact State.putAnswer_badLength (s := s.performing) hread hindex hbad
  case refine_4 =>
    rcases hmode with ⟨ht, hi, hlen, hstate⟩ | ⟨ht, hi, hlen, hstate⟩ | ⟨ht, hi, hlen, hstate⟩ | ⟨ht, hi, hlen, hstate⟩
    · exact (State.putAnswer_eye (s := s.performing) ht hi hlen).trans (if_pos hstate)
    · exact (State.putAnswer_pathLine (s := s.performing) ht hi hlen).trans (if_pos hstate)
    · exact (State.putAnswer_pathWindows (s := s.performing) ht hi hlen).trans (if_pos hstate)
    · obtain ⟨l, hl⟩ : ∃ l, Lane.ofNumber (s.mgmt.index + 1) = some l := by
        cases hl : Lane.ofNumber (s.mgmt.index + 1) with
        | none => rcases Lane.ofNumber_eq_none.mp hl with h | h <;> omega
        | some l => exact ⟨l, rfl⟩
      exact (State.putAnswer_lane (s := s.performing) ht (Lane.ofNumber_eq_some.mp hl).symm hlen).trans
        (State.putLane_refused (State.laneWriteRefusal_mode hstate))
  case refine_5 =>
    exact (State.putAnswer_lane (s := s.performing) ht hl hlen).trans
      (State.putLane_refused (State.laneWriteRefusal_busy hrun hbusy))
  case refine_6 =>
    exact (State.putAnswer_eye (s := s.performing) ht hi hlen).trans (State.putEye_badValue (s := s.performing) hconfig hbad)
  case refine_7 =>
    refine (State.putAnswer_lane (s := s.performing) ht hl hlen).trans ?_
    rw [State.putLane, State.laneWriteRefusal_none (s := s.performing) hfree, parseLane_none hbad]
    rfl
  case refine_8 =>
    have hrange (v : Nat) : clampTo 20 8000 v = max 20 (min 8000 v) := clampTo_eq (by decide) v
    refine (State.putAnswer_article (s := s.performing) ht hi hlen).trans (State.putArticle_badValue hcode ?_)
    rcases hbad with h255 | hother | hfields
    · exact .inl h255
    · exact .inr (.inl (State.otherArticle_iff.mpr hother))
    · refine .inr (.inr (parseArticle_none ?_))
      rwa [hrange, hrange, hrange, ← hn, ← hm, ← hx]
  case refine_9 =>
    rcases hbad with ⟨hi, hlen, hconfig, hbad⟩ | ⟨hi, hlen, hbad⟩
    · refine (State.putAnswer_pathLine (s := s.performing) ht hi hlen).trans ((if_neg (not_not_intro hconfig)).trans (if_pos ?_))
      exact hbad.imp id nodeOk_false_iff.mpr
    · refine (State.putAnswer_pathFlow (s := s.performing) ht hi hlen).trans ?_
      have hseverity : Severity.ofNumber (byteAt f 13).toNat = none := by
        unfold Severity.ofNumber
        split
        next h => omega
        next h => omega
        next h => omega
        next h => omega
        next => rfl
      rw [State.putPathFlow, parsePathFlow, hseverity]
      rfl

end Sys2Proof.Machine

/-! SUPPORT. The obligation on an accepted PUT of PATH and ARTICLE entries; a request's cursor and its reserved place stand
aside from an evaluation (R93, R99, R183 to R185). -/

namespace Sys2Proof.Machine

open Sys2Proof

/-! ### The cursor and the reserved place stand aside from an evaluation (R99) -/

/-- The state with the cursor at another index and the reservation as given. -/
def State.asked (s : State) (i : Nat) (reserved : Bool) : State :=
  { s with mgmt := { s.mgmt with index := i }, port := { s.port with reserved := reserved } }

section

variable (s : State) (i : Nat) (reserved : Bool)

theorem State.asked_refreshFeed : (s.asked i reserved).refreshFeed = s.refreshFeed.asked i reserved := by
  rw [State.refreshFeed_eq, State.refreshFeed_eq]
  rfl

theorem State.asked_testHold : (s.asked i reserved).testHold = s.testHold.asked i reserved :=
  State.asked_refreshFeed (s.onFeed fun q => { q with hold := s.holdAfter }) i reserved

theorem State.asked_setTails (sp : Span) (t : Tail) : (s.asked i reserved).setTails sp t = (s.setTails sp t).asked i reserved :=
  List.foldl_hom (State.asked · i reserved) fun _ _ => rfl

theorem State.asked_granting (l : Lane) (r : LaneRequest) :
    (s.asked i reserved).granting l r = (s.granting l r).asked i reserved := by
  have htails (u : State) (p : Piece) : (u.asked i reserved).grantLane l p = (u.grantLane l p).asked i reserved := by
    have h := State.asked_setTails (u.restLane l .granted) i reserved p.span
      { pos := posAdd p.orderKey (u.lengthBasis p : Nat), gap := u.trailGap p, owner := p.number }
    exact congrArg (fun v : State => v.onFeed fun q => { q with lastBatch := some p.batch, pointer := l.next }) h
  exact congrArg (fun v : State => v.onFeed fun q => { q with occupancy := q.occupancy + 1 })
    (htails ((s.addRecord (s.grantRecord l r)).onPieces fun t => { t with granted := t.granted + 1 }) (s.grantRecord l r))

theorem State.asked_grant (l : Lane) (r : LaneRequest) : (s.asked i reserved).grant l r = (s.grant l r).asked i reserved := by
  by_cases hfull : s.tableFull = true
  · exact (if_pos hfull).trans (congrArg (State.asked · i reserved) (if_pos hfull).symm)
  · rw [Bool.not_eq_true] at hfull
    rw [State.grant_eq (s := s.asked i reserved) hfull, State.grant_eq hfull, State.asked_granting, State.asked_testHold]
    rfl

theorem State.asked_tryLane (l : Lane) : (s.asked i reserved).tryLane l = (s.tryLane l).asked i reserved := by
  have hlane : (s.asked i reserved).lane l = s.lane l := rfl
  unfold State.tryLane
  rw [hlane]
  split
  next r _ _ =>
    have hqualifies : (s.asked i reserved).qualifies l r = s.qualifies l r := rfl
    rw [hqualifies]
    split
    · exact s.asked_grant i reserved l r
    · rfl
  next => rfl

theorem State.asked_evaluate : (s.asked i reserved).evaluate = s.evaluate.asked i reserved := by
  have hdrop : (s.asked i reserved).dropTails = s.dropTails.asked i reserved := rfl
  have horder : (s.dropTails.asked i reserved).arbitration = s.dropTails.arbitration := rfl
  unfold State.evaluate
  rw [hdrop, horder]
  exact List.foldl_hom (State.asked · i reserved) fun u l => u.asked_tryLane i reserved l

theorem State.asked_retestHold : (s.asked i reserved).retestHold = s.retestHold.asked i reserved := by
  unfold State.retestHold
  rw [State.asked_testHold]
  by_cases hclears : (s.feed.hold && !s.testHold.feed.hold) = true
  · exact (if_pos hclears).trans ((State.asked_evaluate _ _ _).trans (congrArg (State.asked · i reserved) (if_pos hclears).symm))
  · exact (if_neg hclears).trans (congrArg (State.asked · i reserved) (if_neg hclears).symm)

end

theorem State.admitsRequest_reserved {s : State} {f : Frame} (h : s.admitsRequest f = true) : s.port.reserved = false := by
  simp only [State.admitsRequest, Bool.and_eq_true, Bool.not_eq_true'] at h
  obtain ⟨⟨-, hreserved⟩, -⟩ := h
  exact hreserved

/-- The cursor stepped and the REPLY queued, on a state whose cursor was left alone. -/
theorem State.stepped_answered {t : State} {i : Nat} (h : t.mgmt.index = i) (f : Frame) (result : Byte) (data : List Byte) :
    (t.onMgmt fun q => { q with index := q.index + 1 }).answered f result data =
      (t.asked (i + 1) false).answered f result data := by
  subst h
  rfl

/-! ### DONE or DONE_CLAMPED (R183) -/

theorem clamped_result {b : Bool} {p : Prop} [Decidable p] (h : b = true ↔ ¬ p) :
    (if b then 1 else 0 : Byte) = if p then 0 else 1 := by
  by_cases hp : p
  · have hb : ¬ b = true := fun hb => h.mp hb hp
    rw [if_neg hb, if_pos hp]
  · rw [if_pos (h.mpr hp), if_neg hp]

theorem PathLine.clamped_iff {p : PathLine} {f : List Byte} : p.clamped f = true ↔
    ¬(p.maxStep = wordAt f 2 ∧ p.lossTimeout = wordAt f 4 ∧ p.extrapolation = wordAt f 6) := by
  simp only [PathLine.clamped, Bool.or_eq_true, bne_iff_ne, not_and_or, or_assoc]

theorem PathWindows.clamped_iff {p : PathWindows} {f : List Byte} : p.clamped f = true ↔
    ¬(p.tolI = wordAt f 0 ∧ p.tolE = wordAt f 2 ∧ p.ironer = wordAt f 4 ∧ p.skew = wordAt f 6 ∧
      p.slipLimit = wordAt f 8) := by
  simp only [PathWindows.clamped, Bool.or_eq_true, bne_iff_ne, not_and_or, or_assoc]

theorem PathFlow.clamped_iff {p : PathFlow} {f : List Byte} : p.clamped f = true ↔
    ¬(p.mask = (byteAt f 0).toNat ∧ p.halt = (byteAt f 1).toNat ∧ p.resume = (byteAt f 2).toNat ∧
      p.batchGap = wordAt f 3 ∧ p.leadGap = wordAt f 5 ∧ p.trailGap = wordAt f 7 ∧ p.length = wordAt f 9) := by
  simp only [PathFlow.clamped, Bool.or_eq_true, bne_iff_ne, not_and_or, or_assoc]

theorem ArticleData.clamped_iff {a : ArticleData} {f : List Byte} : a.clamped f = true ↔
    ¬(a.nominal = wordAt f 1 ∧ a.minimum = wordAt f 3 ∧ a.maximum = wordAt f 5 ∧ a.leadGap = wordAt f 7 ∧
      a.trailGap = wordAt f 9) := by
  simp only [ArticleData.clamped, Bool.or_eq_true, bne_iff_ne, not_and_or, or_assoc]

/-! ### PATH (R93, R185) -/

theorem Severity.ofNumber_eq {n : Nat} (h : n ≤ 3) : ∃ v : Severity, Severity.ofNumber n = some v ∧ v.number = n := by
  interval_cases n
  · exact ⟨.noted, rfl, rfl⟩
  · exact ⟨.piece, rfl, rfl⟩
  · exact ⟨.doubt, rfl, rfl⟩
  · exact ⟨.line, rfl, rfl⟩

theorem resumeFor_eq {halt : Nat} (h : 1 ≤ halt) (resume : Nat) : resumeFor halt resume = min resume (halt - 1) := by
  unfold resumeFor
  split <;> omega

/-- The fields that a PATH 2 PUT stores (R93, R185). -/
theorem parsePathFlow_eq {f : List Byte} (h : (byteAt f 13).toNat ≤ 3) : ∃ p : PathFlow, parsePathFlow f = some p ∧
    p.mask = min 4 (byteAt f 0).toNat ∧ p.halt = max 1 (min 112 (byteAt f 1).toNat) ∧
    p.resume = min (byteAt f 2).toNat (p.halt - 1) ∧ p.batchGap = min 8000 (wordAt f 3) ∧
    p.leadGap = min 4095 (wordAt f 5) ∧ p.trailGap = min 4095 (wordAt f 7) ∧
    p.length = max 20 (min 8000 (wordAt f 9)) ∧ p.idleTimeout = wordAt f 11 ∧
    p.alertMin.number = (byteAt f 13).toNat := by
  obtain ⟨v, hv, hnumber⟩ := Severity.ofNumber_eq h
  have hhalt : clampTo 1 112 (byteAt f 1).toNat = max 1 (min 112 (byteAt f 1).toNat) := clampTo_eq (by decide) _
  refine ⟨_, by rw [parsePathFlow, hv], clampTo_zero .., hhalt, resumeFor_eq (hhalt ▸ le_max_left ..) _, clampTo_zero ..,
    clampTo_zero .., clampTo_zero .., clampTo_eq (show 20 ≤ 8000 by decide) _, rfl, hnumber⟩

/-- The test of the hold flag, written out (R108, R110). -/
theorem State.testHold_eq (s : State) {hold : Bool} {c : FeedCondition} (hhold : s.holdAfter = hold)
    (hc : (s.onFeed fun q => { q with hold := hold }).feedCondition = c) : s.testHold = { s with
      feed := { s.feed with hold := hold, condition := c }
      port := { s.port with
        urgent := if c = s.feed.condition then s.port.urgent else feedStateQueued c s.port.urgent } } := by
  subst hhold hc
  exact State.refreshFeed_eq _

/-- A hold flag tested again makes one evaluation when it clears (R99, R108). -/
theorem State.retestHold_eq {s u : State} (hu : s.testHold = u) :
    s.retestHold = if s.feed.hold = true ∧ u.feed.hold = false then u.evaluate else u := by
  subst hu
  unfold State.retestHold
  by_cases hclears : s.feed.hold = true ∧ s.testHold.feed.hold = false
  · rw [if_pos hclears, if_pos (by simp [hclears])]
  · rw [if_neg hclears, if_neg (by simpa using hclears)]

section

variable {e : Envelope} {f : List Byte} {s : State}

/-- PATH 2 takes its fields at once, tests the hold flag and evaluates (R93, R99, R108). -/
theorem exec_put_pathFlow {p : PathFlow} {hold : Bool} {c : FeedCondition} {u : State}
    (h : s.admitsRequest (requestFrame e (2 :: f)) = true) (ht : s.mgmt.table = .path) (hi : s.mgmt.index = 2)
    (hlen : f.length = 14) (hp : parsePathFlow f = some p)
    (hhold : hold = (if p.halt ≤ s.feed.occupancy then true else if s.feed.occupancy ≤ p.resume then false else s.feed.hold))
    (hc : c = (if s.line.state ≠ .run then .hold .line else if s.feed.fhold = true then .hold .fhold
      else if hold = true then .hold .occupancy else if s.batch.block ≠ none then .hold .batch else .go))
    (hu : u = { s.received with
      mgmt := { s.mgmt with flow := p, index := 3 }
      feed := { s.feed with hold := hold, condition := c }
      port := { s.received.port with
        urgent := if c = s.feed.condition then s.port.urgent
          else if s.port.urgent.any Queued.isFeedState then
            s.port.urgent.map fun q => if q.isFeedState then { q with msg := .feedState c } else q
          else s.port.urgent ++ [{ dest := 31, msg := .feedState c, suspect := false }] } }) :
    exec (.put e f) s = .next ((if s.feed.hold = true ∧ hold = false then u.evaluate.evaluate else u.evaluate).answered
      (requestFrame e (2 :: f))
      (if p.mask = (byteAt f 0).toNat ∧ p.halt = (byteAt f 1).toNat ∧ p.resume = (byteAt f 2).toNat ∧
          p.batchGap = wordAt f 3 ∧ p.leadGap = wordAt f 5 ∧ p.trailGap = wordAt f 7 ∧ p.length = wordAt f 9 then 0 else 1)
      [4, 2]) := by
  let w := s.performing.onMgmt fun q => { q with flow := p }
  have hput : s.performing.putAnswer f = .written (w.retestHold.evaluate) (p.clamped f) := by
    refine (State.putAnswer_pathFlow (s := s.performing) ht hi hlen).trans ?_
    rw [State.putPathFlow, hp]
    rfl
  have hindex : w.retestHold.evaluate.mgmt.index = 2 := by
    rw [(State.evaluate_feedOnly _).mgmt, (State.retestHold_feedOnly w).mgmt]
    exact hi
  have hcondition (v : State) (hline : v.line = s.line) (hfhold : v.feed.fhold = s.feed.fhold) (hheld : v.feed.hold = hold)
      (hblock : v.batch = s.batch) : v.feedCondition = c := by
    rw [State.feedCondition, hline, hfhold, hheld, hblock, hc]
    simp only [← Option.isSome_iff_ne_none]
  have htested : (w.asked 3 false).testHold = u := by
    have hfree : w.asked 3 false = w.asked 3 s.port.reserved := by rw [State.admitsRequest_reserved h]
    rw [hfree, hu]
    exact State.testHold_eq (w.asked 3 s.port.reserved) (c := c) hhold.symm (hcondition _ rfl rfl rfl rfl)
  have hretested : (w.asked 3 false).retestHold = if s.feed.hold = true ∧ hold = false then u.evaluate else u := by
    rw [State.retestHold_eq htested, hu]
    rfl
  have hexec := exec_put_written h hput
  rw [hexec, State.stepped_answered hindex, ← State.asked_evaluate, ← State.asked_retestHold, hretested,
    clamped_result PathFlow.clamped_iff, ht, hi, apply_ite State.evaluate]
  rfl

end

/-- Outside RUN one evaluation or two drop the dead tails alone (R99, R103). -/
theorem State.evaluated_notRun {u : State} (h : u.line.state ≠ .run) (p : Prop) [Decidable p] :
    let t := if p then u.evaluate.evaluate else u.evaluate
    t.mgmt = u.mgmt ∧ t.pieces = u.pieces ∧ t.line = u.line ∧ t.batch = u.batch ∧ t.faults = u.faults ∧
      t.travel = u.travel ∧ t.eyes = u.eyes ∧ t.matcher = u.matcher ∧ t.folder = u.folder := by
  dsimp only
  rw [State.evaluate_notRun u h, State.evaluate_notRun u.dropTails h]
  split <;> exact ⟨rfl, rfl, rfl, rfl, rfl, rfl, rfl, rfl, rfl⟩

/-! ### The other entries (R184, R185) -/

section

variable {e : Envelope} {f : List Byte} {s : State}

theorem exec_put_pathLine (h : s.admitsRequest (requestFrame e (2 :: f)) = true) (ht : s.mgmt.table = .path)
    (hi : s.mgmt.index = 0) (hlen : f.length = 9) (hconfig : s.line.state = .config) (hscale : wordAt f 0 ≠ 0)
    (hnode : nodeOk (byteAt f 8) = true) :
    exec (.put e f) s = .next ({ s.received with mgmt := { s.mgmt with line := parsePathLine f, index := 1 } }.answered
      (requestFrame e (2 :: f)) (if (parsePathLine f).clamped f then 1 else 0) [4, 0]) := by
  have hput : s.performing.putAnswer f =
      .written (s.performing.onMgmt fun q => { q with line := parsePathLine f }) ((parsePathLine f).clamped f) := by
    refine (State.putAnswer_pathLine (s := s.performing) ht hi hlen).trans ?_
    exact (if_neg (not_not_intro hconfig)).trans (if_neg (by simp [hscale, hnode]))
  have hexec := exec_put_written h hput
  rw [hexec, State.stepped_answered (t := s.performing.onMgmt fun q => { q with line := parsePathLine f }) (i := 0) hi, ht,
    hi]
  rfl

theorem exec_put_pathWindows (h : s.admitsRequest (requestFrame e (2 :: f)) = true) (ht : s.mgmt.table = .path)
    (hi : s.mgmt.index = 1) (hlen : f.length = 10) (hconfig : s.line.state = .config) :
    exec (.put e f) s = .next ({ s.received with mgmt := { s.mgmt with windows := parsePathWindows f, index := 2 } }.answered
      (requestFrame e (2 :: f)) (if (parsePathWindows f).clamped f then 1 else 0) [4, 1]) := by
  have hput : s.performing.putAnswer f =
      .written (s.performing.onMgmt fun q => { q with windows := parsePathWindows f }) ((parsePathWindows f).clamped f) := by
    refine (State.putAnswer_pathWindows (s := s.performing) ht hi hlen).trans ?_
    exact if_neg (not_not_intro hconfig)
  have hexec := exec_put_written h hput
  rw [hexec, State.stepped_answered (t := s.performing.onMgmt fun q => { q with windows := parsePathWindows f }) (i := 1) hi,
    ht, hi]
  rfl

/-- A PUT of an ARTICLE entry that is written (R184). -/
theorem exec_put_article {a : Option Article} {clamped : Bool} (h : s.admitsRequest (requestFrame e (2 :: f)) = true)
    (ht : s.mgmt.table = .article) (hi : s.mgmt.index < 64) (hlen : f.length = 13)
    (hput : s.performing.putArticle s.mgmt.index f = .written (s.performing.writeArticle s.mgmt.index a) clamped) :
    exec (.put e f) s = .next ({ s.received with
        mgmt := { s.mgmt with articles := s.mgmt.articles.set s.mgmt.index a, index := s.mgmt.index + 1 } }.answered
      (requestFrame e (2 :: f)) (if clamped then 1 else 0) [3, BitVec.ofNat 8 s.mgmt.index]) := by
  have hexec := exec_put_written h ((State.putAnswer_article (s := s.performing) ht hi hlen).trans hput)
  rw [hexec, ht]
  rfl

/-- The fields of an ARTICLE PUT that passes the checks (R184). -/
theorem parseArticle_eq {a : ArticleData} (hn : a.nominal = max 20 (min 8000 (wordAt f 1)))
    (hm : a.minimum = max 20 (min 8000 (wordAt f 3))) (hx : a.maximum = max 20 (min 8000 (wordAt f 5)))
    (hlead : a.leadGap = min 4095 (wordAt f 7)) (htrail : a.trailGap = min 4095 (wordAt f 9))
    (hprogram : a.program = byteAt f 11) (hmost : (byteAt f 11).toNat ≤ 63)
    (hpolicy : ((byteAt f 12).toNat = 1 ∧ a.policy = .reject) ∨ ((byteAt f 12).toNat = 2 ∧ a.policy = .foldFlagged))
    (hlow : a.minimum ≤ a.nominal) (hhigh : a.nominal ≤ a.maximum) : parseArticle f = some a := by
  have hrange (v : Nat) : clampTo 20 8000 v = max 20 (min 8000 v) := clampTo_eq (by decide) v
  have hnumber : DoubtPolicy.ofNumber (byteAt f 12).toNat = some a.policy := by
    rcases hpolicy with ⟨h, h'⟩ | ⟨h, h'⟩ <;> rw [h, h'] <;> rfl
  have hpasses : ¬(a.maximum < a.minimum ∨ a.nominal < a.minimum ∨ a.maximum < a.nominal ∨ 63 < (byteAt f 11).toNat) := by
    omega
  simp only [parseArticle, hnumber, hrange, clampTo_zero, ← hn, ← hm, ← hx, ← hlead, ← htrail, ← hprogram]
  rw [hprogram]
  exact (if_neg hpasses).trans (congrArg some (by rw [← hprogram]))

end

/-- Settles O47: each entry's fields as its parse gives them; PATH 2 through the test of the hold flag. -/
theorem putWrites : Obligations.PutWrites := by
  unfold Obligations.PutWrites
  refine ⟨fun e f s h ht hi hlen hconfig hscale hlow hhigh => ?_, fun e f s h ht hi hlen hrun hseverity => ?_,
    fun e f s h ht hi hlen hseverity => ?_, fun e f s h ht hi hlen hconfig => ?_, fun e rest s h ht hi hlen => ?_,
    fun e f s a h ht hi hlen hlow hhigh hother hn hm hx hlead htrail hprogram hmost hpolicy hmin hmax => ?_⟩
  case refine_1 =>
    have hexec := exec_put_pathLine h ht hi hlen hconfig hscale (nodeOk_iff.mpr ⟨hlow, hhigh⟩)
    rw [clamped_result PathLine.clamped_iff] at hexec
    exact ⟨parsePathLine f, rfl, clampTo_eq (by decide) _, clampTo_eq (by decide) _, clampTo_zero .., rfl, hexec⟩
  case refine_2 =>
    obtain ⟨p, hp, hmask, hhalt, hresume, hgap, hlead, htrail, hlength, hidle, halert⟩ := parsePathFlow_eq hseverity
    obtain ⟨hold, hhold⟩ : ∃ hold : Bool, hold = _ := ⟨_, rfl⟩
    obtain ⟨c, hc⟩ : ∃ c : FeedCondition, c = _ := ⟨_, rfl⟩
    obtain ⟨u, hu⟩ : ∃ u : State, u = _ := ⟨_, rfl⟩
    have hexec := exec_put_pathFlow h ht hi hlen hp hhold hc hu
    have hrun' : u.line.state ≠ .run := by rwa [hu]
    obtain ⟨hmgmt, hpieces, hline, hbatch, hfaults, htravel, heyes, hmatcher, hfolder⟩ :=
      State.evaluated_notRun hrun' (s.feed.hold = true ∧ hold = false)
    have hflow : u.mgmt.flow = p := by rw [hu]
    refine ⟨_, hexec, ?_, ?_⟩
    · exact hmgmt.trans (by rw [show (State.answered _ _ _ _).mgmt.flow = p from (congrArg Management.flow hmgmt).trans hflow, hu])
    · rw [show (State.answered _ _ _ _).mgmt.flow = p from (congrArg Management.flow hmgmt).trans hflow]
      exact ⟨hmask, hhalt, hresume, hgap, hlead, htrail, hlength, hidle, halert, hpieces.trans (by rw [hu]; rfl),
        hline.trans (by rw [hu]; rfl), hbatch.trans (by rw [hu]; rfl), hfaults.trans (by rw [hu]; rfl),
        htravel.trans (by rw [hu]; rfl), heyes.trans (by rw [hu]; rfl), hmatcher.trans (by rw [hu]; rfl),
        hfolder.trans (by rw [hu]; rfl)⟩
  case refine_3 =>
    obtain ⟨p, hp, hmask, hhalt, hresume, hgap, hlead, htrail, hlength, hidle, halert⟩ := parsePathFlow_eq hseverity
    exact ⟨p, _, _, _, hmask, hhalt, hresume, hgap, hlead, htrail, hlength, hidle, halert, rfl, rfl, rfl,
      exec_put_pathFlow h ht hi hlen hp rfl rfl rfl⟩
  case refine_4 =>
    have hexec := exec_put_pathWindows h ht hi hlen hconfig
    rw [clamped_result PathWindows.clamped_iff] at hexec
    exact ⟨parsePathWindows f, clampTo_eq (by decide) _, clampTo_eq (by decide) _, clampTo_eq (by decide) _,
      clampTo_zero .., clampTo_zero .., hexec⟩
  case refine_5 =>
    exact exec_put_article (a := Option.none) (clamped := false) h ht hi (by simp [hlen]) (if_pos rfl)
  case refine_6 =>
    have hcode : byteAt f 0 ≠ 0 := fun h => by simp [h] at hlow
    have hfree : ¬(byteAt f 0 = 255 ∨ s.performing.otherArticle s.mgmt.index (byteAt f 0) = true) := by
      rintro (h255 | hheld)
      · simp [h255] at hhigh
      · obtain ⟨j, x, hj, hx, hcode⟩ := State.otherArticle_iff.mp hheld
        exact hother j x hj hx hcode
    have hput : s.performing.putArticle s.mgmt.index f =
        .written (s.performing.writeArticle s.mgmt.index (some { code := byteAt f 0, data := a })) (a.clamped f) := by
      rw [State.putArticle, if_neg hcode, if_neg hfree,
        parseArticle_eq hn hm hx hlead htrail hprogram hmost hpolicy hmin hmax]
    have hexec := exec_put_article h ht hi hlen hput
    rwa [clamped_result ArticleData.clamped_iff] at hexec

end Sys2Proof.Machine

/-! SUPPORT. The obligation on an accepted PUT of LANE and EYE entries (R22, R92). -/

namespace Sys2Proof.Machine

open Sys2Proof

/-! ### What the moves of the batch and the grants leave of a lane (R91, R94) -/

/-- Between s and t a lane keeps its table entry and its early count, and unless it is READY its run state and request; and
it joins no order. -/
structure State.KeepsLane (k : Lane) (s t : State) : Prop where
  cfg : (t.lane k).cfg = (s.lane k).cfg
  early : (t.lane k).early = (s.lane k).early
  run : (s.lane k).run ≠ .ready → (t.lane k).run = (s.lane k).run ∧ (t.lane k).request = (s.lane k).request
  order : k ∉ s.feed.order → k ∉ t.feed.order

section

variable {k : Lane}

theorem State.KeepsLane.rfl' (s : State) : State.KeepsLane k s s := ⟨rfl, rfl, fun _ => ⟨rfl, rfl⟩, id⟩

theorem State.KeepsLane.trans {s t u : State} (h : State.KeepsLane k s t) (h' : State.KeepsLane k t u) :
    State.KeepsLane k s u := by
  refine ⟨h'.cfg.trans h.cfg, h'.early.trans h.early, fun hrun => ?_, fun hout => h'.order (h.order hout)⟩
  obtain ⟨hsame, hrequest⟩ := h.run hrun
  obtain ⟨hsame', hrequest'⟩ := h'.run (hsame ▸ hrun)
  exact ⟨hsame'.trans hsame, hrequest'.trans hrequest⟩

theorem State.KeepsLane.of_feed {s t : State} (hlane : t.lane k = s.lane k) (horder : t.feed.order = s.feed.order) :
    State.KeepsLane k s t :=
  ⟨by rw [hlane], by rw [hlane], fun _ => by rw [hlane]; exact ⟨rfl, rfl⟩, fun h => by rwa [horder]⟩

theorem State.refreshFeed_keepsLane (s : State) : State.KeepsLane k s s.refreshFeed := by
  refine .of_feed ?_ ?_
  · rw [State.lane, State.refreshFeed_feed]
    rfl
  · rw [State.refreshFeed_feed]

theorem State.LotMove.keepsLane {a b : State} (h : a.LotMove b) : State.KeepsLane k a b := by
  cases h with
  | grant l r hrun _ _ hroom =>
    have hlane : (a.grant l r).lane k = _ := (State.grant_lane hroom k).trans (State.granting_lane k)
    refine ⟨by rw [hlane], by rw [hlane], fun hready => ?_, fun hout => ?_⟩
    · have hne : k ≠ l := fun h => hready (h ▸ hrun)
      rw [hlane]
      simp [hne]
    · rw [State.grant_order hroom]
      exact fun hmem => hout (List.mem_of_mem_filter hmem)
  | dropTails =>
    have hlane : a.dropTails.lane k = { a.lane k with tail := (a.lane k).tail.filter (tailLive a.travel.position) } :=
      PerLane.get_map _ _ _
    exact ⟨by rw [hlane], by rw [hlane], fun _ => by rw [hlane]; exact ⟨rfl, rfl⟩, id⟩
  | testHold =>
    have hfirst : State.KeepsLane k a (a.onFeed fun q => { q with hold := a.holdAfter }) := .of_feed rfl rfl
    exact hfirst.trans (State.refreshFeed_keepsLane _)
  | block c =>
    have hfirst : State.KeepsLane k a { a with batch := c } := .of_feed rfl rfl
    exact hfirst.trans (State.refreshFeed_keepsLane _)
  | _ => exact .of_feed rfl rfl

theorem State.LotMoves.keepsLane {a b : State} (h : a.LotMoves b) : State.KeepsLane k a b := by
  induction h with
  | refl => exact .rfl' a
  | tail _ hmove ih => exact ih.trans hmove.keepsLane

theorem State.evaluateIdle_keepsLane (s : State) (lanes : List Lane) : State.KeepsLane k s (s.evaluateIdle lanes) :=
  foldl_keeps State.KeepsLane.rfl' State.KeepsLane.trans (fun u _ => u.evaluate_lotMoves.keepsLane) lanes s

end

/-! ### The lanes that lose their requests together (R92) -/

/-- The lanes of a list put to rest as IDLE. -/
def State.restLanes (s : State) (lanes : List Lane) : State := lanes.foldl (fun u k => u.restLane k .idle) s

theorem State.restLanes_lane (lanes : List Lane) (s : State) (k : Lane) : (s.restLanes lanes).lane k =
    if k ∈ lanes then { s.lane k with run := .idle, request := none } else s.lane k := by
  induction lanes generalizing s with
  | nil => simp [State.restLanes]
  | cons l lanes ih =>
    have hstep : s.restLanes (l :: lanes) = (s.restLane l .idle).restLanes lanes := rfl
    rw [hstep, ih, State.restLane_lane]
    by_cases hk : k = l
    · simp [hk]
    · simp [hk]

theorem State.restLanes_order (lanes : List Lane) (s : State) {k : Lane} (h : k ∈ lanes ∨ k ∉ s.feed.order) :
    k ∉ (s.restLanes lanes).feed.order := by
  induction lanes generalizing s with
  | nil => exact h.resolve_left (by simp)
  | cons l lanes ih =>
    refine ih (s.restLane l .idle) ?_
    have hout : k ∉ s.feed.order ∨ k = l → k ∉ (s.restLane l .idle).feed.order := by
      rintro (hk | rfl) hmem
      · exact hk (List.mem_of_mem_filter hmem)
      · simp [State.restLane, State.leaveOrder] at hmem
    rcases h with hmem | hk
    · rcases List.mem_cons.mp hmem with heq | hmem
      · exact .inr (hout (.inr heq))
      · exact .inl hmem
    · exact .inr (hout (.inl hk))

theorem State.restLanes_settles (lanes : List Lane) (s : State) : s.Settles (s.restLanes lanes) ∧ s.FeedOnly (s.restLanes lanes) :=
  ⟨foldl_keeps (f := fun u k => u.restLane k .idle) State.Settles.rfl' State.Settles.trans
      (fun _ _ => ⟨rfl, rfl, rfl, rfl, rfl, rfl⟩) lanes s,
    foldl_keeps State.FeedOnly.rfl' State.FeedOnly.trans (fun u k => u.restLane_feedOnly k _) lanes s⟩

/-- A refused span is recorded as a fault alone (R97). -/
theorem State.refuseSpan_eq (s : State) (l : Lane) : s.refuseSpan l = s.logFault
    { code := .readyRefusedSpan, severity := .piece, piece := none, site := .lane l, position := none } :=
  State.recordFault_eq_logFault _ _ (.inl (by simp))

theorem State.refuseSpans_only (lanes : List Lane) (s : State) :
    s.LotsOnly (lanes.foldl State.refuseSpan s) ∧ (lanes.foldl State.refuseSpan s).feed = s.feed := by
  refine foldl_keeps (R := fun s t => s.LotsOnly t ∧ t.feed = s.feed) (fun s => ⟨.rfl' s, rfl⟩)
    (fun h k => ⟨h.1.trans k.1, k.2.trans h.2⟩) (fun u l => ?_) lanes s
  rw [State.refuseSpan_eq]
  exact ⟨u.logFault_lotsOnly _, (u.logFault_blocks _).2.1⟩

section

variable {s : State} {lanes : List Lane}

theorem State.dropSpanning_nil (s : State) : s.dropSpanning [] = s := if_pos rfl

theorem State.dropSpanning_cons (h : lanes ≠ []) :
    s.dropSpanning lanes = lanes.foldl State.refuseSpan (s.restLanes lanes).orderChanged :=
  if_neg (by simpa using h)

theorem State.dropSpanning_lotsOnly (s : State) (lanes : List Lane) : s.LotsOnly (s.dropSpanning lanes) := by
  by_cases h : lanes = []
  · rw [h, State.dropSpanning_nil]
    exact .rfl' s
  · rw [State.dropSpanning_cons h]
    exact ((s.restLanes_settles lanes).2.lots.trans (State.orderChanged_lotsOnly _)).trans (State.refuseSpans_only lanes _).1

/-- What the loss of requests leaves of a lane, and of one that loses its own. -/
theorem State.dropSpanning_keepsLane (s : State) (lanes : List Lane) (k : Lane) :
    State.KeepsLane k (s.restLanes lanes) (s.dropSpanning lanes) := by
  by_cases h : lanes = []
  · rw [h, State.dropSpanning_nil]
    exact .rfl' s
  · obtain ⟨-, hfeed⟩ := State.refuseSpans_only lanes (s.restLanes lanes).orderChanged
    rw [State.dropSpanning_cons h]
    exact (State.orderChanged_lotMoves _).keepsLane.trans
      (.of_feed (by rw [State.lane, hfeed]; rfl) (by rw [hfeed]))

/-- A single lane's loss is recorded, where the order's report makes no choice (R92, R123). -/
theorem State.dropSpanning_recorded {k : Lane} (h : s.currentPlace.isSome = true) : State.recorded s (s.dropSpanning [k])
    { code := .readyRefusedSpan, severity := .piece, piece := none, site := .lane k, position := none } := by
  obtain ⟨hrested, hfeed⟩ := State.restLanes_settles [k] s
  have hsettles := hrested.trans (State.orderChanged_settles (s := s.restLanes [k]) (.inr (by rwa [hrested.currentPlace])))
  have htravel := hfeed.travel
  have hline := hsettles.line
  rw [State.dropSpanning_cons (by simp)]
  show State.recorded s ((s.restLanes [k]).orderChanged.refuseSpan k) _
  rw [State.refuseSpan_eq]
  refine State.recorded_after hsettles.faults ((State.orderChanged_lotsOnly _).travel.trans htravel) (by rw [hline])
    (State.logFault_recorded _ _)

end

/-- The lanes in READY whose request spans a lane (R92). -/
theorem State.mem_spanningLanes {s : State} {l k : Lane} : k ∈ s.spanningLanes l ↔
    k ≠ l ∧ (s.lane k).run = .ready ∧ ∃ q, (s.lane k).request = some q ∧ spanHas q.span l = true := by
  have hall : k ∈ allLanes := by cases k <;> decide
  simp only [State.spanningLanes, List.mem_filter, hall, true_and, Bool.and_eq_true, bne_iff_ne, beq_iff_eq, and_assoc]
  cases (s.lane k).request <;> simp

theorem filter_lanes_singleton {p : Lane → Bool} {k : Lane} (h : ∀ j, p j = true ↔ j = k) : allLanes.filter p = [k] := by
  have hp : p = fun j => decide (j = k) := funext fun j => by
    rw [Bool.eq_iff_iff, h]
    simp
  rw [hp]
  cases k <;> rfl

theorem State.spanningLanes_single {s : State} {l k : Lane} (hk : k ∈ s.spanningLanes l)
    (honly : ∀ j ∈ s.spanningLanes l, j = k) : s.spanningLanes l = [k] := by
  refine filter_lanes_singleton fun j => ?_
  have hall : j ∈ allLanes := by cases j <;> decide
  exact ⟨fun hj => honly j (List.mem_filter.mpr ⟨hall, hj⟩), fun hj => hj ▸ (List.mem_filter.mp hk).2⟩

/-! ### LANE (R92) -/

theorem PerLane.set_set_self {α : Type} (p : PerLane α) (l : Lane) (a b : α) : (p.set l a).set l b = p.set l b := by
  cases l <;> rfl

/-- The state with a lane's table entry written, its early count 0, the lane in a run state with no request. -/
def State.laneSet (s : State) (l : Lane) (c : LaneConfig) (run : LaneRun) : State :=
  { s with feed := { s.feed with
      lanes := s.feed.lanes.set l { s.lane l with cfg := c, run := run, request := none, early := 0 }
      order := s.feed.order.filter (· != l) } }

section

variable {s : State} {l : Lane} {c : LaneConfig} {f : List Byte}

theorem State.laneSet_eq (s : State) (l : Lane) (c : LaneConfig) (run : LaneRun) :
    (s.onLane l fun e => { e with cfg := c, early := 0 }).restLane l run = s.laneSet l c run := by
  have hlanes (e : LaneEntry) : ((s.feed.lanes.set l e).set l { (s.feed.lanes.set l e).get l with run := run, request := none }) =
      s.feed.lanes.set l { e with run := run, request := none } := by
    rw [PerLane.set_set_self, PerLane.get_set_self]
  exact congrArg (fun lanes => { s with feed := { s.feed with lanes := lanes, order := s.feed.order.filter (· != l) } })
    (hlanes { s.lane l with cfg := c, early := 0 })

theorem State.writeLane_enabled (h : c.enabled = true) : s.writeLane l c = (s.laneSet l c .idle).evaluate := by
  rw [State.writeLane, h, if_pos rfl, if_pos rfl, if_pos rfl, State.dropSpanning_nil, State.laneSet_eq]
  rfl

theorem State.writeLane_disabled (h : c.enabled = false) : s.writeLane l c =
    ((s.laneSet l c .offline).dropSpanning (s.spanningLanes l)).evaluateIdle (s.spanningLanes l) := by
  have hno : ¬ c.enabled = true := by simp [h]
  simp only [State.writeLane, if_neg hno, State.laneSet_eq]

theorem LaneConfig.clamped_iff : c.clamped f = true ↔
    ¬(c.release = wordAt f 4 ∧ c.grantDist = wordAt f 6 ∧ c.feedDist = wordAt f 8 ∧ c.arming = wordAt f 10) := by
  simp only [LaneConfig.clamped, Bool.or_eq_true, bne_iff_ne, not_and_or, or_assoc]

/-- The fields that a LANE PUT stores (R92, R183). -/
theorem parseLane_eq {enabled : Bool} (henabled : (byteAt f 0).toNat = boolNumber enabled)
    (hnode : enabled = true → 1 ≤ (byteAt f 1).toNat ∧ (byteAt f 1).toNat ≤ 30) (hlevel : (byteAt f 2).toNat ≤ 3)
    (hwidths : (byteAt f 3).toNat < 2 ^ (5 - l.number)) : ∃ c : LaneConfig, parseLane l f = some c ∧
      c.enabled = enabled ∧ c.node = byteAt f 1 ∧ c.level = (byteAt f 2).toNat ∧
      c.widths = byteAt f 3 ∧ c.release = min 2000 (wordAt f 4) ∧
      c.grantDist = max 20 (min 4000 (wordAt f 6)) ∧ c.feedDist = max 200 (min 20000 (wordAt f 8)) ∧
      c.arming = max 100 (min 8000 (wordAt f 10)) := by
  have hyes : yesNo (byteAt f 0) = some enabled := by
    rw [yesNo, henabled]
    cases enabled <;> rfl
  have hnodeOk : (enabled && !nodeOk (byteAt f 1)) = false := by
    cases enabled with
    | false => rfl
    | true => simp [nodeOk_iff.mpr (hnode rfl)]
  have hpasses : ¬((enabled && !nodeOk (byteAt f 1)) || decide (3 < (byteAt f 2).toNat) ||
      decide (2 ^ (5 - l.number) ≤ (byteAt f 3).toNat)) = true := by
    simp [hnodeOk, hlevel, hwidths]
  refine ⟨{ enabled := enabled, node := byteAt f 1, level := (byteAt f 2).toNat, widths := byteAt f 3,
            release := clampTo 0 2000 (wordAt f 4), grantDist := clampTo 20 4000 (wordAt f 6),
            feedDist := clampTo 200 20000 (wordAt f 8), arming := clampTo 100 8000 (wordAt f 10) },
    ?_, rfl, rfl, rfl, rfl, clampTo_zero .., clampTo_eq (show 20 ≤ 4000 by decide) _,
    clampTo_eq (show 200 ≤ 20000 by decide) _, clampTo_eq (show 100 ≤ 8000 by decide) _⟩
  rw [parseLane, hyes]
  exact if_neg hpasses

/-- A PUT of a LANE entry that is written (R92, R183). -/
theorem exec_put_lane {e : Envelope} (h : s.admitsRequest (requestFrame e (2 :: f)) = true) (ht : s.mgmt.table = .lane)
    (hl : l.number = s.mgmt.index + 1) (hlen : f.length = 12)
    (hfree : s.line.state = .config ∨ (s.line.state = .run ∧ ((s.lane l).run = .idle ∨ (s.lane l).run = .offline)))
    (hparse : parseLane l f = some c) :
    exec (.put e f) s = .next (((s.performing.writeLane l c).onMgmt fun q => { q with index := q.index + 1 }).answered
      (requestFrame e (2 :: f))
      (if c.release = wordAt f 4 ∧ c.grantDist = wordAt f 6 ∧ c.feedDist = wordAt f 8 ∧ c.arming = wordAt f 10 then 0 else 1)
      [2, BitVec.ofNat 8 s.mgmt.index]) := by
  have hput : s.performing.putAnswer f = .written (s.performing.writeLane l c) (c.clamped f) := by
    refine (State.putAnswer_lane (s := s.performing) ht hl hlen).trans ?_
    rw [State.putLane, State.laneWriteRefusal_none (s := s.performing) hfree, hparse]
  have hexec := exec_put_written h hput
  rw [hexec, clamped_result LaneConfig.clamped_iff, ht]
  rfl

/-- A PUT that enables a lane writes it and evaluates (R92, R99). -/
theorem exec_put_enables {e : Envelope} (h : s.admitsRequest (requestFrame e (2 :: f)) = true) (ht : s.mgmt.table = .lane)
    (hl : l.number = s.mgmt.index + 1) (hlen : f.length = 12)
    (hfree : s.line.state = .config ∨ (s.line.state = .run ∧ ((s.lane l).run = .idle ∨ (s.lane l).run = .offline)))
    (hparse : parseLane l f = some c) (hc : c.enabled = true) :
    exec (.put e f) s = .next ({ s.received with
        feed := (s.laneSet l c .idle).feed
        mgmt := { s.mgmt with index := s.mgmt.index + 1 } }.evaluate.answered
      (requestFrame e (2 :: f))
      (if c.release = wordAt f 4 ∧ c.grantDist = wordAt f 6 ∧ c.feedDist = wordAt f 8 ∧ c.arming = wordAt f 10 then 0 else 1)
      [2, BitVec.ofNat 8 s.mgmt.index]) := by
  have hexec := exec_put_lane h ht hl hlen hfree hparse
  have hindex : (s.performing.laneSet l c .idle).evaluate.mgmt.index = s.mgmt.index := by
    rw [(State.evaluate_feedOnly _).mgmt]
    rfl
  have hfree : (s.performing.laneSet l c .idle).asked (s.mgmt.index + 1) false =
      (s.performing.laneSet l c .idle).asked (s.mgmt.index + 1) s.port.reserved := by rw [State.admitsRequest_reserved h]
  rw [hexec, State.writeLane_enabled hc, State.stepped_answered hindex, ← State.asked_evaluate, hfree]
  rfl

end

/-- A PUT that disables a lane (R92). -/
theorem exec_put_disables {e : Envelope} {f : List Byte} {s : State} {l : Lane} {c : LaneConfig}
    (h : s.admitsRequest (requestFrame e (2 :: f)) = true) (ht : s.mgmt.table = .lane)
    (hl : l.number = s.mgmt.index + 1) (hlen : f.length = 12)
    (hfree : s.line.state = .config ∨ (s.line.state = .run ∧ ((s.lane l).run = .idle ∨ (s.lane l).run = .offline)))
    (hparse : parseLane l f = some c) (hc : c.enabled = false) :
    ∃ t : State, exec (.put e f) s = .next t ∧
      (t.lane l).cfg = c ∧ (t.lane l).run = .offline ∧ (t.lane l).request = none ∧ (t.lane l).early = 0 ∧
      l ∉ t.feed.order ∧ (∀ k, k ≠ l → (t.lane k).cfg = (s.lane k).cfg ∧ (t.lane k).early = (s.lane k).early) ∧
      (∀ (k : Lane) (q : LaneRequest), k ≠ l → (s.lane k).run = .ready → (s.lane k).request = some q →
        spanHas q.span l = true →
        (t.lane k).run = .idle ∧ (t.lane k).request = none ∧ k ∉ t.feed.order ∧
        (s.currentPlace.isSome = true →
          (∀ (j : Lane) (x : LaneRequest), j ≠ l → j ≠ k → (s.lane j).run = .ready →
            (s.lane j).request = some x → spanHas x.span l = false) →
          State.recorded s t { code := .readyRefusedSpan, severity := .piece, piece := none, site := .lane k,
                               position := none })) ∧
      ((∀ (k : Lane) (q : LaneRequest), k ≠ l → (s.lane k).run = .ready → (s.lane k).request = some q →
        spanHas q.span l = false) →
        t.faults = s.faults ∧ t.pieces = s.pieces ∧ t.batch = s.batch ∧
          ∀ k, k ≠ l → (t.lane k).run = (s.lane k).run ∧ (t.lane k).request = (s.lane k).request) ∧
      t.mgmt = { s.mgmt with index := s.mgmt.index + 1 } ∧
      t.repliedLast (requestFrame e (2 :: f))
        (if c.release = wordAt f 4 ∧ c.grantDist = wordAt f 6 ∧ c.feedDist = wordAt f 8 ∧ c.arming = wordAt f 10 then 0
          else 1) [2, BitVec.ofNat 8 s.mgmt.index] = true ∧
      t.line = s.line ∧ State.sameTracking s t := by
  let lost := s.spanningLanes l
  let p := s.performing.laneSet l c .offline
  let w := (p.dropSpanning lost).evaluateIdle lost
  have hw : s.performing.writeLane l c = w := State.writeLane_disabled hc
  have hexec := exec_put_lane h ht hl hlen hfree hparse
  rw [hw] at hexec
  have hkeeps (k : Lane) : State.KeepsLane k (p.restLanes lost) w :=
    (p.dropSpanning_keepsLane lost k).trans (State.evaluateIdle_keepsLane _ _)
  have hself : p.lane l = { s.lane l with cfg := c, run := .offline, request := none, early := 0 } :=
    PerLane.get_set_self _ _ _
  have hother {k : Lane} (hk : k ≠ l) : p.lane k = s.lane k := PerLane.get_set_other _ _ hk
  have hnotLost : l ∉ lost := fun hmem => (State.mem_spanningLanes.mp hmem).1 rfl
  have hrested : (p.restLanes lost).lane l = p.lane l := by rw [State.restLanes_lane, if_neg hnotLost]
  have hidle : (p.dropSpanning lost).FeedOnly w :=
    foldl_keeps State.FeedOnly.rfl' State.FeedOnly.trans (fun u _ => u.evaluate_feedOnly) lost _
  have hfirst : s.performing.FeedOnly p := State.onFeed_feedOnly s.performing fun _ => p.feed
  have hlots : s.performing.LotsOnly w := (hfirst.lots.trans (State.dropSpanning_lotsOnly _ _)).trans hidle.lots
  have hmgmt : w.mgmt = s.mgmt := hlots.mgmt
  refine ⟨_, hexec, ?_, ?_, ?_, ?_, ?_, fun k hk => ⟨?_, ?_⟩, fun k q hk hready hrequest hspans => ?_, fun hnone => ?_, ?_,
    State.answered_repliedLast _ _ _ _, hlots.line, hlots.travel, hlots.eyes, hlots.matcher, hlots.folder⟩
  · exact ((hkeeps l).cfg.trans (by rw [hrested, hself]) :)
  · exact ((hkeeps l).run (by rw [hrested, hself]; simp)).1.trans (by rw [hrested, hself])
  · exact ((hkeeps l).run (by rw [hrested, hself]; simp)).2.trans (by rw [hrested, hself])
  · exact ((hkeeps l).early.trans (by rw [hrested, hself]) :)
  · exact (hkeeps l).order (State.restLanes_order _ _ (.inr (by simp [p, State.laneSet])))
  · refine (hkeeps k).cfg.trans ?_
    rw [State.restLanes_lane, hother hk]
    split <;> rfl
  · refine (hkeeps k).early.trans ?_
    rw [State.restLanes_lane, hother hk]
    split <;> rfl
  · have hmem : k ∈ lost := State.mem_spanningLanes.mpr ⟨hk, hready, q, hrequest, hspans⟩
    have hlane : (p.restLanes lost).lane k = { p.lane k with run := .idle, request := none } := by
      rw [State.restLanes_lane, if_pos hmem]
    obtain ⟨hrun, hnone⟩ := (hkeeps k).run (by rw [hlane]; simp)
    refine ⟨hrun.trans (by rw [hlane]), hnone.trans (by rw [hlane]),
      (hkeeps k).order (State.restLanes_order _ _ (.inl hmem)), fun hcurrent honly => ?_⟩
    have hsingle : lost = [k] := State.spanningLanes_single hmem fun j hj => by
      obtain ⟨hjl, hjready, x, hx, hxspans⟩ := State.mem_spanningLanes.mp hj
      by_contra hne
      exact absurd hxspans (by simp [honly j x hjl hne hjready hx])
    have hrecorded := State.dropSpanning_recorded (s := p) (k := k) hcurrent
    rw [← hsingle] at hrecorded
    exact State.recorded_faults (t := p.dropSpanning lost) hidle.faults hrecorded
  · have hempty : lost = [] := List.eq_nil_iff_forall_not_mem.mpr fun k hk => by
      obtain ⟨hkl, hready, q, hq, hspans⟩ := State.mem_spanningLanes.mp hk
      exact absurd hspans (by simp [hnone k q hkl hready hq])
    have hsame : w = p := by
      show (p.dropSpanning lost).evaluateIdle lost = p
      rw [hempty, State.dropSpanning_nil]
      rfl
    rw [hsame]
    exact ⟨rfl, rfl, rfl, fun k hk => ⟨congrArg LaneEntry.run (hother hk), congrArg LaneEntry.request (hother hk)⟩⟩
  · exact congrArg (fun q : Management => { q with index := q.index + 1 }) hmgmt

/-! ### EYE (R22) -/

section

variable {s : State} {i : Nat} {c : EyeConfig} {x : Eye} {f : List Byte}

/-- The repeat-fault keys of an eye key, by the key (R35). -/
theorem EyeConfig.ownsKey_eq (c : EyeConfig) (k : RepeatKey) : c.ownsKey k =
    match k with
    | .frameDamaged => false
    | .glitch a ch => c.role != .unused && a == c.node && ch == c.channel
    | .edgeSequence a ch => c.role != .unused && a == c.node && ch == c.channel := by
  cases k <;> simp [EyeConfig.ownsKey, Bool.and_assoc]

theorem State.writeEye_eq (hx : s.eyeAt i = some x) : s.writeEye i c = { s with
    eyes := {
      map := s.eyes.map.set i { cfg := c, dyn := EyeDynamic.start }
      repeats := s.eyes.repeats.filter fun k => !c.ownsKey k && !x.cfg.ownsKey k } } := by
  rw [State.writeEye, hx]
  rfl

/-- An EYE entry that passes the checks (R22). -/
theorem State.eyeAccepted_true (hnode : nodeOk c.node = true) (hchannel : c.channel.toNat ≤ 7)
    (hkey : ∀ j y, j ≠ i → s.eyeAt j = some y → y.cfg.role ≠ .unused → ¬(y.cfg.node = c.node ∧ y.cfg.channel = c.channel))
    (htrack : c.role = .track → c.kind ≠ none ∧ 1 ≤ c.lane.toNat ∧ c.lane.toNat ≤ 4 ∧
      ∀ j y, j ≠ i → s.eyeAt j = some y → y.cfg.role = .track → ¬(y.cfg.kind = c.kind ∧ y.cfg.lane = c.lane)) :
    s.eyeAccepted i c = true := by
  have hkey' : s.otherEye i c.sameKey = false := by
    rw [Bool.eq_false_iff, Ne, State.otherEye_iff]
    rintro ⟨j, y, hj, hy, hsame⟩
    simp only [EyeConfig.sameKey, Bool.and_eq_true, bne_iff_ne, beq_iff_eq] at hsame
    obtain ⟨⟨hrole, hn⟩, hch⟩ := hsame
    exact hkey j y hj hy hrole ⟨hn, hch⟩
  by_cases hrole : c.role = .track
  · obtain ⟨hkind, hlow, hhigh, hplace⟩ := htrack hrole
    have hlane : Lane.ofNumber c.lane.toNat ≠ none := fun h => by
      rcases Lane.ofNumber_eq_none.mp h with h | h <;> omega
    have hplace' : s.otherEye i c.samePlace = false := by
      rw [Bool.eq_false_iff, Ne, State.otherEye_iff]
      rintro ⟨j, y, hj, hy, hsame⟩
      simp only [EyeConfig.samePlace, Bool.and_eq_true, beq_iff_eq] at hsame
      obtain ⟨⟨hr, hk⟩, hl⟩ := hsame
      exact hplace j y hj hy hr ⟨hk, hl⟩
    simp [State.eyeAccepted, hnode, hchannel, hkey', hrole, Option.isSome_iff_ne_none.mpr hkind,
      Option.isSome_iff_ne_none.mpr hlane, hplace']
  · simp [State.eyeAccepted, hnode, hchannel, hkey', hrole]

/-- A PUT of an EYE entry that is accepted; the keys kept are those of neither eye key (R22). -/
theorem exec_put_eye {e : Envelope} {kept : RepeatKey → Bool} (h : s.admitsRequest (requestFrame e (2 :: f)) = true) (ht : s.mgmt.table = .eye)
    (hi : s.mgmt.index < 32) (hlen : f.length = 7) (hconfig : s.line.state = .config) (hparse : parseEye f = some c)
    (haccepted : s.eyeAccepted s.mgmt.index c = true) (hx : s.eyeAt s.mgmt.index = some x)
    (hkept : ∀ k, (!c.ownsKey k && !x.cfg.ownsKey k) = kept k) :
    exec (.put e f) s = .next ({ s.received with
        eyes := {
          map := s.eyes.map.set s.mgmt.index { cfg := c, dyn := EyeDynamic.start }
          repeats := s.eyes.repeats.filter kept }
        mgmt := { s.mgmt with index := s.mgmt.index + 1 } }.answered (requestFrame e (2 :: f)) 0
      [1, BitVec.ofNat 8 s.mgmt.index]) := by
  have haccepted' : s.performing.eyeAccepted s.mgmt.index c = true := haccepted
  have hput : s.performing.putAnswer f = .written (s.performing.writeEye s.mgmt.index c) false := by
    refine (State.putAnswer_eye (s := s.performing) ht hi hlen).trans ?_
    refine (if_neg (not_not_intro hconfig)).trans ?_
    rw [hparse]
    exact if_pos haccepted'
  have hexec := exec_put_written h hput
  rw [hexec, State.writeEye_eq (s := s.performing) hx, ht, show (fun k => !c.ownsKey k && !x.cfg.ownsKey k) = kept from
    funext hkept]
  rfl

end

/-- Settles O48: a LANE entry written, with an evaluation or with the requests that span it lost; an EYE entry written. -/
theorem putSetsLaneAndEye : Obligations.PutSetsLaneAndEye := by
  unfold Obligations.PutSetsLaneAndEye
  refine ⟨fun e f s l h ht hl hlen hconfig hone hlow hhigh hlevel hwidths => ?_,
    fun e f s l h ht hl hlen hrun hlane hone hlow hhigh hlevel hwidths => ?_,
    fun e f s l h ht hl hlen hfree hzero hlevel hwidths => ?_,
    fun e f s x h ht hi hlen hconfig hzero hkind hx => ?_,
    fun e f s x role kind h ht hi hlen hconfig hused hrole hkind hlow hhigh hchannel hkey htrack hx => ?_⟩
  case refine_1 =>
    obtain ⟨c, hparse, henabled, hnode, hlev, hwid, hrelease, hgrant, hfeed, harming⟩ :=
      parseLane_eq (enabled := true) hone (fun _ => ⟨hlow, hhigh⟩) hlevel hwidths
    have hexec := exec_put_enables h ht hl hlen (.inl hconfig) hparse henabled
    rw [State.evaluate_notRun _ (by simp [State.received, hconfig])] at hexec
    exact ⟨c, henabled, hnode, hlev, hwid, hrelease, hgrant, hfeed, harming, hexec⟩
  case refine_2 =>
    obtain ⟨c, hparse, henabled, hnode, hlev, hwid, hrelease, hgrant, hfeed, harming⟩ :=
      parseLane_eq (enabled := true) hone (fun _ => ⟨hlow, hhigh⟩) hlevel hwidths
    exact ⟨c, _, henabled, hnode, hlev, hwid, hrelease, hgrant, hfeed, harming, rfl,
      exec_put_enables h ht hl hlen (.inr ⟨hrun, hlane⟩) hparse henabled⟩
  case refine_3 =>
    obtain ⟨c, hparse, hdisabled, hnode, hlev, hwid, hrelease, hgrant, hfeed, harming⟩ :=
      parseLane_eq (enabled := false) hzero (by simp) hlevel hwidths
    obtain ⟨t, hexec, ht⟩ := exec_put_disables h ht hl hlen hfree hparse hdisabled
    exact ⟨c, t, hexec, hdisabled, hnode, hlev, hwid, hrelease, hgrant, hfeed, harming, ht⟩
  case refine_4 =>
    obtain ⟨kind, hkind'⟩ : ∃ kind, (byteAt f 3).toNat = kindNumber kind := by
      interval_cases h : (byteAt f 3).toNat
      · exact ⟨Option.none, rfl⟩
      · exact ⟨some .laneExit, rfl⟩
      · exact ⟨some .inlet, rfl⟩
      · exact ⟨some .exit, rfl⟩
    have hparse := parseEye_of (role := .unused) hzero hkind'
    rw [if_pos rfl] at hparse
    exact exec_put_eye h ht hi hlen hconfig hparse rfl hx fun k => by
      cases k <;> simp [EyeConfig.ownsKey_eq, EyeConfig.unused]
  case refine_5 =>
    have hparse := parseEye_of (kind := kind) hrole.symm (hkind.trans (by cases kind <;> rfl))
    rw [if_neg hused] at hparse
    have haccepted : s.eyeAccepted s.mgmt.index (eyeFields f role kind) = true :=
      State.eyeAccepted_true (nodeOk_iff.mpr ⟨hlow, hhigh⟩) hchannel hkey htrack
    have hnotUnused : (role != .unused) = true := by simpa using hused
    exact exec_put_eye h ht hi hlen hconfig hparse haccepted hx fun k => by
      cases k <;> simp [EyeConfig.ownsKey_eq, hnotUnused]

end Sys2Proof.Machine

/-! SUPPORT. The obligation on a taken edge, its confirmation, and the confirmations of an applied sample (R24 to R30). -/

namespace Sys2Proof.Machine

open Sys2Proof

/-! ### Differences of positions within half of the position space (R5) -/

/-- Positions at or after one base lie within half of the position space: their difference is that of their distances. -/
theorem posDiff_of_base {a b base : Pos} (ha : 0 ≤ (a - base).toInt) (hb : 0 ≤ (b - base).toInt) :
    posDiff a b = (a - base).toInt - (b - base).toInt := by
  have hsub : a - b = (a - base) - (b - base) := by bv_omega
  have hamax : (a - base).toInt < 2 ^ 31 := BitVec.toInt_lt
  have hbmax : (b - base).toInt < 2 ^ 31 := BitVec.toInt_lt
  rw [posDiff, hsub, BitVec.toInt_sub, Int.bmod_eq_of_le (by omega) (by omega)]

theorem posDiff_self (a : Pos) : posDiff a a = 0 := by
  simp [posDiff]

theorem eq_of_posDiff_eq_zero {a b : Pos} (h : posDiff a b = 0) : a = b := by
  have hzero : a - b = 0 := BitVec.eq_of_toInt_eq (h.trans BitVec.toInt_zero.symm)
  bv_omega

theorem confirmPoint_eq (c : EyeConfig) (p : PendingTransition) : c.confirmPoint p = p.pos + BitVec.ofNat 32 c.minLength := rfl

/-! ### An entry of the eye map -/

section

variable {s : State} {i : Nat} {x : Eye}

theorem State.onEye_eq (hx : s.eyeAt i = some x) (f : EyeDynamic → EyeDynamic) : s.onEye i f =
    { s with eyes := { s.eyes with map := s.eyes.map.set i { x with dyn := f x.dyn } } } := by
  have hmap : s.eyes.map.modify i (fun e => { e with dyn := f e.dyn }) = s.eyes.map.set i { x with dyn := f x.dyn } := by
    rw [List.modify_eq_set_getElem?, show s.eyes.map[i]? = some x from hx]
    rfl
  exact congrArg (fun m => { s with eyes := { s.eyes with map := m } }) hmap

theorem State.onEye_eyeAt (hx : s.eyeAt i = some x) (f : EyeDynamic → EyeDynamic) :
    (s.onEye i f).eyeAt i = some { x with dyn := f x.dyn } := by
  obtain ⟨hi, -⟩ := List.getElem?_eq_some_iff.mp hx
  rw [State.onEye_eq hx, State.eyeAt]
  simp [hi]

theorem State.onEye_onEye (hx : s.eyeAt i = some x) (f g : EyeDynamic → EyeDynamic) :
    (s.onEye i f).onEye i g = s.onEye i fun d => g (f d) := by
  rw [State.onEye_eq (State.onEye_eyeAt hx f), State.onEye_eq hx, State.onEye_eq hx]
  simp only [List.set_set]

theorem State.attributed_eq (hx : s.eyeAt i = some x) : s.attributed i = x.dyn.attributed := by
  rw [State.attributed, hx]
  rfl

end

/-! ### An edge of a tracked eye (R24 to R27, R30) -/

section

variable {s : State} {src channel edge : Byte} {stamp : Stamp} {i : Nat} {x : Eye} {k : Edge}

/-- The last row of R24. -/
theorem State.classifyEdge_tracked (hchannel : channel.toNat ≤ 7) (hedge : edgeOf edge = some k)
    (hi : s.eyeIndex src channel = some i) (hx : s.eyeAt i = some x) (htrack : x.cfg.role = .track)
    (hdegraded : x.dyn.degraded = false) : s.classifyEdge src channel edge stamp = s.trackEdge i x k stamp := by
  unfold State.classifyEdge
  rw [if_neg (Nat.not_lt.mpr hchannel), hedge, hi]
  simp [hx, htrack, hdegraded]

/-- The pending transition that an edge's stamp converts to (R26). -/
def State.transitionAt (s : State) (k : Edge) (stamp : Stamp) : PendingTransition :=
  { kind := k, pos := (s.travel.convert s.mgmt.line.extrapolation stamp).1,
    stale := (s.travel.convert s.mgmt.line.extrapolation stamp).2 }

theorem State.trackEdge_eq (h : x.dyn.raw ≠ k) : s.trackEdge i x k stamp =
    (s.takeEdge i x (s.transitionAt k stamp), .forwarded (if x.isGlitch (s.transitionAt k stamp).pos then none
      else (s.takeEdge i x (s.transitionAt k stamp)).tagFor i k x.cfg.minLength)) :=
  if_neg h

theorem Eye.isGlitch_none {q : Pos} (h : x.dyn.pending = none) : x.isGlitch q = false := by
  simp [Eye.isGlitch, h]

theorem Eye.isGlitch_iff {q : Pos} {p : PendingTransition} (h : x.dyn.pending = some p) :
    x.isGlitch q = true ↔ (q - (p.pos + BitVec.ofNat 32 x.cfg.minLength)).toInt < 0 := by
  rw [Eye.isGlitch, h, decide_eq_true_iff, confirmPoint_eq]
  rfl

/-- The tag of an edge that was taken and is no glitch (R30). -/
theorem State.tagFor_eq (v : State) (i : Nat) (k : Edge) (m : Nat) : v.tagFor i k m =
    if (k = .clear ∨ m = 0) ∧ v.line.state ≠ .config ∧ v.attributed i ≠ 0 then some (v.attributed i) else none := by
  unfold State.tagFor
  by_cases hnone : v.line.state = .config ∨ v.attributed i = 0
  · rw [if_pos hnone, if_neg (by tauto)]
  · rw [if_neg hnone]
    rw [not_or] at hnone
    cases k with
    | clear => exact (if_pos ⟨.inl rfl, hnone⟩).symm
    | block =>
      by_cases hm : m = 0
      · exact (if_pos hm).trans (if_pos ⟨.inr hm, hnone⟩).symm
      · exact (if_neg hm).trans (if_neg (by simp [hm])).symm

/-- A taken edge that is no glitch goes on as R30 says. -/
theorem State.afterEdge_tagged (v : State) (i : Nat) (k : Edge) (m : Nat) (f : Frame) :
    v.afterEdge f (.forwarded (v.tagFor i k m)) = v.passOn
      (if (k = .clear ∨ m = 0) ∧ v.line.state ≠ .config ∧ v.attributed i ≠ 0 then
        f.annotated (v.attributed i) (v.line.state == .suspect) else f) := by
  rw [State.tagFor_eq]
  split <;> rfl

/-- The command of an edge that a tracked eye takes and that is no glitch (R26, R27, R30). -/
theorem exec_edge_taken {e : Envelope} {tag : Half} {v : State}
    (hadmits : s.admits (edgeFrame e channel edge stamp tag) = true) (hdest : e.dest = 31) (hown : s.port.own ≠ 31)
    (hchannel : channel.toNat ≤ 7) (hedge : edgeOf edge = some k) (hi : s.eyeIndex e.src channel = some i)
    (hx : s.eyeAt i = some x) (htrack : x.cfg.role = .track) (hdegraded : x.dyn.degraded = false) (hraw : x.dyn.raw ≠ k)
    (hglitch : x.isGlitch (s.transitionAt k stamp).pos = false)
    (hv : s.received.takeEdge i x (s.transitionAt k stamp) = v) :
    exec (.edge e channel edge stamp tag) s = .next (v.passOn
      (if (k = .clear ∨ x.cfg.minLength = 0) ∧ v.line.state ≠ .config ∧ v.attributed i ≠ 0 then
        (edgeFrame e channel edge stamp tag).annotated (v.attributed i) (v.line.state == .suspect)
      else edgeFrame e channel edge stamp tag)) := by
  have hglitch' : x.isGlitch (s.received.transitionAt k stamp).pos = false := hglitch
  have hv' : s.received.takeEdge i x (s.received.transitionAt k stamp) = v := hv
  rw [exec_edge hadmits hdest hown,
    State.classifyEdge_tracked (s := s.received) hchannel hedge hi hx htrack hdegraded, State.trackEdge_eq hraw, hglitch', hv',
    if_neg (by simp), State.afterEdge_tagged]

theorem State.takeEdge_first (hp : x.dyn.pending = none) (new : PendingTransition) : s.takeEdge i x new =
    (s.onEye i fun d => { d with raw := new.kind }).startPending i x.cfg new := by
  simp only [State.takeEdge, hp]

theorem State.takeEdge_next {p : PendingTransition} (hp : x.dyn.pending = some p) (new : PendingTransition)
    (h : x.isGlitch new.pos = false) : s.takeEdge i x new =
      ((s.onEye i fun d => { d with raw := new.kind }).confirm i x.cfg p).startPending i x.cfg new := by
  simp only [State.takeEdge, hp, h, Bool.false_eq_true, if_false]

end

/-! ### Confirmation (R29) -/

section

variable {s : State} {i : Nat} {x : Eye} {p : PendingTransition}

/-- The dynamic state of an eye whose transition is confirmed, before the matcher's answer. -/
def EyeDynamic.confirmed (d : EyeDynamic) (p : PendingTransition) : EyeDynamic :=
  { d with filtered := p.kind, pending := none }

theorem State.confirm_config (h : s.line.state = .config) (i : Nat) (c : EyeConfig) (p : PendingTransition) :
    s.confirm i c p = s.onEye i fun d => d.confirmed p := by
  unfold State.confirm
  split
  · rfl
  · exact if_pos h

theorem State.confirm_taken {t : Transition} (ht : x.cfg.transition p = some t) (h : s.line.state ≠ .config) :
    (t.edge = .block → s.confirm i x.cfg p = ((s.onEye i fun d => d.confirmed p).takeBlock t).1.onEye i fun d =>
      { d with attributed := ((s.onEye i fun d => d.confirmed p).takeBlock t).2 }) ∧
    (t.edge = .clear → s.confirm i x.cfg p = (s.onEye i fun d => d.confirmed p).takeClear t) := by
  have hnot : ¬ (s.onEye i fun d => d.confirmed p).line.state = .config := h
  have hconfirm : s.confirm i x.cfg p = (s.onEye i fun d => d.confirmed p).handTransition i t := by
    simp only [State.confirm, ht]
    rfl
  rw [hconfirm, State.handTransition, if_neg hnot]
  exact ⟨fun hedge => by rw [hedge], fun hedge => by rw [hedge]⟩

end

/-! ### The list of the confirmations that are due (R28) -/

/-- The eyes whose confirmations are due, in map order. -/
def State.dueInMap (s : State) : List (Nat × Pos) :=
  s.eyes.map.zipIdx.filterMap fun x => (x.1.due s.travel.position).map fun p => (x.2, p.pos)

theorem State.dueEyes_eq (s : State) : s.dueEyes = s.dueInMap.foldl (fun l x => insertDue x l) [] := rfl

theorem insertDue_perm (x : Nat × Pos) (l : List (Nat × Pos)) : (insertDue x l).Perm (x :: l) := by
  induction l with
  | nil => exact .refl _
  | cons y rest ih =>
    unfold insertDue
    split
    · exact .refl _
    · exact (ih.cons y).trans (.swap x y rest)

theorem foldl_insertDue_perm (new l : List (Nat × Pos)) : (new.foldl (fun l x => insertDue x l) l).Perm (l ++ new) := by
  induction new generalizing l with
  | nil => rw [List.foldl_nil, List.append_nil]
  | cons x new ih =>
    refine (ih _).trans ?_
    refine ((insertDue_perm x l).append_right new).trans ?_
    exact (List.perm_middle (a := x) (l₁ := l) (l₂ := new)).symm

theorem State.dueEyes_perm (s : State) : s.dueEyes.Perm s.dueInMap := by
  rw [State.dueEyes_eq]
  exact (foldl_insertDue_perm _ _).trans (by rw [List.nil_append])

theorem zipIdx_increasing {α : Type} (l : List α) (n : Nat) : (l.zipIdx n).Pairwise fun a b => a.2 < b.2 := by
  induction l generalizing n with
  | nil => simp
  | cons a l ih =>
    rw [List.zipIdx_cons, List.pairwise_cons]
    exact ⟨fun b hb => List.le_snd_of_mem_zipIdx hb, ih (n + 1)⟩

theorem State.dueInMap_increasing (s : State) : s.dueInMap.Pairwise fun a b => a.1 < b.1 := by
  refine (zipIdx_increasing s.eyes.map 0).filterMap _ fun a b hab c hc d hd => ?_
  obtain ⟨-, -, rfl⟩ := Option.map_eq_some_iff.mp hc
  obtain ⟨-, -, rfl⟩ := Option.map_eq_some_iff.mp hd
  exact hab

theorem Eye.due_eq_some {x : Eye} {position : Pos} {q : PendingTransition} : x.due position = some q ↔
    x.cfg.role = .track ∧ x.dyn.degraded = false ∧ x.dyn.pending = some q ∧
      0 ≤ (position - (q.pos + BitVec.ofNat 32 x.cfg.minLength)).toInt := by
  have hreaches : reaches position (x.cfg.confirmPoint q) = true ↔
      0 ≤ (position - (q.pos + BitVec.ofNat 32 x.cfg.minLength)).toInt := by
    rw [confirmPoint_eq, reaches, decide_eq_true_iff]
    rfl
  unfold Eye.due
  split
  next h => rw [Option.filter_eq_some_iff, hreaches]; tauto
  next h => simp only [reduceCtorEq, false_iff]; tauto

theorem State.mem_dueInMap {s : State} {i : Nat} {p : Pos} : (i, p) ∈ s.dueInMap ↔
    ∃ (x : Eye) (q : PendingTransition), s.eyeAt i = some x ∧ x.due s.travel.position = some q ∧ q.pos = p := by
  simp only [State.dueInMap, List.mem_filterMap, Prod.exists, Option.map_eq_some_iff, Prod.mk.injEq,
    List.mk_mem_zipIdx_iff_getElem?]
  constructor
  · rintro ⟨x, j, hx, q, hq, rfl, rfl⟩
    exact ⟨x, q, hx, hq, rfl⟩
  · rintro ⟨x, q, hx, hq, rfl⟩
    exact ⟨x, i, hx, q, hq, rfl, rfl⟩

/-! ### Its order (R28) -/

/-- Before in the order of R28: an earlier position, or the same with a lower map index. -/
def dueBefore (a b : Nat × Pos) : Prop := 0 < posDiff b.2 a.2 ∨ (a.2 = b.2 ∧ a.1 < b.1)

/-- An eye behind the others of the map is placed behind those at or before its position. -/
theorem insertDue_ordered {base : Pos} {x : Nat × Pos} {l : List (Nat × Pos)} (hx : 0 ≤ (x.2 - base).toInt)
    (hbase : ∀ y ∈ l, 0 ≤ (y.2 - base).toInt) (hbehind : ∀ y ∈ l, y.1 < x.1) (h : l.Pairwise dueBefore) :
    (insertDue x l).Pairwise dueBefore := by
  induction l with
  | nil => simp [insertDue]
  | cons y rest ih =>
    have hy := hbase y List.mem_cons_self
    obtain ⟨hfirst, hrest⟩ := List.pairwise_cons.mp h
    have hdiff : posDiff y.2 x.2 = (y.2 - base).toInt - (x.2 - base).toInt := posDiff_of_base hy hx
    unfold insertDue
    split
    next hahead =>
      refine List.pairwise_cons.mpr ⟨fun z hz => ?_, h⟩
      rcases List.mem_cons.mp hz with rfl | hz
      · exact .inl hahead
      · have hzbase := hbase z (List.mem_cons_of_mem _ hz)
        have hzdiff : posDiff z.2 x.2 = (z.2 - base).toInt - (x.2 - base).toInt := posDiff_of_base hzbase hx
        refine .inl ?_
        rcases hfirst z hz with hlater | ⟨hsame, -⟩
        · rw [posDiff_of_base hzbase hy] at hlater
          omega
        · rwa [← hsame]
    next hbehind' =>
      refine List.pairwise_cons.mpr ⟨fun z hz => ?_, ih (fun z hz => hbase z (List.mem_cons_of_mem _ hz))
        (fun z hz => hbehind z (List.mem_cons_of_mem _ hz)) hrest⟩
      rcases List.mem_cons.mp ((insertDue_perm x rest).mem_iff.mp hz) with rfl | hz
      · have hback : posDiff z.2 y.2 = (z.2 - base).toInt - (y.2 - base).toInt := posDiff_of_base hx hy
        rcases Int.lt_or_eq_of_le (show 0 ≤ posDiff z.2 y.2 by omega) with hlater | hsame
        · exact .inl hlater
        · exact .inr ⟨(eq_of_posDiff_eq_zero hsame.symm).symm, hbehind y List.mem_cons_self⟩
      · exact hfirst z hz

theorem foldl_insertDue_ordered {base : Pos} (new l : List (Nat × Pos)) (hbase : ∀ x ∈ l ++ new, 0 ≤ (x.2 - base).toInt)
    (hincreasing : (l ++ new).Pairwise fun a b => a.1 ≠ b.1) (hbehind : ∀ x ∈ new, ∀ y ∈ l, y.1 < x.1)
    (hnew : new.Pairwise fun a b => a.1 < b.1) (h : l.Pairwise dueBefore) :
    (new.foldl (fun l x => insertDue x l) l).Pairwise dueBefore := by
  induction new generalizing l with
  | nil => exact h
  | cons x new ih =>
    obtain ⟨hfirst, hrest⟩ := List.pairwise_cons.mp hnew
    have hperm : (insertDue x l ++ new).Perm (l ++ x :: new) :=
      ((insertDue_perm x l).append_right new).trans (List.perm_middle (a := x) (l₁ := l) (l₂ := new)).symm
    refine ih _ (fun y hy => hbase y (hperm.mem_iff.mp hy)) ?_ (fun y hy z hz => ?_) hrest
      (insertDue_ordered (hbase x (by simp)) (fun y hy => hbase y (by simp [hy])) (hbehind x List.mem_cons_self) h)
    · exact (hperm.pairwise_iff (fun h => Ne.symm h)).mpr hincreasing
    · rcases List.mem_cons.mp ((insertDue_perm x l).mem_iff.mp hz) with rfl | hz
      · exact hfirst y hy
      · exact hbehind y (List.mem_cons_of_mem _ hy) z hz

/-! ### The confirmations in CONFIG (R28, R29) -/

/-- An eye whose pending transition, if it has one, is confirmed. -/
def Eye.settled (x : Eye) : Eye :=
  match x.dyn.pending with
  | none => x
  | some p => { x with dyn := x.dyn.confirmed p }

theorem Eye.settled_none {x : Eye} (h : x.dyn.pending = none) : x.settled = x := by
  rw [Eye.settled, h]

theorem Eye.settled_some {x : Eye} {p : PendingTransition} (h : x.dyn.pending = some p) :
    x.settled = { x with dyn := x.dyn.confirmed p } := by
  rw [Eye.settled, h]

theorem Eye.settled_settled (x : Eye) : x.settled.settled = x.settled := by
  refine Eye.settled_none ?_
  cases h : x.dyn.pending with
  | none => rw [Eye.settled_none h, h]
  | some p =>
    rw [Eye.settled_some h]
    rfl

/-- The eyes at some map indices confirmed. -/
def settleEyes (l : List Nat) (m : List Eye) : List Eye := l.foldl (fun m i => m.modify i Eye.settled) m

theorem settleEyes_getElem? (l : List Nat) (m : List Eye) (j : Nat) :
    (settleEyes l m)[j]? = if j ∈ l then m[j]?.map Eye.settled else m[j]? := by
  induction l generalizing m with
  | nil => simp [settleEyes]
  | cons i l ih =>
    have hstep : settleEyes (i :: l) m = settleEyes l (m.modify i Eye.settled) := rfl
    rw [hstep, ih, List.getElem?_modify]
    by_cases hj : i = j
    · subst hj
      by_cases hmem : i ∈ l
      · cases hi : m[i]? <;> simp [hmem, Eye.settled_settled]
      · simp [hmem]
    · simp [hj, Ne.symm hj]

theorem State.confirmEye_config {s : State} (h : s.line.state = .config) (i : Nat) : s.confirmEye i =
    { s with eyes := { s.eyes with map := s.eyes.map.modify i Eye.settled } } := by
  have hsame (m : List Eye) (hm : m = s.eyes.map) : s = { s with eyes := { s.eyes with map := m } } := by rw [hm]
  unfold State.confirmEye
  split
  next hnone =>
    exact hsame _ (List.modify_eq_self (List.getElem?_eq_none_iff.mp (show s.eyes.map[i]? = none from hnone)))
  next x hx =>
    have hmap (e : Eye) (he : x.settled = e) : s.eyes.map.modify i Eye.settled = s.eyes.map.set i e := by
      rw [List.modify_eq_set_getElem?, show s.eyes.map[i]? = some x from hx, ← he]
      rfl
    split
    next hnone =>
      refine hsame _ ?_
      rw [hmap x (Eye.settled_none hnone)]
      obtain ⟨hi, rfl⟩ := List.getElem?_eq_some_iff.mp hx
      exact List.set_getElem_self hi
    next p hp =>
      rw [State.confirm_config h, State.onEye_eq hx, hmap _ (Eye.settled_some hp)]

theorem State.confirmDue_config {s : State} (h : s.line.state = .config) : s.confirmDue =
    { s with eyes := { s.eyes with map := settleEyes (s.dueEyes.map fun x => x.1) s.eyes.map } } := by
  have hfold (l : List Nat) (s : State) (h : s.line.state = .config) : l.foldl State.confirmEye s =
      { s with eyes := { s.eyes with map := settleEyes l s.eyes.map } } := by
    induction l generalizing s with
    | nil => rfl
    | cons i l ih =>
      rw [List.foldl_cons, State.confirmEye_config h, ih]
      · rfl
      · exact h
  exact hfold _ s h

theorem State.mem_dueIndices {s : State} {j : Nat} {x : Eye} (hx : s.eyeAt j = some x) :
    (j ∈ s.dueEyes.map fun y => y.1) ↔ ∃ q, x.due s.travel.position = some q := by
  simp only [List.mem_map, Prod.exists, exists_and_right, exists_eq_right, s.dueEyes_perm.mem_iff, State.mem_dueInMap]
  constructor
  · rintro ⟨p, y, q, hy, hq, -⟩
    obtain rfl := Option.some.inj (hx.symm.trans hy)
    exact ⟨q, hq⟩
  · rintro ⟨q, hq⟩
    exact ⟨q.pos, x, q, hx, hq, rfl⟩

/-- What the confirmations make of each entry of the map, in CONFIG (R28, R29). -/
theorem State.confirmDue_map {s : State} {g : Eye → Eye} (hg : ∀ x : Eye, g x =
      if (x.due s.travel.position).isSome then x.settled else x) (h : s.line.state = .config) : s.confirmDue =
    { s with eyes := { s.eyes with map := s.eyes.map.map g } } := by
  have hmap : settleEyes (s.dueEyes.map fun x => x.1) s.eyes.map = s.eyes.map.map g := by
    refine List.ext_getElem? fun j => ?_
    rw [settleEyes_getElem?, List.getElem?_map]
    cases hj : s.eyes.map[j]? with
    | none => simp
    | some x =>
      have hiff := State.mem_dueIndices (s := s) (j := j) (x := x) hj
      by_cases hdue : ∃ q, x.due s.travel.position = some q
      · rw [if_pos (hiff.mpr hdue), Option.map_some, Option.map_some, hg, if_pos (Option.isSome_iff_exists.mpr hdue)]
      · rw [if_neg (mt hiff.mp hdue), Option.map_some, hg, if_neg (by simpa [Option.isSome_iff_exists] using hdue)]
  rw [State.confirmDue_config h, hmap]

/-- An entry's confirmation at a sample, written out. -/
theorem Eye.settled_due (x : Eye) (position : Pos) :
    (match x.dyn.pending with
    | none => x
    | some p =>
      if x.cfg.role = .track ∧ x.dyn.degraded = false ∧
          0 ≤ (position - (p.pos + BitVec.ofNat 32 x.cfg.minLength)).toInt then
        { x with dyn := { x.dyn with filtered := p.kind, pending := none } }
      else x) = if (x.due position).isSome then x.settled else x := by
  cases hp : x.dyn.pending with
  | none => simp [Eye.settled_none hp]
  | some p =>
    have hdue : (x.due position).isSome = true ↔ x.cfg.role = .track ∧ x.dyn.degraded = false ∧
        0 ≤ (position - (p.pos + BitVec.ofNat 32 x.cfg.minLength)).toInt := by
      rw [Option.isSome_iff_exists]
      constructor
      · rintro ⟨q, hq⟩
        obtain ⟨hrole, hdegraded, hpending, hreached⟩ := Eye.due_eq_some.mp hq
        obtain rfl := Option.some.inj (hp.symm.trans hpending)
        exact ⟨hrole, hdegraded, hreached⟩
      · rintro ⟨hrole, hdegraded, hreached⟩
        exact ⟨p, Eye.due_eq_some.mpr ⟨hrole, hdegraded, hp, hreached⟩⟩
    rw [Eye.settled_some hp]
    by_cases h : x.cfg.role = .track ∧ x.dyn.degraded = false ∧
        0 ≤ (position - (p.pos + BitVec.ofNat 32 x.cfg.minLength)).toInt
    · exact (if_pos h).trans (if_pos (hdue.mpr h)).symm
    · exact (if_neg h).trans (if_neg (mt hdue.mp h)).symm

/-! ### The obligation -/

section

variable {s : State} {i : Nat} {x : Eye} {k : Edge} {stamp : Stamp}

/-- The confirmation of an eye, in CONFIG and outside it (R29). -/
theorem State.confirm_eq {u : State} {p : PendingTransition} (hx : s.eyeAt i = some x) (hu : u = { s with eyes := { s.eyes with
      map := s.eyes.map.set i { x with dyn := { x.dyn with filtered := p.kind, pending := none } } } }) :
    (s.line.state = .config → s.confirm i x.cfg p = u) ∧
    ∀ (c : Checkpoint) (l : Lane) (t : Transition), s.line.state ≠ .config → x.cfg.kind = some c →
      x.cfg.lane.toNat = l.number →
      t = { node := x.cfg.node, channel := x.cfg.channel, kind := c, lane := l, edge := p.kind, pos := p.pos,
            stale := p.stale } →
      (p.kind = .block → s.confirm i x.cfg p = (u.takeBlock t).1.onEye i fun d =>
        { d with attributed := (u.takeBlock t).2 }) ∧
      (p.kind = .clear → s.confirm i x.cfg p = u.takeClear t) := by
  have hu' : (s.onEye i fun d => d.confirmed p) = u := (State.onEye_eq hx _).trans hu.symm
  refine ⟨fun hconfig => (State.confirm_config hconfig i x.cfg p).trans hu', fun c l t hnot hkind hlane ht => ?_⟩
  have htransition : x.cfg.transition p = some t := by
    simp only [EyeConfig.transition, hkind, Lane.ofNumber_eq_some.mpr hlane, ht]
  have hedge : t.edge = p.kind := by rw [ht]
  have h := State.confirm_taken (i := i) htransition hnot
  rw [hu', hedge] at h
  exact h

theorem dueEyes_two {i j : Nat} {p q : Pos} (hij : i < j) (h : s.dueEyes.Perm [(i, p), (j, q)]) :
    s.dueEyes = if 0 < (p - q).toInt then [(j, q), (i, p)] else [(i, p), (j, q)] := by
  have hpair : s.dueInMap = [(i, p), (j, q)] :=
    (s.dueEyes_perm.symm.trans h).eq_of_pairwise (le := fun a b => a.1 < b.1)
      (fun a b _ _ hab hba => absurd hab (Nat.lt_asymm hba)) s.dueInMap_increasing (by simpa using hij)
  rw [State.dueEyes_eq, hpair]
  rfl

end

/-- Settles O29: an edge by what it confirms and starts; the confirmations of a sample as an insertion sort of the map's
due entries. -/
theorem edgeStartsPending : Obligations.EdgeStartsPending := by
  unfold Obligations.EdgeStartsPending
  refine ⟨fun e channel edge stamp tag s i x k hadmits hdest hown hchannel hedge hi hx htrack hdegraded hraw hpending hmin => ?_,
    fun e channel edge stamp tag s v i x k p hadmits hdest hown hchannel hedge hi hx htrack hdegraded hraw hpending hmin
      hpast hv => ?_,
    fun e channel edge stamp tag s v i x k hadmits hdest hown hchannel hedge hi hx htrack hdegraded hraw hpending hmin hv => ?_,
    fun s u i x p hx hu => State.confirm_eq hx hu,
    fun s hconfig => State.confirmDue_map (fun x => Eye.settled_due x s.travel.position) hconfig, fun s => rfl,
    fun s i p => ?_, fun s => ?_, fun s base hbase => ?_, fun s i j p q hij h => dueEyes_two hij h⟩
  case refine_1 =>
    have hx' : s.received.eyeAt i = some x := hx
    have htaken := State.takeEdge_first (s := s.received) (i := i) hpending (s.transitionAt k stamp)
    rw [State.startPending, if_neg hmin, State.onEye_onEye hx'] at htaken
    have hexec := exec_edge_taken hadmits hdest hown hchannel hedge hi hx htrack hdegraded hraw (Eye.isGlitch_none hpending)
      htaken
    simp only [hmin, or_false] at hexec
    rw [hexec, State.attributed_eq (State.onEye_eyeAt hx' _), State.onEye_eq hx']
    rfl
  case refine_2 =>
    have hglitch : x.isGlitch (s.transitionAt k stamp).pos = false := by
      rw [Bool.eq_false_iff, Ne, Eye.isGlitch_iff hpending]
      exact Int.not_lt.mpr hpast
    have htaken := State.takeEdge_next (s := s.received) (i := i) hpending (s.transitionAt k stamp) hglitch
    rw [State.startPending, if_neg hmin] at htaken
    have hexec := exec_edge_taken hadmits hdest hown hchannel hedge hi hx htrack hdegraded hraw hglitch (htaken.trans hv.symm)
    simp only [hmin, or_false] at hexec
    exact hexec
  case refine_3 =>
    have htaken := State.takeEdge_first (s := s.received) (i := i) hpending (s.transitionAt k stamp)
    rw [State.startPending, if_pos hmin] at htaken
    have hexec := exec_edge_taken hadmits hdest hown hchannel hedge hi hx htrack hdegraded hraw (Eye.isGlitch_none hpending)
      (htaken.trans hv.symm)
    simp only [hmin, or_true, true_and] at hexec
    exact hexec
  case refine_4 =>
    rw [s.dueEyes_perm.mem_iff, State.mem_dueInMap]
    constructor
    · rintro ⟨x, q, hx, hq, rfl⟩
      obtain ⟨hrole, hdegraded, hpending, hreached⟩ := Eye.due_eq_some.mp hq
      exact ⟨x, q, hx, hrole, hdegraded, hpending, rfl, hreached⟩
    · rintro ⟨x, q, hx, hrole, hdegraded, hpending, rfl, hreached⟩
      exact ⟨x, q, hx, Eye.due_eq_some.mpr ⟨hrole, hdegraded, hpending, hreached⟩, rfl⟩
  case refine_5 =>
    refine (s.dueEyes_perm.map Prod.fst).nodup_iff.mpr (List.pairwise_map.mpr ?_)
    exact s.dueInMap_increasing.imp fun h => Nat.ne_of_lt h
  case refine_6 =>
    rw [State.dueEyes_eq]
    refine foldl_insertDue_ordered (base := base) _ [] (fun x hx => hbase x (s.dueEyes_perm.mem_iff.mpr (by simpa using hx)))
      (s.dueInMap_increasing.imp fun h => Nat.ne_of_lt h) (by simp) s.dueInMap_increasing List.Pairwise.nil

end Sys2Proof.Machine

/-! SUPPORT. The obligation on duplicate edges and glitches (R25, R27, R31, R32, R35). -/

namespace Sys2Proof.Machine

open Sys2Proof

/-- Two faults recorded one after the other, with other things done between them (R157, R158). -/
theorem State.recorded_trans {s u t : State} {f g : Raised} (h : State.recorded s u f) (k : State.recorded u t g)
    (htravel : u.travel = s.travel) (hline : u.line = s.line) : State.recordedTwo s t f g := by
  obtain ⟨hlist, hoverflow⟩ := h
  obtain ⟨hlist', hoverflow'⟩ := k
  have hrecord : u.faultRecord g = s.faultRecord g := by
    simp only [State.faultRecord, htravel, hline]
  rw [hrecord] at hlist' hoverflow'
  obtain ⟨hsame, hsame'⟩ := FaultMonitor.insert_congr (s.faultRecord g) hlist hoverflow
  exact ⟨hlist'.trans hsame, hoverflow'.trans hsame'⟩

/-- What a repeating fault leaves of the eyes: the map, and all but its key in the repeat-fault table (R35). -/
theorem State.logRepeating_eyes (s : State) (key : RepeatKey) (f : Raised) : (s.logRepeating key f).eyes.map = s.eyes.map ∧
    (key ∈ s.eyes.repeats → (s.logRepeating key f).eyes.repeats = s.eyes.repeats) ∧
    (key ∉ s.eyes.repeats → (s.logRepeating key f).eyes.repeats =
      if s.eyes.repeats.length < 8 then s.eyes.repeats ++ [key] else s.eyes.repeats) := by
  have hlogged (t : State) : (t.logFault f).eyes = t.eyes := (t.logFault_lotsOnly f).eyes
  by_cases hheld : key ∈ s.eyes.repeats
  · rw [State.logRepeating_held f hheld]
    exact ⟨rfl, fun _ => rfl, fun h => absurd hheld h⟩
  · rcases Nat.lt_or_ge s.eyes.repeats.length 8 with hroom | hfull
    · rw [State.logRepeating_free f hheld hroom, hlogged]
      exact ⟨rfl, fun h => absurd h hheld, fun _ => (if_pos hroom).symm⟩
    · rw [State.logRepeating_full f hheld hfull, hlogged]
      exact ⟨rfl, fun h => absurd h hheld, fun _ => (if_neg (Nat.not_lt.mpr hfull)).symm⟩

section

variable {s : State} {i : Nat} {x : Eye} {k : Edge}

/-- A duplicate edge (R25). -/
theorem State.trackEdge_duplicate {stamp : Stamp} (h : x.dyn.raw = k) :
    s.trackEdge i x k stamp = (s.duplicateEdge i x.cfg, .forwarded none) := if_pos h

/-- An edge before the confirmation point of the pending transition (R27). -/
theorem State.trackEdge_glitch {stamp : Stamp} {p : PendingTransition} (hraw : x.dyn.raw ≠ k) (hp : x.dyn.pending = some p)
    (h : x.isGlitch (s.transitionAt k stamp).pos = true) : s.trackEdge i x k stamp =
      ((s.onEye i fun d => { d with raw := k }).glitch i x.cfg (satSucc 255 x.dyn.glitches), .forwarded none) := by
  rw [State.trackEdge_eq hraw, if_pos h]
  simp only [State.takeEdge, hp, h, if_true]
  rfl

/-- An eye that the threshold degrades (R32). -/
theorem State.degrade_eq (s : State) (i : Nat) (c : EyeConfig) (count : Nat) : s.degrade i c count =
    if c.threshold ≠ 0 ∧ count = c.threshold then
      (s.onEye i fun d => { d with degraded := true }).logFault
        { code := .eyeDegraded, severity := .doubt, piece := none, site := .eye c.node c.channel, position := none }
    else s := by
  unfold State.degrade
  rw [State.recordFault_eq_logFault _ _ (.inl (by simp))]

/-- What the threshold's test leaves alone, and what it makes of the eye. -/
theorem State.degrade_blocks (hx : s.eyeAt i = some x) (count : Nat) : s.TrackOnly (s.degrade i x.cfg count) ∧
    (s.degrade i x.cfg count).pieces = s.pieces ∧ (s.degrade i x.cfg count).line = s.line ∧
    (s.degrade i x.cfg count).feed = s.feed ∧ (s.degrade i x.cfg count).eyes.repeats = s.eyes.repeats ∧
    (s.degrade i x.cfg count).eyes.map = s.eyes.map.set i { x with
      dyn := { x.dyn with degraded := x.dyn.degraded || decide (x.cfg.threshold ≠ 0 ∧ count = x.cfg.threshold) } } := by
  rw [State.degrade_eq]
  split
  next h =>
    rw [State.onEye_eq hx, decide_eq_true h, Bool.or_true]
    obtain ⟨hpieces, hfeed, -⟩ := State.logFault_blocks { s with eyes := { s.eyes with
      map := s.eyes.map.set i { x with dyn := { x.dyn with degraded := true } } } }
      { code := .eyeDegraded, severity := .doubt, piece := none, site := .eye x.cfg.node x.cfg.channel, position := none }
    have hlots := State.logFault_lotsOnly { s with eyes := { s.eyes with
      map := s.eyes.map.set i { x with dyn := { x.dyn with degraded := true } } } }
      { code := .eyeDegraded, severity := .doubt, piece := none, site := .eye x.cfg.node x.cfg.channel, position := none }
    exact ⟨⟨hlots.pins, hlots.port, hlots.travel, hlots.mgmt, hlots.freeIndex, hlots.pending⟩, hpieces, hlots.line, hfeed,
      (congrArg EyeFilter.repeats hlots.eyes :), (congrArg EyeFilter.map hlots.eyes :)⟩
  next h =>
    rw [decide_eq_false h, Bool.or_false]
    obtain ⟨hi, hxi⟩ := List.getElem?_eq_some_iff.mp (show s.eyes.map[i]? = some x from hx)
    exact ⟨⟨rfl, rfl, rfl, rfl, rfl, rfl⟩, rfl, rfl, rfl, rfl, by rw [← hxi]; exact (List.set_getElem_self hi).symm⟩

/-- The fault of a degraded eye, and no other (R32). -/
theorem State.degrade_faults (s : State) (i : Nat) (c : EyeConfig) (count : Nat) :
    (c.threshold ≠ 0 ∧ count = c.threshold → State.recorded s (s.degrade i c count)
      { code := .eyeDegraded, severity := .doubt, piece := none, site := .eye c.node c.channel, position := none }) ∧
    (c.threshold = 0 ∨ count ≠ c.threshold → (s.degrade i c count).faults = s.faults) := by
  rw [State.degrade_eq]
  refine ⟨fun h => ?_, fun h => ?_⟩
  · rw [if_pos h]
    exact State.recorded_after (u := s.onEye i fun d => { d with degraded := true }) rfl rfl rfl (State.logFault_recorded _ _)
  · rw [if_neg (by tauto)]

theorem satSucc_eq (top n : Nat) : satSucc top n = if n < top then n + 1 else top := rfl

end

/-- The command of an edge that goes on unannotated (R24, R25, R27). -/
theorem exec_edge_unannotated {e : Envelope} {channel edge : Byte} {stamp : Stamp} {tag : Half} {s v : State} {i : Nat} {x : Eye}
    {k : Edge} (hadmits : s.admits (edgeFrame e channel edge stamp tag) = true) (hdest : e.dest = 31) (hown : s.port.own ≠ 31)
    (hchannel : channel.toNat ≤ 7) (hedge : edgeOf edge = some k) (hi : s.eyeIndex e.src channel = some i)
    (hx : s.eyeAt i = some x) (htrack : x.cfg.role = .track) (hdegraded : x.dyn.degraded = false)
    (hv : s.received.trackEdge i x k stamp = (v, .forwarded none)) :
    exec (.edge e channel edge stamp tag) s = .next (v.passOn (edgeFrame e channel edge stamp tag)) := by
  rw [exec_edge hadmits hdest hown, State.classifyEdge_tracked (s := s.received) hchannel hedge hi hx htrack hdegraded, hv]
  rfl

/-- What a frame passed on behind the work on it leaves of the port and the blocks. -/
theorem State.TrackOnly.passedOn {s v : State} (h : s.received.TrackOnly v) (f : Frame) :
    (v.passOn f).port.transit = s.port.transit ++ [f.forwarded] ∧ (v.passOn f).travel = s.travel ∧
      State.sameOuter s (v.passOn f) := by
  have htransit : v.port.transit = s.port.transit := (congrArg RingPort.transit h.port :)
  exact ⟨congrArg (· ++ [f.forwarded]) htransit, h.travel, h.sameOuter⟩

/-- Settles O30: a duplicate and a glitch as the repeat-fault table lets their faults pass, and the threshold behind a glitch. -/
theorem duplicateAndGlitchCounted : Obligations.DuplicateAndGlitchCounted := by
  unfold Obligations.DuplicateAndGlitchCounted
  refine ⟨fun e channel edge stamp tag s i x k hadmits hdest hown hchannel hedge hi hx htrack hdegraded hraw => ?_,
    fun e channel edge stamp tag s i x k p count hadmits hdest hown hchannel hedge hi hx htrack hdegraded hraw hp hbefore
      hcount => ?_⟩
  · have hx' : s.received.eyeAt i = some x := hx
    let key : RepeatKey := .edgeSequence x.cfg.node x.cfg.channel
    let fault : Raised := { code := .edgeSequence, severity := .noted, piece := none,
                            site := .eye x.cfg.node x.cfg.channel, position := none }
    let u := s.received.onEye i fun d => { d with sequence := satSucc 255 d.sequence }
    have hu : u = _ := State.onEye_eq hx' _
    have hexec := exec_edge_unannotated hadmits hdest hown hchannel hedge hi hx htrack hdegraded
      (State.trackEdge_duplicate (s := s.received) (stamp := stamp) hraw)
    have htrackOnly := u.logRepeating_trackOnly key fault
    obtain ⟨hpieces, hfeed, -, hline⟩ := u.logRepeating_blocks key fault
    obtain ⟨hmap, hheld, hfree⟩ := u.logRepeating_eyes key fault
    obtain ⟨htransit, htravel, houter⟩ := State.TrackOnly.passedOn (s := s)
      (v := u.logRepeating key fault) ⟨htrackOnly.pins, htrackOnly.port, htrackOnly.travel, htrackOnly.mgmt,
        htrackOnly.freeIndex, htrackOnly.pending⟩ (edgeFrame e channel edge stamp tag)
    refine ⟨_, hexec, hmap.trans (congrArg (fun v : State => v.eyes.map) hu), htransit, hpieces, hline, hfeed, htravel,
      houter, fun hkey => ⟨?_, hheld hkey⟩, fun hkey => ⟨hfree hkey, ?_⟩⟩
    · exact (congrArg State.faults (State.logRepeating_held (s := u) fault hkey) :)
    · exact State.recorded_after (u := u) rfl rfl rfl (State.logRepeating_recorded fault hkey)
  · have hx' : s.received.eyeAt i = some x := hx
    let key : RepeatKey := .glitch x.cfg.node x.cfg.channel
    let fault : Raised := { code := .glitch, severity := .noted, piece := none,
                            site := .eye x.cfg.node x.cfg.channel, position := none }
    let counted : EyeDynamic := { x.dyn with raw := k, pending := none, glitches := count }
    let u := s.received.onEye i fun d => { d with raw := k, pending := none, glitches := count }
    let w := u.logRepeating key fault
    have hu : u = _ := State.onEye_eq hx' _
    have hglitch : x.isGlitch (s.received.transitionAt k stamp).pos = true := (Eye.isGlitch_iff hp).mpr hbefore
    have htaken := State.trackEdge_glitch (i := i) hraw hp hglitch
    have hcount' : satSucc 255 x.dyn.glitches = count := hcount.symm
    rw [State.glitch, hcount', State.onEye_onEye hx'] at htaken
    have hexec := exec_edge_unannotated hadmits hdest hown hchannel hedge hi hx htrack hdegraded htaken
    have hfirst := u.logRepeating_trackOnly key fault
    obtain ⟨hpieces, hfeed, -, hline⟩ := u.logRepeating_blocks key fault
    obtain ⟨hmap, hheld, hfree⟩ := u.logRepeating_eyes key fault
    have hw : w.eyeAt i = some { x with dyn := counted } := by
      rw [State.eyeAt, hmap]
      exact State.onEye_eyeAt hx' _
    obtain ⟨hsecond, hpieces', hline', hfeed', hrepeats', hmap'⟩ := State.degrade_blocks hw count
    obtain ⟨hrecorded, hquiet⟩ := w.degrade_faults i x.cfg count
    have hboth := hfirst.trans hsecond
    obtain ⟨htransit, htravel, houter⟩ := State.TrackOnly.passedOn (s := s) (v := w.degrade i x.cfg count)
      ⟨hboth.pins, hboth.port, hboth.travel, hboth.mgmt, hboth.freeIndex, hboth.pending⟩ (edgeFrame e channel edge stamp tag)
    refine ⟨_, hexec, ?_, htransit, hpieces'.trans hpieces, hline'.trans hline, hfeed'.trans hfeed, htravel, houter,
      fun glitch degraded hg hd => ?_⟩
    · refine hmap'.trans ?_
      rw [hmap, hu]
      simp only [List.set_set, counted, hdegraded, Bool.false_or]
      rfl
    · subst hg hd
      refine ⟨fun hkey => ⟨hrepeats'.trans (hheld hkey), fun h => ?_, fun h => ?_⟩,
        fun hkey => ⟨hrepeats'.trans (hfree hkey), fun h => ?_, fun h => ?_⟩⟩
      · have hsame : w = u := State.logRepeating_held fault hkey
        exact State.recorded_after (u := w) (by rw [hsame]; rfl) (by rw [hsame]; rfl) (by rw [hsame]; rfl) (hrecorded h)
      · exact (hquiet h).trans (congrArg State.faults (State.logRepeating_held (s := u) fault hkey) :)
      · exact State.recorded_trans (u := w) (State.recorded_after (u := u) rfl rfl rfl (State.logRepeating_recorded fault hkey))
          (hrecorded h) hfirst.travel hline
      · exact State.recorded_faults (hquiet h) (State.recorded_after (u := u) rfl rfl rfl (State.logRepeating_recorded fault hkey))

end Sys2Proof.Machine

/-! SUPPORT. The obligations on the TRAVEL frame (R6, R8 to R13, R15, R28). -/

namespace Sys2Proof.Machine

open Sys2Proof

/-! ### The frame -/

/-- A TRAVEL addressed to the part goes to the Travel Unit and on with the mark taken (R170). -/
theorem exec_travel {e : Envelope} {delta : Half} {stamp : Stamp} {run : Byte} {s t : State}
    (hown : s.admitsOwn (travelFrame e delta stamp run) = true)
    (ht : s.received.takeTravel e.src delta stamp run = t) :
    exec (.travel e delta stamp run) s = .next (t.passOn ((travelFrame e delta stamp run).withMark markTaken)) := by
  refine State.live_receives (s.admits_held _ (s.admitsOwn_admits _ hown)) ?_
  rw [s.receive_admitsOwn _ hown rfl, ← ht]
  have hdelta : halfAt (travelFrame e delta stamp run).body 0 = delta := halfAt_bytes16 delta (bytes24 stamp ++ [run])
  have hstamp : stampAt (travelFrame e delta stamp run).body 2 = stamp :=
    (byteAt_stamp (delta.extractLsb' 8 8) (delta.extractLsb' 0 8) stamp 0 :)
  show (s.received.takeTravel e.src (halfAt (travelFrame e delta stamp run).body 0)
    (stampAt (travelFrame e delta stamp run).body 2) run).forward _ = _
  rw [hdelta, hstamp]
  rfl

theorem toInt_of_lt {delta : Half} (h : delta.toNat < 32768) : delta.toInt = delta.toNat :=
  BitVec.toInt_eq_toNat_of_lt (by omega)

theorem toInt_neg {delta : Half} (h : 32768 ≤ delta.toNat) : delta.toInt < 0 := by
  rw [BitVec.toInt_neg_iff]
  omega

/-! ### The history (R12, R13) -/

/-- A frame's stamp makes a new sample (R12). -/
def TravelUnit.Takes (u : TravelUnit) (t : Stamp) : Prop :=
  |(u.ringTime - t).toInt| < 4194304 ∧
    (u.history = [] ∨ ∃ n, u.history.getLast? = some n ∧ 0 < (t - n.stamp).toInt)

theorem TravelUnit.takesStamp_iff {u : TravelUnit} {t : Stamp} : u.takesStamp t = true ↔ u.Takes t := by
  rw [TravelUnit.takesStamp, Bool.and_eq_true, TravelUnit.ageOk, decide_eq_true_iff, TravelUnit.Takes]
  refine and_congr_right fun _ => ?_
  cases h : u.history.getLast? with
  | none => simp [List.getLast?_eq_none_iff.mp h]
  | some n =>
    have hne : u.history ≠ [] := fun hnil => by simp [hnil] at h
    simp [hne, timeDiff]

/-- The same by the newest sample, if there is one. -/
theorem TravelUnit.takes_iff {u : TravelUnit} {t : Stamp} : u.Takes t ↔ |(u.ringTime - t).toInt| < 4194304 ∧
    u.history.getLast?.all (fun n => decide (0 < (t - n.stamp).toInt)) = true := by
  refine and_congr_right fun _ => ?_
  cases h : u.history.getLast? with
  | none => simp [List.getLast?_eq_none_iff.mp h]
  | some n =>
    have hne : u.history ≠ [] := fun hnil => by simp [hnil] at h
    simp [hne]

theorem TravelUnit.enterHistory_taken {u : TravelUnit} {t : Stamp} (h : u.Takes t) : (u.enterHistory t).history =
    (if u.history.length < 16 then u.history else u.history.drop 1) ++ [{ stamp := t, pos := u.position }] := by
  rw [TravelUnit.enterHistory, if_pos (TravelUnit.takesStamp_iff.mpr h)]
  rfl

theorem TravelUnit.enterHistory_replaced {u : TravelUnit} {t : Stamp} (h : ¬ u.Takes t) : (u.enterHistory t).history =
    match u.history.getLast? with
    | none => []
    | some n => u.history.dropLast ++ [{ n with pos := u.position }] := by
  rw [TravelUnit.enterHistory, if_neg (mt TravelUnit.takesStamp_iff.mp h), replaceNewest]
  cases hlast : u.history.getLast? with
  | none => exact List.getLast?_eq_none_iff.mp hlast
  | some n => rfl

/-- The history is all that a frame's entry changes of the Travel Unit. -/
theorem TravelUnit.enterHistory_eq (u : TravelUnit) (t : Stamp) :
    u.enterHistory t = { u with history := (u.enterHistory t).history } := by
  unfold TravelUnit.enterHistory
  split <;> rfl

/-! ### The sample (R6, R28) -/

/-- The four blocks act on a sample one after another (R6, R28, R68, R99, R143). -/
theorem State.actOnSample_eq (s : State) {v : State}
    (hv : v = if s.confirmDue.line.state = .config then s.confirmDue else s.confirmDue.testRecords s.pieces.records) :
    s.actOnSample = v.evaluate.testDeadlines s.pieces.records := by
  rw [State.actOnSample, State.matcherSample, hv]

theorem State.testDeadlines_lineOnly (s : State) (before : List Piece) : s.LineOnly (s.testDeadlines before) := by
  have hpiece (u : State) (n : Half) (f : Piece → Piece) : u.LineOnly (u.onPiece n f) :=
    ⟨rfl, rfl, rfl, rfl, rfl, rfl, rfl, rfl, rfl⟩
  have hone (u : State) (r : Piece) : u.LineOnly (u.testDeadline r) := by
    unfold State.testDeadline
    split
    · split
      · exact ((u.recordFault_lineOnly _).trans (hpiece _ _ _)).trans (State.removePiece_lineOnly _ _ _)
      · exact .rfl' u
    · exact .rfl' u
  exact foldl_keeps State.LineOnly.rfl' State.LineOnly.trans
    (fun _ _ => foldl_keeps State.LineOnly.rfl' State.LineOnly.trans hone _ _) _ s

/-- In CONFIG the confirmations that are due are all that a sample does to the eyes (R28, R29). -/
theorem State.actOnSample_eyes {s : State} {g : Eye → Eye} (hg : ∀ x : Eye, g x =
      if (x.due s.travel.position).isSome then x.settled else x) (h : s.line.state = .config) :
    s.actOnSample.eyes = { s.eyes with map := s.eyes.map.map g } := by
  have hconfirmed := State.confirmDue_map hg h
  have hconfig : s.confirmDue.line.state = .config := hconfirmed ▸ h
  rw [State.actOnSample, (State.testDeadlines_lineOnly _ _).eyes, (State.evaluate_feedOnly _).eyes, State.matcherSample,
    if_pos hconfig, hconfirmed]

/-- With no record before it a sample tests no deadline (R143; log 13). -/
theorem State.testDeadlines_nil (s : State) : s.testDeadlines [] = s := by
  simp [State.testDeadlines, allLanes]

/-- In CONFIG and with an empty table a sample records no fault. -/
theorem State.actOnSample_faults {s : State} (h : s.line.state = .config) (hrecords : s.pieces.records = []) :
    s.actOnSample.faults = s.faults := by
  have hconfirmed := State.confirmDue_config h
  have hconfig : s.confirmDue.line.state = .config := hconfirmed ▸ h
  rw [State.actOnSample, hrecords, State.testDeadlines_nil, (State.evaluate_feedOnly _).faults, State.matcherSample,
    if_pos hconfig, hconfirmed]

/-! ### Doubt through a sample (R9) -/

/-- The line is not in RUN and every record has doubt. -/
def State.DoubtsStopped (s : State) : Prop := s.line.state ≠ .run ∧ s.pieces.Doubted

theorem PieceTable.doubted_doubtAll (t : PieceTable) :
    ({ t with records := t.records.map fun r => { r with doubt := true } } : PieceTable).Doubted := by
  intro q hq
  obtain ⟨r, -, rfl⟩ := List.mem_map.mp hq
  rfl

theorem State.Move.doubtsStopped {a b : State} (h : a.Move b) (hs : a.DoubtsStopped) : b.DoubtsStopped := by
  obtain ⟨hstate, hdoubts⟩ := hs
  cases h with
  | lots h =>
    refine ⟨fun hrun => hstate (h.line_eq ▸ hrun), ?_⟩
    cases h with
    | grant l r hrun hrequest hqualifies hroom => exact absurd (State.qualifies_run hqualifies) hstate
    | testHold => exact (State.testHold_blocks a).1 ▸ hdoubts
    | block b => 
      rw [(State.refreshFeed_blocks { a with batch := b }).1]
      exact hdoubts
    | _ => exact hdoubts
  | pieces t hbounded hnumbered hdoubted => exact ⟨hstate, hdoubted hstate hdoubts⟩
  | refresh q =>
    refine ⟨fun hrun => hstate ((State.refreshFeed_feedOnly { a with feed := q }).line ▸ hrun), ?_⟩
    rw [(State.refreshFeed_blocks { a with feed := q }).1]
    exact hdoubts
  | toConfig =>
    refine ⟨?_, (a.enterLine_blocks _ _).2.1 ▸ hdoubts⟩
    rw [(a.enterLine_line _ _).1]
    simp
  | toSuspect c =>
    refine ⟨?_, PieceTable.doubted_doubtAll _⟩
    rw [show (a.enterLine .suspect (some c)).doubtAll.line = (a.enterLine .suspect (some c)).line from rfl,
      (a.enterLine_line _ _).1]
    simp
  | _ => exact ⟨hstate, hdoubts⟩

/-- Outside RUN a sample leaves doubt on every record where every record had it. -/
theorem State.actOnSample_doubts {s : State} (h : s.DoubtsStopped) : s.actOnSample.DoubtsStopped :=
  s.actOnSample_reaches.keeps (fun hmove => hmove.doubtsStopped)
    (fun _ _ => State.cancelGrants_keeps (fun hmove => hmove.doubtsStopped) (fun _ _ h => h) (fun _ _ h => h)) h

/-- What a TRAVEL frame passed on behind its sample leaves of the port, the Travel Unit and the blocks. -/
theorem State.passedOn_travelled {s v : State} {q : TravelUnit}
    (h : State.TrackOnly { s.received with travel := q } v) (f : Frame) :
    (v.passOn f).port.transit = s.port.transit ++ [f.forwarded] ∧ (v.passOn f).travel = q ∧
      State.sameOuter s (v.passOn f) := by
  have htransit : v.port.transit = s.port.transit := (congrArg RingPort.transit h.port :)
  have hown : v.port.own = s.port.own := (congrArg RingPort.own h.port :)
  exact ⟨congrArg (· ++ [f.forwarded]) htransit, h.travel, h.pins, h.mgmt, h.freeIndex, h.pending, hown⟩

/-! ### A step that is not clamped (R8) -/

/-- The Travel Unit after a full step, the history and the sample announced. -/
def TravelUnit.stepped (q : TravelUnit) (run : Byte) (sum : Nat) (stamp : Stamp) : TravelUnit :=
  { ((q.heard run).fullStep sum).enterHistory stamp with
    sample := some { before := q.position, after := q.position + BitVec.ofNat 32 (sum / 1024), clamped := false } }

theorem TravelUnit.stepped_eq (q : TravelUnit) (run : Byte) (sum : Nat) (stamp : Stamp) : q.stepped run sum stamp =
    { q with
      position := q.position + BitVec.ofNat 32 (sum / 1024)
      remainder := sum % 1024
      running := run != 0
      loss := .running 0 false
      history := (q.stepped run sum stamp).history
      sample := some { before := q.position, after := q.position + BitVec.ofNat 32 (sum / 1024), clamped := false } } := by
  unfold TravelUnit.stepped
  rw [TravelUnit.enterHistory_eq]
  rfl

theorem State.takeTravel_stepped {s : State} {src : Byte} {delta : Half} {stamp : Stamp} {run : Byte}
    (hdelta : delta.toNat < 32768)
    (hstep : (delta.toNat * s.mgmt.line.scale + s.travel.remainder) / 1024 ≤ s.mgmt.line.maxStep) :
    s.takeTravel src delta stamp run = State.actOnSample
      { s with travel := s.travel.stepped run (delta.toNat * s.mgmt.line.scale + s.travel.remainder) stamp } := by
  have hnat : delta.toInt.toNat = delta.toNat := by rw [toInt_of_lt hdelta]; simp
  have hfull : (s.onTravel fun q => q.heard run).exceedsMax delta.toNat = false :=
    decide_eq_false (Nat.not_lt.mpr hstep)
  rw [State.takeTravel, if_neg (by rw [toInt_of_lt hdelta]; omega), hnat, State.forwardTravel, State.stepTravel,
    if_neg (by simp [hfull]), State.appliedSample, State.sampleOf, hfull]
  refine congrArg State.actOnSample ?_
  have hposition (u : TravelUnit) : (u.enterHistory stamp).position = u.position := by rw [u.enterHistory_eq stamp]
  simp only [State.onTravel, TravelUnit.stepped, TravelUnit.travelSum, TravelUnit.fullStep, TravelUnit.heard, hposition]

/-- What a full step leaves of the Travel Unit, with the history told by whether the stamp makes a new sample (R8,
R11 to R13, R15). -/
theorem TravelUnit.stepped_fields (q : TravelUnit) (run : Byte) (sum : Nat) (stamp : Stamp) {p : TravelUnit}
    (hp : p = q.stepped run sum stamp) :
    p.position = q.position + BitVec.ofNat 32 (sum / 1024) ∧ p.remainder = sum % 1024 ∧ p.running = (run != 0) ∧
      p.loss = .running 0 false ∧ p.ringTime = q.ringTime ∧ p.syncCount = q.syncCount ∧
      p.sample = some { before := q.position, after := p.position, clamped := false } ∧
      (q.Takes stamp → p.history = (if q.history.length < 16 then q.history else q.history.drop 1) ++
        [{ stamp := stamp, pos := p.position }]) ∧
      (¬ q.Takes stamp → p.history = match q.history.getLast? with
        | none => []
        | some n => q.history.dropLast ++ [{ n with pos := p.position }]) ∧
      p = { q with
        position := p.position
        remainder := p.remainder
        running := run != 0
        loss := .running 0 false
        history := p.history
        sample := p.sample } := by
  have hq := TravelUnit.stepped_eq q run sum stamp
  rw [← hp] at hq
  have hhistory : p.history = (((q.heard run).fullStep sum).enterHistory stamp).history := hp ▸ rfl
  have hposition : p.position = ((q.heard run).fullStep sum).position := by rw [hq]; rfl
  refine ⟨hposition, by rw [hq], by rw [hq], by rw [hq], by rw [hq], by rw [hq], by rw [hq], fun h => ?_, fun h => ?_, ?_⟩
  · rw [hhistory, hposition]
    exact TravelUnit.enterHistory_taken (u := (q.heard run).fullStep sum) h
  · rw [hhistory, hposition]
    exact TravelUnit.enterHistory_replaced (u := (q.heard run).fullStep sum) h
  · conv_lhs => rw [hq]
    rw [hq]

/-- Settles O25: the fields of the Travel Unit behind the step, and the sample's work on the state that holds them. -/
theorem travelAccumulates : Obligations.TravelAccumulates := by
  intro e delta stamp run s hown hdelta hstep
  have htaken := State.takeTravel_stepped (s := s.received) (src := e.src) (stamp := stamp) (run := run) hdelta hstep
  have hexec := exec_travel hown htaken
  clear htaken
  obtain ⟨p, hp⟩ : ∃ p, p = s.travel.stepped run (delta.toNat * s.mgmt.line.scale + s.travel.remainder) stamp := ⟨_, rfl⟩
  obtain ⟨hposition, hremainder, hrunning, hloss, hring, hsync, hsample, hnew, hold, hwhole⟩ :=
    TravelUnit.stepped_fields s.travel run _ stamp hp
  obtain ⟨u, hu⟩ : ∃ u : State, u = { s.received with travel := p } := ⟨_, rfl⟩
  rw [show s.received.travel.stepped run (delta.toNat * s.received.mgmt.line.scale + s.received.travel.remainder)
    stamp = p from hp.symm, ← hu] at hexec
  have honly : State.TrackOnly { s.received with travel := p } u.actOnSample := hu ▸ State.actOnSample_trackOnly u
  obtain ⟨htransit, htravel, houter⟩ := State.passedOn_travelled honly ((travelFrame e delta stamp run).withMark markTaken)
  have hblocks := u.actOnSample_eq rfl
  have heyes (g : Eye → Eye) (hg : ∀ x : Eye, g x = if (x.due p.position).isSome then x.settled else x)
      (hconfig : s.line.state = .config) : u.actOnSample.eyes = { s.eyes with map := s.eyes.map.map g } := by
    subst hu
    exact State.actOnSample_eyes hg hconfig
  have hrecords : u.pieces.records = s.pieces.records := hu ▸ rfl
  rw [hrecords] at hblocks
  obtain ⟨w, hw⟩ : ∃ w, w = u.actOnSample := ⟨_, rfl⟩
  rw [← hw] at hexec htransit htravel houter hblocks heyes
  refine ⟨_, hexec, ?_⟩
  rw [htravel]
  exact ⟨hposition, hremainder, hrunning, hloss, hring, hsync, hsample, fun hage hnewest => hnew ⟨hage, hnewest⟩, hold,
    ⟨u, _, hu.trans (congrArg (fun q : TravelUnit => { s.received with travel := q }) hwhole), rfl,
      congrArg (State.passOn · _) hblocks⟩,
    fun hconfig => by
      have h := heyes _ (fun x => Eye.settled_due x p.position) hconfig
      exact ⟨(congrArg EyeFilter.repeats h :), (congrArg EyeFilter.map h :)⟩, htransit, houter⟩

end Sys2Proof.Machine

/-! SUPPORT. The obligation on a clamped and on a reversed TRAVEL (R6, R9, R10, R12, R13). -/

namespace Sys2Proof.Machine

open Sys2Proof

/-! ### A clamped step (R9) -/

/-- The recording of a fault reads ring time and position of the Travel Unit, and nothing else of it. -/
theorem State.logFault_withTravel (s : State) (f : Raised) {q : TravelUnit} (hring : q.ringTime = s.travel.ringTime)
    (hposition : q.position = s.travel.position) :
    State.logFault { s with travel := q } f = { s.logFault f with travel := q } := by
  have hrecord : State.faultRecord { s with travel := q } f = s.faultRecord f := by
    simp only [State.faultRecord, hring, hposition]
  have hqueue (u : State) : State.queueAlert { u with travel := q } = { u.queueAlert with travel := q } := by
    have hplaces : State.freePlaces { u with travel := q } = u.freePlaces := rfl
    cases hacc : u.faults.acc with
    | none => simp only [State.queueAlert, hacc]
    | some m => by_cases hfull : u.freePlaces = 0 <;> simp only [State.queueAlert, hacc, hplaces, hfull, if_true, if_false] <;> rfl
  have hoffer (u : State) (r : FaultRecord) :
      State.offerAlert { u with travel := q } r = { u.offerAlert r with travel := q } := by
    by_cases hlow : r.severity.number < u.mgmt.flow.alertMin.number
    · simp only [State.offerAlert, hlow, if_true]
    · cases hholdoff : u.faults.holdoff with
      | idle =>
        simp only [State.offerAlert, hlow, hholdoff, if_false]
        exact (hqueue (u.onFaults fun q => { q with acc := some (Merged.single r) }) :)
      | running n => simp only [State.offerAlert, hlow, hholdoff, if_false] <;> rfl
      | owed => simp only [State.offerAlert, hlow, hholdoff, if_false] <;> rfl
  rw [State.logFault, hrecord]
  exact (hoffer (s.onFaults fun q => q.insert (s.faultRecord f)) (s.faultRecord f) :)

/-- The Travel Unit after a clamped step, the history and the sample announced. -/
def TravelUnit.clamped (q : TravelUnit) (run : Byte) (maxStep : Nat) (stamp : Stamp) : TravelUnit :=
  { ((q.heard run).clampedStep maxStep).enterHistory stamp with
    sample := some { before := q.position, after := q.position + BitVec.ofNat 32 maxStep, clamped := true } }

/-- What a clamped step leaves of the Travel Unit, with the history told by whether the stamp makes a new sample (R9,
R11 to R13, R15). -/
theorem TravelUnit.clamped_fields (q : TravelUnit) (run : Byte) (maxStep : Nat) (stamp : Stamp) {p : TravelUnit}
    (hp : p = q.clamped run maxStep stamp) :
    p.position = q.position + BitVec.ofNat 32 maxStep ∧ p.remainder = 0 ∧ p.running = (run != 0) ∧
      p.loss = .running 0 false ∧ p.ringTime = q.ringTime ∧
      p.sample = some { before := q.position, after := p.position, clamped := true } ∧
      p.history = (if |(q.ringTime - stamp).toInt| < 4194304 ∧
            q.history.getLast?.all (fun n => decide (0 < (stamp - n.stamp).toInt)) = true then
          (if q.history.length < 16 then q.history else q.history.drop 1) ++ [{ stamp := stamp, pos := p.position }]
        else match q.history.getLast? with
          | none => []
          | some n => q.history.dropLast ++ [{ n with pos := p.position }]) ∧
      p = { q with
        position := p.position
        remainder := 0
        running := run != 0
        loss := .running 0 false
        history := p.history
        sample := p.sample } := by
  have hq : p = { (q.heard run).clampedStep maxStep with
      history := (((q.heard run).clampedStep maxStep).enterHistory stamp).history
      sample := some { before := q.position, after := q.position + BitVec.ofNat 32 maxStep, clamped := true } } := by
    rw [hp, TravelUnit.clamped]
    conv_lhs => rw [TravelUnit.enterHistory_eq]
  have hhistory : p.history = (((q.heard run).clampedStep maxStep).enterHistory stamp).history := by rw [hp]; rfl
  have hposition : p.position = ((q.heard run).clampedStep maxStep).position := by rw [hq]
  refine ⟨hposition, by rw [hq]; rfl, by rw [hq]; rfl, by rw [hq]; rfl, by rw [hq]; rfl, by rw [hq]; rfl, ?_, ?_⟩
  · rw [hhistory, hposition]
    split
    next h =>
      exact TravelUnit.enterHistory_taken (u := (q.heard run).clampedStep maxStep) (TravelUnit.takes_iff.mpr h)
    next h =>
      exact TravelUnit.enterHistory_replaced (u := (q.heard run).clampedStep maxStep) (mt TravelUnit.takes_iff.mp h)
  · conv_lhs => rw [hq]
    rw [hq]
    rfl

theorem State.takeTravel_clamped {s : State} {src : Byte} {delta : Half} {stamp : Stamp} {run : Byte} {p : TravelUnit}
    (hp : p = s.travel.clamped run s.mgmt.line.maxStep stamp) (hdelta : delta.toNat < 32768)
    (hstep : s.mgmt.line.maxStep < (delta.toNat * s.mgmt.line.scale + s.travel.remainder) / 1024) :
    s.takeTravel src delta stamp run = State.actOnSample (State.doubtAll (State.logFault { s with travel := p }
      { code := .travelClamp, severity := .doubt, piece := none, site := .node src, position := none })) := by
  let fault : Raised := { code := .travelClamp, severity := .doubt, piece := none, site := .node src, position := none }
  let v : State := { s with travel := (s.travel.heard run).clampedStep s.mgmt.line.maxStep }
  have hnat : delta.toInt.toNat = delta.toNat := by rw [toInt_of_lt hdelta]; simp
  have hexceeds : (s.onTravel fun q => q.heard run).exceedsMax delta.toNat = true := decide_eq_true hstep
  have hfields := TravelUnit.clamped_fields _ _ _ _ hp
  obtain ⟨hposition, -, -, -, hring, -, -, -⟩ := hfields
  have hlog : State.logFault { v with travel := p } fault = { v.logFault fault with travel := p } :=
    State.logFault_withTravel v fault hring hposition
  have htravel : (v.logFault fault).travel = v.travel := (v.logFault_lotsOnly fault).travel
  have hplain : v.recordFault fault = v.logFault fault := State.recordFault_eq_logFault _ _ (.inl (by simp [fault]))
  have hkept (u : TravelUnit) : (u.enterHistory stamp).position = u.position := by rw [u.enterHistory_eq stamp]
  rw [State.takeTravel, if_neg (by rw [toInt_of_lt hdelta]; omega), hnat, State.forwardTravel, State.stepTravel,
    if_pos hexceeds, State.appliedSample, State.sampleOf, hexceeds]
  refine congrArg State.actOnSample ?_
  have hsame : State.logFault { s with travel := p } fault = { v.logFault fault with travel := p } := hlog
  rw [show (s.onTravel fun q => q.heard run).clampTravel src = (v.recordFault fault).doubtAll from rfl, hplain, hsame, hp]
  simp only [State.onTravel, State.doubtAll, State.onPieces, TravelUnit.clamped, htravel, v, hkept]
  rfl

/-! ### A negative delta (R10) -/

theorem State.takeTravel_reversed {s : State} {src : Byte} {delta : Half} {stamp : Stamp} {run : Byte}
    (hdelta : 32768 ≤ delta.toNat) :
    s.takeTravel src delta stamp run = State.recordFault { s with travel := s.travel.heard run }
      { code := .travelReverse, severity := s.travelSeverity, piece := none, site := .node src, position := none } :=
  if_pos (toInt_neg hdelta)

/-- What a reversed TRAVEL frame, passed on behind its fault, leaves of the blocks (R10). -/
theorem State.reversed_kept {s v : State} {run : Byte} (h : State.LineOnly { s.received with travel := s.travel.heard run } v)
    (f : Frame) : (v.passOn f).travel = { s.travel with loss := .running 0 false, running := run != 0 } ∧
      State.sameOuter s (v.passOn f) :=
  (State.passedOn_travelled h.track f).2

/-- Settles O26: the clamped step and its sample, and the reversed delta by the table and the line state. -/
theorem travelClampedOrReversed : Obligations.TravelClampedOrReversed := by
  unfold Obligations.TravelClampedOrReversed
  refine ⟨fun e delta stamp run s hown hdelta hstep => ?clamped, fun e delta stamp run s hown hdelta hempty => ?empty,
    fun e delta stamp run s hown hdelta hrecords hstate => ?enters,
    fun e delta stamp run s hown hdelta hrecords hstate => ?stays⟩
  case clamped =>
    let fault : Raised := { code := .travelClamp, severity := .doubt, piece := none, site := .node e.src, position := none }
    obtain ⟨p, hp⟩ : ∃ p, p = s.travel.clamped run s.mgmt.line.maxStep stamp := ⟨_, rfl⟩
    obtain ⟨hposition, hremainder, hrunning, hloss, hring, hsample, hhistory, hwhole⟩ :=
      TravelUnit.clamped_fields s.travel run _ stamp hp
    have htaken := State.takeTravel_clamped (s := s.received) (src := e.src) hp hdelta hstep
    have hexec := exec_travel hown htaken
    clear htaken
    obtain ⟨a, ha⟩ : ∃ a : State, a = { s.received with travel := p } := ⟨_, rfl⟩
    obtain ⟨w, hw⟩ : ∃ w : State, w = a.logFault fault := ⟨_, rfl⟩
    obtain ⟨u, hu⟩ : ∃ u : State, u = w.doubtAll := ⟨_, rfl⟩
    rw [← ha, show a.logFault _ = w from hw.symm, ← hu] at hexec
    have hlots : a.LotsOnly w := hw ▸ a.logFault_lotsOnly fault
    have hline : u.line = s.line := by rw [hu]; exact hlots.line.trans (by rw [ha]; rfl)
    have htracked : a.TrackOnly u := by
      rw [hu]
      exact ⟨hlots.pins, hlots.port, hlots.travel, hlots.mgmt, hlots.freeIndex, hlots.pending⟩
    have honly : State.TrackOnly { s.received with travel := p } u.actOnSample :=
      ha ▸ htracked.trans u.actOnSample_trackOnly
    obtain ⟨-, htravel, houter⟩ := State.passedOn_travelled honly ((travelFrame e delta stamp run).withMark markTaken)
    have hblocks := u.actOnSample_eq rfl
    have hdoubts (hrun : s.line.state ≠ .run) : u.actOnSample.DoubtsStopped :=
      State.actOnSample_doubts ⟨hline ▸ hrun, hu ▸ PieceTable.doubted_doubtAll _⟩
    have hrecorded (hconfig : s.line.state = .config) (hempty : s.pieces.records = []) :
        State.recorded { s with travel := p } u.actOnSample fault := by
      have hrecords : u.pieces.records = [] := by
        rw [hu, State.doubtAll, State.onPieces, hw, (a.logFault_blocks fault).1, ha]
        exact List.map_eq_nil_iff.mpr hempty
      refine State.recorded_faults (State.actOnSample_faults (hline ▸ hconfig) hrecords) ?_
      rw [hu]
      refine State.recorded_faults (u := w) rfl ?_
      rw [hw]
      exact State.recorded_after (by rw [ha]; rfl) (by rw [ha]) (by rw [ha]; rfl) (a.logFault_recorded fault)
    obtain ⟨t, ht⟩ : ∃ t, t = u.actOnSample := ⟨_, rfl⟩
    rw [← ht] at hexec htravel houter hblocks hdoubts hrecorded
    refine ⟨_, hexec, ?_⟩
    rw [htravel]
    refine ⟨hposition, hremainder, hrunning, hloss, hsample, hhistory, fun hrun => (hdoubts hrun).2, houter, hrecorded,
      w, u, _, ?_, hu, rfl, congrArg (State.passOn · _) hblocks⟩
    rw [hw, ha]
    exact congrArg (fun q : TravelUnit => State.logFault { s.received with travel := q } fault) hwhole
  case empty =>
    let u : State := { s.received with travel := s.travel.heard run }
    let fault : Raised := { code := .travelReverse, severity := .noted, piece := none, site := .node e.src, position := none }
    have hseverity : s.received.travelSeverity = .noted := by simp [State.travelSeverity, State.received, hempty]
    have hexec := exec_travel hown (State.takeTravel_reversed (src := e.src) (stamp := stamp) (run := run) hdelta)
    rw [hseverity] at hexec
    have hlog := u.recordFault_eq_logFault fault (.inl (by simp [fault]))
    obtain ⟨htravel, houter⟩ := State.reversed_kept (u.recordFault_lineOnly fault) ((travelFrame e delta stamp run).withMark markTaken)
    refine ⟨_, hexec, htravel, ?_, ?_, ?_, houter, (u.recordFault_recorded fault :)⟩
    · exact (congrArg State.line hlog).trans (u.logFault_lotsOnly fault).line
    · exact (congrArg State.pieces hlog).trans (u.logFault_blocks fault).1
    · exact (congrArg State.feed hlog).trans (u.logFault_blocks fault).2.1
  case enters =>
    let u : State := { s.received with travel := s.travel.heard run }
    let fault : Raised := { code := .travelReverse, severity := .line, piece := none, site := .node e.src, position := none }
    have hseverity : s.received.travelSeverity = .line := by simp [State.travelSeverity, State.received, hrecords]
    have hexec := exec_travel hown (State.takeTravel_reversed (src := e.src) (stamp := stamp) (run := run) hdelta)
    rw [hseverity] at hexec
    have henters := State.recordFault_enters (s := u) (f := fault) rfl hstate
    obtain ⟨htravel, houter⟩ := State.reversed_kept (u.recordFault_lineOnly fault) ((travelFrame e delta stamp run).withMark markTaken)
    exact ⟨_, hexec, htravel, congrArg LineControl.state henters.line, congrArg LineControl.cause henters.line,
      congrArg LineControl.tfault henters.line, henters.doubts, houter, (u.recordFault_recorded fault :)⟩
  case stays =>
    let u : State := { s.received with travel := s.travel.heard run }
    let fault : Raised := { code := .travelReverse, severity := .line, piece := none, site := .node e.src, position := none }
    have hseverity : s.received.travelSeverity = .line := by simp [State.travelSeverity, State.received, hrecords]
    have hexec := exec_travel hown (State.takeTravel_reversed (src := e.src) (stamp := stamp) (run := run) hdelta)
    rw [hseverity] at hexec
    have hlog := u.recordFault_eq_logFault fault (.inr hstate)
    obtain ⟨htravel, houter⟩ := State.reversed_kept (u.recordFault_lineOnly fault) ((travelFrame e delta stamp run).withMark markTaken)
    refine ⟨_, hexec, htravel, ?_, ?_, ?_, houter, (u.recordFault_recorded fault :)⟩
    · exact (congrArg State.line hlog).trans (u.logFault_lotsOnly fault).line
    · exact (congrArg State.pieces hlog).trans (u.logFault_blocks fault).1
    · exact (congrArg State.feed hlog).trans (u.logFault_blocks fault).2.1

end Sys2Proof.Machine

/-! SUPPORT. The obligation on a READY that is not accepted (R96, R97). -/

namespace Sys2Proof.Machine

open Sys2Proof

/-! ### READY, by its fields and the lane's run state (R96, R97) -/

section

variable {s : State} {lane span article : Byte} {batch : Half} {l : Lane}

theorem State.takeReady_setAside (h : lane.toNat = 0 ∨ 4 < lane.toNat ∨ article.toNat = 0 ∨ article.toNat = 255 ∨
    batch = 0 ∨ s.line.state = .config ∨ ∃ l, Lane.ofNumber lane.toNat = some l ∧ (s.lane l).run = .offline) :
    s.takeReady lane span article batch = s := by
  cases hl : Lane.ofNumber lane.toNat with
  | none => simp only [State.takeReady, hl]
  | some l =>
    have hlane : ¬ (lane.toNat = 0 ∨ 4 < lane.toNat) := fun hbad => by
      rw [Lane.ofNumber_eq_none.mpr hbad] at hl
      exact absurd hl (by simp)
    by_cases hfields : article = 0 ∨ article = 255 ∨ batch = 0
    · simp only [State.takeReady, hl, hfields, if_true]
    · by_cases hconfig : s.line.state = .config
      · simp only [State.takeReady, hl, hfields, hconfig, if_true, if_false]
      · obtain h | h | h | h | h | h | ⟨k, hk, hoffline⟩ := h
        · exact absurd (.inl h) hlane
        · exact absurd (.inr h) hlane
        · exact absurd (.inl (BitVec.eq_of_toNat_eq h)) hfields
        · exact absurd (.inr (.inl (BitVec.eq_of_toNat_eq h))) hfields
        · exact absurd (.inr (.inr h)) hfields
        · exact absurd h hconfig
        · obtain rfl : l = k := Option.some.inj (hl.symm.trans hk)
          simp only [State.takeReady, hl, hfields, hconfig, if_false, State.readyFor, hoffline]

theorem State.takeReady_valid (hl : Lane.ofNumber lane.toNat = some l) (hnone : article.toNat ≠ 0)
    (hlast : article.toNat ≠ 255) (hbatch : batch ≠ 0) (hconfig : s.line.state ≠ .config) :
    s.takeReady lane span article batch = s.readyFor l span article batch := by
  have hfields : ¬ (article = 0 ∨ article = 255 ∨ batch = 0) := by
    rintro (rfl | rfl | rfl)
    · exact hnone rfl
    · exact hlast rfl
    · exact hbatch rfl
  simp only [State.takeReady, hl, hfields, hconfig, if_false]

end

/-- A READY addressed to the part goes to the Feed Sequencer and on with the mark taken (R170). -/
theorem exec_ready {e : Envelope} {lane span article : Byte} {batch : Half} {s t : State}
    (hown : s.admitsOwn (readyFrame e lane span article batch) = true)
    (ht : s.received.takeReady lane span article batch = t) :
    exec (.ready e lane span article batch) s =
      .next (t.passOn ((readyFrame e lane span article batch).withMark markTaken)) := by
  refine State.live_receives (s.admits_held _ (s.admitsOwn_admits _ hown)) ?_
  rw [s.receive_admitsOwn _ hown rfl, ← ht]
  have hbatch : halfAt (readyFrame e lane span article batch).body 3 = batch := halfAt_bytes16 batch []
  show (s.received.takeReady lane span article (halfAt (readyFrame e lane span article batch).body 3)).forward _ = _
  rw [hbatch]
  rfl

/-! ### Permitted spans (R97) -/

/-- A span is told by the lanes it holds. -/
theorem span_eq_iff {a b : Span} : a = b ↔ ∀ k, spanHas a k = spanHas b k := by
  refine ⟨fun h _ => by rw [h], fun h => BitVec.eq_of_getLsbD_eq fun i hi => ?_⟩
  have h1 := h .l1
  have h2 := h .l2
  have h3 := h .l3
  have h4 := h .l4
  interval_cases i
  · exact h1
  · exact h2
  · exact h3
  · exact h4

theorem spanHas_setWidth (span : Byte) (k : Lane) : spanHas (span.setWidth 4) k = span.getLsbD (k.number - 1) := by
  cases k <;> simp [spanHas, Lane.number]

/-- A byte is a span's when its upper four bits are clear and it holds the span's lanes. -/
theorem byte_eq_span {span : Byte} {a : Span} :
    span = a.setWidth 8 ↔ span.toNat < 16 ∧ ∀ k : Lane, span.getLsbD (k.number - 1) = spanHas a k := by
  have hlow : span = (span.setWidth 4).setWidth 8 ↔ span.toNat < 16 := by
    rw [← BitVec.toNat_inj]
    simp only [BitVec.toNat_setWidth]
    omega
  simp only [← spanHas_setWidth, ← span_eq_iff]
  constructor
  · intro h
    have hsame : span.setWidth 4 = a := by
      rw [h]
      simp
    exact ⟨hlow.mp (by rw [hsame, h]), hsame⟩
  · rintro ⟨hsmall, hsame⟩
    rw [← hsame]
    exact hlow.mpr hsmall

/-- What a permitted span is, bit by bit (R91, R97; log 20). -/
theorem State.spanPermitted_iff (s : State) (l : Lane) (span : Byte) : s.spanPermitted l span = true ↔
    span.toNat < 16 ∧
    (∃ w : Nat, 1 ≤ w ∧ l.number + w ≤ 5 ∧ (s.lane l).cfg.widths.getLsbD (w - 1) = true ∧
      ∀ k : Lane, span.getLsbD (k.number - 1) = decide (l.number ≤ k.number ∧ k.number < l.number + w)) ∧
    ∀ k : Lane, span.getLsbD (k.number - 1) = true → (s.lane k).cfg.enabled = true := by
  have hnumber : 1 ≤ l.number := by cases l <;> decide
  have hwidth (w : Nat) : w ∈ [1, 2, 3, 4] ∧ l.number + w ≤ 5 ↔ 1 ≤ w ∧ l.number + w ≤ 5 := by
    simp only [List.mem_cons, List.not_mem_nil, or_false]
    omega
  have hhas (w : Nat) (hw : w ∈ [1, 2, 3, 4]) (hfit : l.number + w ≤ 5) (k : Lane) :
      spanHas (spanFrom l w) k = decide (l.number ≤ k.number ∧ k.number < l.number + w) := by
    rw [Bool.eq_iff_iff, decide_eq_true_iff]
    exact spanHas_spanFrom l k w (by omega) hfit
  have hpermits : (s.lane l).cfg.permitsWidth l span = true ↔ span.toNat < 16 ∧ ∃ w : Nat, 1 ≤ w ∧ l.number + w ≤ 5 ∧
      (s.lane l).cfg.widths.getLsbD (w - 1) = true ∧
      ∀ k : Lane, span.getLsbD (k.number - 1) = decide (l.number ≤ k.number ∧ k.number < l.number + w) := by
    simp only [LaneConfig.permitsWidth, List.any_eq_true, Bool.and_eq_true, decide_eq_true_iff, beq_iff_eq, byte_eq_span]
    constructor
    · rintro ⟨w, hw, ⟨hfit, hallowed⟩, hsmall, hbits⟩
      exact ⟨hsmall, w, ((hwidth w).mp ⟨hw, hfit⟩).1, hfit, hallowed, fun k => (hbits k).trans (hhas w hw hfit k)⟩
    · rintro ⟨hsmall, w, hone, hfit, hallowed, hbits⟩
      have hw := ((hwidth w).mpr ⟨hone, hfit⟩).1
      exact ⟨w, hw, ⟨hfit, hallowed⟩, hsmall, fun k => (hbits k).trans (hhas w hw hfit k).symm⟩
  simp only [State.spanPermitted, Bool.and_eq_true, hpermits, List.all_eq_true, mem_spanLanes, spanHas_setWidth, and_assoc]

/-! ### A refused READY (R97) -/

/-- Outside RUN, or with a current batch, a change of the order clears the block of an empty one (R123, R124). -/
theorem State.orderChanged_kept {s : State} (h : s.line.state ≠ .run ∨ s.currentPlace.isSome = true) :
    s.orderChanged = if s.feed.order = [] then s.clearBlock else s := by
  simp only [State.orderChanged, List.isEmpty_iff]
  split
  · exact State.choose_of_noChoice (by rwa [s.clearBlock_feedOnly.line, s.clearBlock_currentPlace])
  · exact State.choose_of_noChoice h

theorem State.clearBlock_lanes (s : State) : s.clearBlock.feed.lanes = s.feed.lanes := by
  unfold State.clearBlock
  split
  · rfl
  · rw [State.refreshFeed_feed]
    rfl

/-- What such a change leaves of the lanes, the order, the records and the Batch Counter. -/
theorem State.orderChanged_leaves {s : State} (h : s.line.state ≠ .run ∨ s.currentPlace.isSome = true) :
    s.orderChanged.feed.lanes = s.feed.lanes ∧ s.orderChanged.feed.order = s.feed.order ∧
      s.orderChanged.batch = { s.batch with block := if s.feed.order = [] then none else s.batch.block } := by
  rw [State.orderChanged_kept h]
  split
  · exact ⟨s.clearBlock_lanes, s.clearBlock_blocks.2.2, s.clearBlock_blocks.1⟩
  · exact ⟨rfl, rfl, rfl⟩

/-- The fault of a refused span (R97). -/
def refusedSpan (l : Lane) : Raised :=
  { code := .readyRefusedSpan, severity := .piece, piece := none, site := .lane l, position := none }

section

variable {s : State} {l : Lane}

theorem State.readyFor_refused_idle {span article : Byte} {batch : Half} (hrun : (s.lane l).run = .idle)
    (hspan : s.spanPermitted l span = false) : s.readyFor l span article batch = s.logFault (refusedSpan l) := by
  simp only [State.readyFor, hrun, hspan, Bool.false_eq_true, if_false]
  exact s.refuseSpan_eq l

theorem State.readyFor_refused_ready {span article : Byte} {batch : Half} (hrun : (s.lane l).run = .ready)
    (hspan : s.spanPermitted l span = false) :
    s.readyFor l span article batch = (s.withoutRequest l).orderChanged.logFault (refusedSpan l) := by
  simp only [State.readyFor, hrun, hspan, Bool.false_eq_true, if_false]
  exact State.refuseSpan_eq _ l

/-- A READY lane whose new request is refused: it rests, behind whatever the change of the order sets going. -/
theorem State.refusedReady_rests (s : State) (l : Lane) :
    ((s.withoutRequest l).orderChanged.logFault (refusedSpan l)).feed.RestsAt l ∧
      s.LotsOnly ((s.withoutRequest l).orderChanged.logFault (refusedSpan l)) := by
  refine ⟨?_, (s.dropRequest_lotsOnly l).trans (State.logFault_lotsOnly _ _)⟩
  rw [(State.logFault_blocks _ _).2.1]
  exact State.orderChanged_rests (s.withoutRequest_rests l)

/-- Where the change of the order makes no choice, the drop and the fault are all. -/
theorem State.refusedReady_kept (h : s.line.state ≠ .run ∨ s.currentPlace.isSome = true) {t : State}
    (ht : t = (s.withoutRequest l).orderChanged.logFault (refusedSpan l)) :
    t.pieces = s.pieces ∧ t.feed.lanes = (s.withoutRequest l).feed.lanes ∧
      t.feed.order = (s.withoutRequest l).feed.order ∧
      t.batch = { s.batch with block := if t.feed.order = [] then none else s.batch.block } ∧
      State.recorded s t (refusedSpan l) := by
  have h' : (s.withoutRequest l).line.state ≠ .run ∨ (s.withoutRequest l).currentPlace.isSome = true := h
  have hsettles := State.orderChanged_settles h'
  obtain ⟨hlanes, horder, hbatch⟩ := State.orderChanged_leaves h'
  obtain ⟨hpieces, hfeed, hbatch', -⟩ := (s.withoutRequest l).orderChanged.logFault_blocks (refusedSpan l)
  subst ht
  rw [hpieces, hfeed, hbatch', hlanes, horder, hbatch]
  refine ⟨hsettles.pieces, rfl, rfl, rfl, ?_⟩
  exact State.recorded_after hsettles.faults (s.dropRequest_lotsOnly l).travel (by rw [hsettles.line]; rfl)
    (State.logFault_recorded _ _)

end

/-- Settles O32: READY by its row, and the permitted spans bit by bit. -/
theorem readyNotAccepted : Obligations.ReadyNotAccepted := by
  unfold Obligations.ReadyNotAccepted
  refine ⟨fun e lane span article batch s hown h => exec_ready hown (State.takeReady_setAside h),
    fun e lane span article batch s l hown hl hnone hlast hbatch hconfig hrun => exec_ready hown ?granted,
    fun e lane span article batch s l hown hl hnone hlast hbatch hconfig hrun hspan => ?refused,
    State.spanPermitted_iff⟩
  case granted =>
    rw [State.takeReady_valid (s := s.received) hl hnone hlast hbatch hconfig]
    simp only [State.readyFor, show (s.received.lane l).run = .granted from hrun]
    rfl
  case refused =>
    have hvalid := State.takeReady_valid (s := s.received) (span := span) hl hnone hlast hbatch hconfig
    have hspan' : s.received.spanPermitted l span = false := hspan
    rcases hrun with hrun | hrun
    · have hexec := exec_ready hown (hvalid.trans (State.readyFor_refused_idle hrun hspan'))
      have hlots := s.received.logFault_lotsOnly (refusedSpan l)
      obtain ⟨hpieces, hfeed, -⟩ := s.received.logFault_blocks (refusedSpan l)
      refine ⟨_, hexec, ?_, hlots.line, hlots.sameTracking_passOn _, hlots.sameOuter_passOn _,
        fun _ => ⟨hfeed, hpieces, (s.received.logFault_recorded (refusedSpan l) :)⟩,
        fun h => absurd (hrun.symm.trans h) (by decide)⟩
      exact (congrArg LaneEntry.run (s.received.logFault_lane (refusedSpan l) l)).trans hrun
    · have hexec := exec_ready hown (hvalid.trans (State.readyFor_refused_ready hrun hspan'))
      obtain ⟨⟨hidle, hnorequest, hout⟩, hlots⟩ := s.received.refusedReady_rests l
      refine ⟨_, hexec, hidle, hlots.line, hlots.sameTracking_passOn _, hlots.sameOuter_passOn _,
        fun h => absurd (hrun.symm.trans h) (by decide), fun _ => ⟨hnorequest, hout, fun refused hrefused => ?_⟩⟩
      subst hrefused
      refine ⟨fun hkept => ?_, fun hrunning hplace => ?_⟩
      · obtain ⟨hpieces, hlanes, horder, hblock, hrecorded⟩ := State.refusedReady_kept (s := s.received) (l := l) hkept rfl
        exact ⟨hpieces, hlanes, horder, hblock, (hrecorded :)⟩
      · rw [State.orderChanged_eq_choose (s := s.received.withoutRequest l) hrunning hplace]
        rfl

end Sys2Proof.Machine

/-! SUPPORT. The conditions of a grant, what a grant creates, and the order of an evaluation (R43, R45, R100, R101, R103 to
R105). -/

namespace Sys2Proof.Machine

open Sys2Proof

/-! ### Spans that overlap (R100, condition 4) -/

theorem span_disjoint_iff {a b : Span} : a &&& b = 0 ↔ ∀ k, spanHas a k = true → spanHas b k = false := by
  simp [span_eq_iff, spanHas]

theorem span_or_disjoint {a b c : Span} : (a ||| b) &&& c = 0 ↔ a &&& c = 0 ∧ b &&& c = 0 := by
  simp only [span_disjoint_iff, spanHas, BitVec.getLsbD_or, Bool.or_eq_true, or_imp, forall_and]

/-- A span is clear of all that are gathered over a list exactly when it is clear of each. -/
theorem foldl_or_disjoint {α : Type} (f : α → Span) (x : Span) : ∀ (l : List α) (m : Span),
    (l.foldl (fun m a => m ||| f a) m) &&& x = 0 ↔ m &&& x = 0 ∧ ∀ a ∈ l, f a &&& x = 0 := by
  intro l
  induction l with
  | nil => simp
  | cons a l ih =>
    intro m
    rw [List.foldl_cons, ih, span_or_disjoint, List.forall_mem_cons, and_assoc]

theorem State.heldLanes_clear {s : State} {sp : Span} : sp &&& s.heldLanes = 0 ↔
    (∀ q ∈ s.pieces.records, q.state = .granted → q.span &&& sp = 0) ∧ ∀ q ∈ s.port.urgent, q.grantSpan &&& sp = 0 := by
  have hgranted : (fun (m : Span) (r : Piece) => if r.state = .granted then m ||| r.span else m) =
      fun m r => m ||| if r.state = .granted then r.span else 0 := by
    funext m r
    split
    · rfl
    · simp
  have hone (q : Piece) : (if q.state = .granted then q.span else 0) &&& sp = 0 ↔ (q.state = .granted → q.span &&& sp = 0) := by
    split
    next h => simp [h]
    next h => simp [h]
  have hzero : (0 : Span) &&& sp = 0 := by simp
  rw [BitVec.and_comm, State.heldLanes, span_or_disjoint, hgranted, foldl_or_disjoint, foldl_or_disjoint]
  simp only [hone, hzero, true_and]

/-! ### Live tails and the earliest release (R103 to R105) -/

theorem State.liveTail_eq_some {s : State} {l : Lane} {x : Tail} : s.liveTail l = some x ↔
    (s.lane l).tail = some x ∧ (s.travel.position - x.pos).toInt ≤ 65536 := by
  rw [State.liveTail, Option.filter_eq_some_iff]
  exact and_congr_right fun _ => decide_eq_true_iff

theorem State.gapOk_iff {s : State} {lead : Pos} {gap : Nat} {k : Lane} : s.gapOk lead gap k = true ↔
    ∀ x : Tail, (s.lane k).tail = some x → (s.travel.position - x.pos).toInt ≤ 65536 →
      ((x.gap + gap : Nat) : Int) ≤ (lead - x.pos).toInt := by
  have hiff : s.gapOk lead gap k = true ↔ ∀ x, s.liveTail k = some x → ((x.gap + gap : Nat) : Int) ≤ posDiff lead x.pos := by
    unfold State.gapOk
    cases s.liveTail k with
    | none => simp
    | some t => simp
  rw [hiff]
  simp only [State.liveTail_eq_some, and_imp]
  rfl

/-- One lane's part in the search for the furthest tail (R105). -/
def State.further (s : State) (m : Option Pos) (l : Lane) : Option Pos :=
  match s.liveTail l, m with
  | none, m => m
  | some t, none => some t.pos
  | some t, some p => if 0 < posDiff t.pos p then some t.pos else some p

theorem State.furthestTail_eq (s : State) : s.furthestTail = allLanes.foldl s.further none := rfl

/-- What the search finds is a live tail's position. -/
theorem State.further_of_live (s : State) (lanes : List Lane) (m : Option Pos) {p : Pos}
    (h : lanes.foldl s.further m = some p) : m = some p ∨ ∃ l x, s.liveTail l = some x ∧ p = x.pos := by
  induction lanes generalizing m with
  | nil => exact .inl h
  | cons l lanes ih =>
    refine (ih _ h).elim (fun hm => ?_) .inr
    unfold State.further at hm
    split at hm
    · exact .inl hm
    next t ht => exact .inr ⟨l, t, ht, (Option.some.inj hm).symm⟩
    next t q ht =>
      split at hm
      · exact .inr ⟨l, t, ht, (Option.some.inj hm).symm⟩
      · exact .inl hm

/-- Of two positions that are each at or before the other, one is the other's. -/
theorem not_further_of_before {a b : Pos} (h : 0 ≤ posDiff a b) : ¬ 0 < posDiff b a := by
  intro hlt
  have hneg : b - a = -(a - b) := by bv_omega
  unfold posDiff at h hlt
  rw [hneg, BitVec.toInt_neg] at hlt
  have hmax : (a - b).toInt < 2 ^ 31 := BitVec.toInt_lt
  rw [Int.bmod_eq_of_le (by omega) (by omega)] at hlt
  omega

/-- A live tail that no other is ahead of is the furthest. -/
theorem State.furthestTail_of {s : State} {k : Lane} {x : Tail} (hx : s.liveTail k = some x)
    (hfirst : ∀ (j : Lane) (y : Tail), s.liveTail j = some y → 0 ≤ posDiff x.pos y.pos) : s.furthestTail = some x.pos := by
  have hstays (lanes : List Lane) : lanes.foldl s.further (some x.pos) = some x.pos := by
    induction lanes with
    | nil => rfl
    | cons l lanes ih =>
      have hstep : s.further (some x.pos) l = some x.pos := by
        cases ht : s.liveTail l with
        | none => simp only [State.further, ht]
        | some t => simp only [State.further, ht, not_further_of_before (hfirst l t ht), if_false]
      rw [List.foldl_cons, hstep]
      exact ih
  have hreach (lanes : List Lane) (hk : k ∈ lanes) (m : Option Pos)
      (hm : ∀ p, m = some p → 0 ≤ posDiff x.pos p) : lanes.foldl s.further m = some x.pos := by
    induction lanes generalizing m with
    | nil => exact absurd hk (by simp)
    | cons l lanes ih =>
      rw [List.foldl_cons]
      by_cases hl : k = l
      · subst hl
        have hstep : s.further m k = some x.pos := by
          cases m with
          | none => simp only [State.further, hx]
          | some p =>
            simp only [State.further, hx]
            split
            · rfl
            next hnot => rw [eq_of_posDiff_eq_zero (a := x.pos) (b := p) (by have := hm p rfl; omega)]
        rw [hstep]
        exact hstays lanes
      · refine ih ((List.mem_cons.mp hk).resolve_left hl) _ fun p hp => ?_
        unfold State.further at hp
        split at hp
        · exact hm p hp
        next t ht => exact Option.some.inj hp ▸ hfirst l t ht
        next t q ht =>
          split at hp
          · exact Option.some.inj hp ▸ hfirst l t ht
          · exact hm p hp
  exact hreach allLanes (by cases k <;> decide) none (by simp)

/-- The lot-change requirement, where every live tail is far enough behind (R105). -/
theorem State.lotGapOk_of {s : State} {lead : Pos} {batch : Half} (h : s.feed.lastBatch = none ∨
    s.feed.lastBatch = some batch ∨ ∀ (k : Lane) (x : Tail), s.liveTail k = some x →
      (s.mgmt.flow.batchGap : Int) ≤ posDiff lead x.pos) : s.lotGapOk lead batch = true := by
  cases hlast : s.feed.lastBatch with
  | none => simp only [State.lotGapOk, hlast]
  | some b =>
    by_cases hb : b = batch
    · simp only [State.lotGapOk, hlast, hb, if_true]
    · have hgap := (h.resolve_left (by simp [hlast])).resolve_left (by simp [hlast, hb])
      cases hm : s.furthestTail with
      | none => simp only [State.lotGapOk, hlast, hb, hm, if_false]
      | some m =>
        obtain ⟨l, x, hx, rfl⟩ := (s.further_of_live allLanes none hm).resolve_left (by simp)
        simp only [State.lotGapOk, hlast, hb, hm, if_false, decide_eq_true_iff]
        exact hgap l x hx

/-- The requirement fails where the furthest live tail of another lot is too near (R105). -/
theorem State.lotGapOk_fails {s : State} {lead : Pos} {batch b : Half} {k : Lane} {x : Tail}
    (hlast : s.feed.lastBatch = some b) (hb : b ≠ batch) (hx : s.liveTail k = some x)
    (hfirst : ∀ (j : Lane) (y : Tail), s.liveTail j = some y → 0 ≤ posDiff x.pos y.pos)
    (hnear : posDiff lead x.pos < (s.mgmt.flow.batchGap : Int)) : s.lotGapOk lead batch = false := by
  simp only [State.lotGapOk, hlast, hb, State.furthestTail_of hx hfirst, if_false, decide_eq_false_iff_not]
  exact Int.not_le.mpr hnear

theorem State.releaseOk_iff {s : State} {l : Lane} {r : LaneRequest} : s.releaseOk l r = true ↔
    (∀ k, spanHas r.span k = true → s.gapOk (s.predictedLead l) (s.leadGap r.article) k = true) ∧
      s.lotGapOk (s.predictedLead l) r.batch = true := by
  simp only [State.releaseOk, Bool.and_eq_true, List.all_eq_true, mem_spanLanes]

/-! ### Qualifying (R100) -/

theorem State.qualifies_iff {s : State} {l : Lane} {r : LaneRequest} : s.qualifies l r = true ↔
    s.line.state = .run ∧ s.feed.fhold = false ∧ s.feed.hold = false ∧ r.span &&& s.heldLanes = 0 ∧
      s.currentBatch = some r.batch ∧ (s.lane l).cfg.level < s.mgmt.flow.mask ∧ s.releaseOk l r = true := by
  simp only [State.qualifies, Bool.and_eq_true, Bool.not_eq_true', beq_iff_eq, decide_eq_true_iff, and_assoc]

theorem State.tryLane_notReady {s : State} {l : Lane} (h : (s.lane l).run ≠ .ready) : s.tryLane l = s := by
  unfold State.tryLane
  split
  next hrun _ => exact absurd hrun h
  next => rfl

theorem State.tryLane_refused {s : State} {l : Lane} {r : LaneRequest} (hrequest : (s.lane l).request = some r)
    (h : s.qualifies l r = true → s.tableFull = true) : s.tryLane l = s := by
  unfold State.tryLane
  split
  next q hrun hq =>
    obtain rfl : r = q := Option.some.inj (hrequest.symm.trans hq)
    split
    next hqualifies => exact if_pos (h hqualifies)
    next => rfl
  next => rfl

theorem State.tryLane_granted {s : State} {l : Lane} {r : LaneRequest} (hrun : (s.lane l).run = .ready)
    (hrequest : (s.lane l).request = some r) (h : s.qualifies l r = true) : s.tryLane l = s.grant l r := by
  simp only [State.tryLane, hrun, hrequest, h, if_true]

/-! ### The creation of a record (R43, R45) -/

/-- A record put into the table under the next number is created, whatever was done to the records behind it, as long
as every record keeps its number. -/
theorem State.creates_of {s t : State} {r : Piece} (hroom : s.tableFull = false) (hnumber : r.number = s.newNumber)
    (hcounter : t.pieces.counter = nextNumber r.number)
    (hrecords : t.pieces.records.map (fun q => q.number) = (insertRecord r s.pieces.records).map fun q => q.number) :
    State.creates s t r.number r.orderKey := by
  obtain ⟨k, -, hfirst, hheld⟩ := freeNumber_first s.pieces.records (s.pieces.records.length + 1) s.pieces.counter
  obtain ⟨pre, post, hsplit, hinserted, hpre, hpost⟩ := insertRecord_split r s.pieces.records
  refine ⟨⟨k, hnumber.trans hfirst, hheld⟩, fun q hq => hnumber ▸ State.newNumber_free hroom q hq, hcounter, pre, post,
    hsplit, by rw [hrecords, hinserted, List.map_append, List.map_cons], hpre, hpost,
    fun base hkey hbase hsorted q hq => ?_⟩
  cases hcase : post with
  | nil => exact absurd (hcase ▸ hq) (by simp)
  | cons p rest =>
    have hp := hpost p (by simp [hcase])
    have hmem (x : Piece) (hx : x ∈ post) : x ∈ s.pieces.records := hsplit ▸ List.mem_append_right _ hx
    have hpbase := hbase p (hmem p (by simp [hcase]))
    have hqbase := hbase q (hmem q hq)
    rw [posDiff_of_base hpbase hkey] at hp
    have hafter : 0 ≤ posDiff q.orderKey p.orderKey := by
      rcases List.mem_cons.mp (hcase ▸ hq) with rfl | hrest
      · simp [posDiff]
      · rw [hsplit, hcase] at hsorted
        exact (List.pairwise_cons.mp (List.pairwise_append.mp hsorted).2.1).1 q hrest
    rw [posDiff_of_base hqbase hpbase] at hafter
    show 0 < posDiff q.orderKey r.orderKey
    rw [posDiff_of_base hqbase hkey]
    omega

/-! ### The order of an evaluation (R101) -/

theorem lanesFrom_nodup (p : Lane) : (lanesFrom p).Nodup := by cases p <;> decide

theorem mem_lanesFrom (p l : Lane) : l ∈ lanesFrom p := by cases p <;> cases l <;> decide

/-- From the pointer's lane upward, lane 4 followed by lane 1. -/
theorem lanesFrom_order (p a b : Lane)
    (h : (a.number + 4 - p.number) % 4 < (b.number + 4 - p.number) % 4) : [a, b].Sublist (lanesFrom p) := by
  cases p <;> cases a <;> cases b <;> first | exact absurd h (by decide) | decide

/-- The lanes of one level in the order of an evaluation. -/
def State.levelLanes (s : State) (v : Nat) : List Lane :=
  (lanesFrom s.feed.pointer).filter fun l => (s.lane l).cfg.level == v

theorem State.mem_levelLanes {s : State} {v : Nat} {l : Lane} : l ∈ s.levelLanes v ↔ (s.lane l).cfg.level = v := by
  simp [State.levelLanes, mem_lanesFrom]

theorem State.mem_arbitration {s : State} {l : Lane} : l ∈ s.arbitration ↔ (s.lane l).cfg.level ≤ 3 := by
  have hiff : l ∈ s.arbitration ↔ ∃ v ∈ [0, 1, 2, 3], l ∈ s.levelLanes v := List.mem_flatMap
  simp only [hiff, State.mem_levelLanes, List.mem_cons, List.not_mem_nil, or_false]
  constructor
  · rintro ⟨v, hv, hl⟩
    omega
  · exact fun h => ⟨_, by omega, rfl⟩

theorem State.arbitration_nodup (s : State) : s.arbitration.Nodup := by
  refine List.nodup_flatMap.mpr ⟨fun v _ => (lanesFrom_nodup _).filter _, ?_⟩
  refine List.Pairwise.imp (R := (· ≠ ·)) (fun {v w} hne l hv hw => hne ?_) (by decide)
  exact (State.mem_levelLanes.mp hv).symm.trans (State.mem_levelLanes.mp hw)

/-- A lane of a lower level stands before one of a higher, and within a level the pointer's upward order holds. -/
theorem State.arbitration_order {s : State} {a b : Lane} (ha : (s.lane a).cfg.level ≤ 3) (hb : (s.lane b).cfg.level ≤ 3)
    (h : (s.lane a).cfg.level < (s.lane b).cfg.level ∨ ((s.lane a).cfg.level = (s.lane b).cfg.level ∧
      (a.number + 4 - s.feed.pointer.number) % 4 < (b.number + 4 - s.feed.pointer.number) % 4)) :
    [a, b].Sublist s.arbitration := by
  have hone (l : Lane) : [l].Sublist (s.levelLanes (s.lane l).cfg.level) :=
    List.singleton_sublist.mpr (State.mem_levelLanes.mpr rfl)
  have hlevels : ∀ v w : Nat, v < w → w ≤ 3 → [v, w].Sublist [0, 1, 2, 3] := by
    intro v w hlt hle
    interval_cases w <;> interval_cases v <;> decide
  rcases h with hlt | ⟨heq, hlt⟩
  · exact ((hone a).append (hone b)).trans (by
      simpa [State.arbitration, State.levelLanes] using (hlevels _ _ hlt hb).flatMap s.levelLanes)
  · have hpair : [a, b].Sublist (s.levelLanes (s.lane a).cfg.level) := by
      have hfiltered := (lanesFrom_order s.feed.pointer a b hlt).filter fun l => (s.lane l).cfg.level == (s.lane a).cfg.level
      simpa [heq, State.levelLanes] using hfiltered
    have hlevel : [(s.lane a).cfg.level].Sublist [0, 1, 2, 3] :=
      List.singleton_sublist.mpr (by simp only [List.mem_cons, List.not_mem_nil, or_false]; omega)
    exact hpair.trans (by simpa [State.arbitration, State.levelLanes] using hlevel.flatMap s.levelLanes)

end Sys2Proof.Machine

/-! SUPPORT. The obligation on an accepted READY, the grant and the evaluation (R97, R99 to R108, R125). -/

namespace Sys2Proof.Machine

open Sys2Proof

/-! ### A lane that was accepted, through an evaluation (R97, R99) -/

/-- The lane is READY with its request, or was granted for it and holds none. -/
def State.requesting (s : State) (l : Lane) (q : LaneRequest) : Prop :=
  ((s.lane l).run = .ready ∧ (s.lane l).request = some q) ∨ ((s.lane l).run = .granted ∧ (s.lane l).request = none)

theorem State.requesting_congr {s t : State} {l : Lane} {q : LaneRequest} (h : s.requesting l q)
    (hlane : (t.lane l).run = (s.lane l).run ∧ (t.lane l).request = (s.lane l).request) : t.requesting l q := by
  unfold State.requesting
  rwa [hlane.1, hlane.2]

theorem State.LotMove.requesting {a b : State} {l : Lane} {q : LaneRequest} (h : a.LotMove b)
    (ha : a.requesting l q) : b.requesting l q := by
  cases h with
  | grant k r hrun _ _ hroom =>
    have hlane : (a.grant k r).lane l = _ := (State.grant_lane hroom l).trans (State.granting_lane l)
    by_cases hl : l = k
    · exact .inr ⟨by rw [hlane]; exact if_pos hl, by rw [hlane]; exact if_pos hl⟩
    · exact State.requesting_congr ha (by rw [hlane]; simp [hl])
  | dropTails => exact State.requesting_congr ha ((a.dropTails_quiet).lanes l).run
  | testHold => exact State.requesting_congr ha ((a.testHold_quiet).lanes l).run
  | block c => exact State.requesting_congr ha ((State.refreshFeed_quiet { a with batch := c }).lanes l).run
  | _ => exact ha

/-! ### The acceptance (R95, R97) -/

/-- The lane READY with its request at the back of the order, before anything else is made of it (R95). -/
def State.accepting (s : State) (l : Lane) (q : LaneRequest) : State :=
  { s with
    feed := { s.feed with
      lanes := s.feed.lanes.set l { s.lane l with run := .ready, request := some q }
      order := s.feed.order.filter (· != l) ++ [l] } }

theorem State.accepting_lane (s : State) (l : Lane) (q : LaneRequest) :
    (s.accepting l q).lane l = { s.lane l with run := .ready, request := some q } := PerLane.get_set_self _ _ _

section

variable {s : State} {l : Lane} {span article : Byte} {batch : Half}

/-- The request of a READY. -/
def requestOf (span article : Byte) (batch : Half) : LaneRequest :=
  { span := span.setWidth 4, article := article, batch := batch }

theorem State.readyFor_accepted (hrun : (s.lane l).run = .idle ∨ (s.lane l).run = .ready)
    (hspan : s.spanPermitted l span = true) :
    s.readyFor l span article batch = s.acceptReady l (requestOf span article batch) := by
  rcases hrun with hrun | hrun <;> simp only [State.readyFor, hrun, hspan, if_true] <;> rfl

theorem State.acceptReady_eq (s : State) (l : Lane) (q : LaneRequest) :
    s.acceptReady l q = ((s.accepting l q).choose.batchReady q.batch).evaluate := by
  have hchanged : (s.accepting l q).orderChanged = (s.accepting l q).choose := by
    rw [State.orderChanged, if_neg (by simp [State.accepting])]
  exact congrArg (fun u : State => (u.batchReady q.batch).evaluate) hchanged

end

theorem State.batchReady_eq (s : State) (n : Half) : s.batchReady n =
    if s.currentBatch = some n then { s with batch := { s.batch with idle := .running 0 false } } else s := rfl

/-- The acceptance in RUN keeps the lane READY, or grants it (R99). -/
theorem State.acceptReady_requesting (s : State) (l : Lane) (q : LaneRequest) : (s.acceptReady l q).requesting l q := by
  have haccepted : (s.accepting l q).requesting l q := .inl (by rw [State.accepting_lane]; exact ⟨rfl, rfl⟩)
  have hchosen := (s.accepting l q).choose_lotMoves.keeps (fun hmove => hmove.requesting) haccepted
  have hpassed : ((s.accepting l q).choose.batchReady q.batch).requesting l q := by
    refine State.requesting_congr hchosen ?_
    unfold State.batchReady
    split <;> exact ⟨rfl, rfl⟩
  rw [State.acceptReady_eq]
  exact (State.evaluate_lotMoves _).keeps (fun hmove => hmove.requesting) hpassed

/-- Outside RUN the acceptance leaves the lane READY, at the back of the order, and the records as they are. -/
theorem State.acceptReady_notRun {s : State} (h : s.line.state ≠ .run) (l : Lane) (q : LaneRequest) :
    ((s.acceptReady l q).lane l).run = .ready ∧ ((s.acceptReady l q).lane l).request = some q ∧
      (s.acceptReady l q).feed.order = s.feed.order.filter (· != l) ++ [l] ∧ (s.acceptReady l q).pieces = s.pieces := by
  obtain ⟨u, hu⟩ : ∃ u : State, u = (s.accepting l q).batchReady q.batch := ⟨_, rfl⟩
  have hkept : u.feed = (s.accepting l q).feed ∧ u.pieces = s.pieces ∧ u.line = s.line := by
    rw [hu, State.batchReady_eq]
    split <;> exact ⟨rfl, rfl, rfl⟩
  obtain ⟨hfeed, hpieces, hline⟩ := hkept
  have hall : s.acceptReady l q = u.dropTails := by
    rw [State.acceptReady_eq, State.choose_notRun (s.accepting l q) h, ← hu, State.evaluate_notRun u (hline ▸ h)]
  have hlane : u.lane l = { s.lane l with run := .ready, request := some q } :=
    (congrArg (fun f : FeedSequencer => f.lanes.get l) hfeed).trans (s.accepting_lane l q)
  have hquiet := ((u.dropTails_quiet).lanes l).run
  rw [hall, hquiet.1, hquiet.2, hlane]
  exact ⟨rfl, rfl, (congrArg FeedSequencer.order hfeed :), hpieces⟩

/-! ### The grant (R47, R48, R65, R102 to R108) -/

section

variable {s : State} {l : Lane} {r : LaneRequest}

/-- A grant creates its record (R43, R45). -/
theorem State.grant_creates (hroom : s.tableFull = false) :
    State.creates s (s.grant l r) s.newNumber (s.predictedLead l) := by
  have hpieces := State.grant_pieces (l := l) (r := r) hroom
  exact State.creates_of (r := s.grantRecord l r) hroom rfl (by rw [hpieces]; rfl) (by rw [hpieces])

/-- The table behind a grant: the new record and every old one (R45). -/
theorem State.grant_records (hroom : s.tableFull = false) : s.grantRecord l r ∈ (s.grant l r).pieces.records ∧
    (∀ q ∈ s.pieces.records, q ∈ (s.grant l r).pieces.records) ∧
    (s.grant l r).pieces.records.length = s.pieces.records.length + 1 ∧
    (s.grant l r).pieces.granted = s.pieces.granted + 1 := by
  rw [State.grant_pieces hroom]
  exact ⟨mem_insertRecord.mpr (.inl rfl), fun q hq => mem_insertRecord.mpr (.inr hq), insertRecord_length _ _, rfl⟩

/-- The lanes behind a grant (R94, R106). -/
theorem State.grant_lanes (hroom : s.tableFull = false) : ((s.grant l r).lane l).run = .granted ∧
    ((s.grant l r).lane l).request = none ∧
    (∀ k : Lane, ((s.grant l r).lane k).tail =
      if spanHas r.span k then some (s.grantTail l r) else (s.lane k).tail) ∧
    ∀ k : Lane, k ≠ l → ((s.grant l r).lane k).run = (s.lane k).run ∧ ((s.grant l r).lane k).request = (s.lane k).request := by
  have hlane (k : Lane) := (State.grant_lane (l := l) (r := r) hroom k).trans (State.granting_lane k)
  refine ⟨by rw [hlane]; exact if_pos rfl, by rw [hlane]; exact if_pos rfl, fun k => by rw [hlane], fun k hk => ?_⟩
  rw [hlane, if_neg hk, if_neg hk]
  exact ⟨rfl, rfl⟩

theorem Lane.next_number (l : Lane) : l.next.number = l.number % 4 + 1 := by cases l <;> rfl

/-- What else a grant does to the Feed Sequencer (R95, R101, R105, R108). -/
theorem State.grant_sequencer (hroom : s.tableFull = false) (hhold : s.feed.hold = false) :
    (s.grant l r).feed.order = s.feed.order.filter (· != l) ∧ (s.grant l r).feed.lastBatch = some r.batch ∧
      (s.grant l r).feed.pointer.number = l.number % 4 + 1 ∧
      (s.grant l r).feed.occupancy = s.feed.occupancy + 1 ∧
      (s.grant l r).feed.hold = decide (s.mgmt.flow.halt ≤ s.feed.occupancy + 1) := by
  have hfeed := State.grant_feed (l := l) (r := r) hroom
  have hmgmt := (s.granting_feedOnly l r).mgmt
  rw [hfeed, State.testHold_feed, State.granting_feed]
  refine ⟨rfl, rfl, Lane.next_number l, rfl, ?_⟩
  rw [State.holdAfter, State.granting_feed, hmgmt]
  simp only [hhold]
  split
  next h => exact (decide_eq_true h).symm
  next h => rw [ite_self]; exact (decide_eq_false h).symm

theorem State.grant_urgent (hroom : s.tableFull = false) : (s.grant l r).port.urgent.getLast? =
    some { dest := (s.lane l).cfg.node, msg := .grant l r.span s.newNumber, suspect := false } := by
  have hurgent : (s.grant l r).port.urgent = (s.granting l r).testHold.port.urgent ++
      [{ dest := (s.lane l).cfg.node, msg := .grant l r.span s.newNumber, suspect := false }] := by
    rw [State.grant_eq hroom]
    rfl
  rw [hurgent, List.getLast?_concat]

end

/-- A lane that a condition of R100, a gap or a full table holds back is left as it is (R49, R100, R104, R105). -/
theorem State.tryLane_heldBack {s : State} {l : Lane} {r : LaneRequest} (hrequest : (s.lane l).request = some r)
    (h : s.line.state ≠ .run ∨ s.feed.fhold = true ∨ s.feed.hold = true ∨
      (∃ q ∈ s.pieces.records, q.state = .granted ∧ q.span &&& r.span ≠ 0) ∨
      (∃ q ∈ s.port.urgent, q.grantSpan &&& r.span ≠ 0) ∨ s.currentBatch ≠ some r.batch ∨
      s.mgmt.flow.mask ≤ (s.lane l).cfg.level ∨ 128 ≤ s.pieces.records.length ∨
      (∃ (k : Lane) (x : Tail) (b : Half), s.feed.lastBatch = some b ∧ b ≠ r.batch ∧ (s.lane k).tail = some x ∧
        (s.travel.position - x.pos).toInt ≤ 65536 ∧
        (∀ (j : Lane) (y : Tail), (s.lane j).tail = some y → (s.travel.position - y.pos).toInt ≤ 65536 →
          0 ≤ (x.pos - y.pos).toInt) ∧ posDiff (s.predictedLead l) x.pos < (s.mgmt.flow.batchGap : Int)) ∨
      ∃ (k : Lane) (x : Tail) (gap : Nat), spanHas r.span k = true ∧ (s.lane k).tail = some x ∧
        (s.travel.position - x.pos).toInt ≤ 65536 ∧ gap = s.leadGap r.article ∧
        posDiff (s.predictedLead l) x.pos < ((x.gap + gap : Nat) : Int)) : s.tryLane l = s := by
  refine State.tryLane_refused hrequest fun hqualifies => ?_
  obtain ⟨hrun, hfhold, hhold, hheld, hbatch, hlevel, hrelease⟩ := State.qualifies_iff.mp hqualifies
  obtain ⟨hrecords, hwaiting⟩ := State.heldLanes_clear.mp hheld
  obtain ⟨hgaps, hlot⟩ := State.releaseOk_iff.mp hrelease
  obtain h | h | h | ⟨q, hq, hgranted, hover⟩ | ⟨q, hq, hover⟩ | h | h | h | ⟨k, x, b, hlast, hb, hx, hlive, hfirst, hnear⟩ |
    ⟨k, x, gap, hk, hx, hlive, rfl, hnear⟩ := h
  · exact absurd hrun h
  · exact absurd (hfhold.symm.trans h) (by simp)
  · exact absurd (hhold.symm.trans h) (by simp)
  · exact absurd (hrecords q hq hgranted) hover
  · exact absurd (hwaiting q hq) hover
  · exact absurd hbatch h
  · exact absurd hlevel (Nat.not_lt.mpr h)
  · exact decide_eq_true h
  · rw [State.lotGapOk_fails hlast hb (State.liveTail_eq_some.mpr ⟨hx, hlive⟩) (fun j y hy => by
      obtain ⟨hy, hylive⟩ := State.liveTail_eq_some.mp hy
      exact hfirst j y hy hylive) hnear] at hlot
    exact absurd hlot (by simp)
  · exact absurd (State.gapOk_iff.mp (hgaps k hk) x hx hlive) (Int.not_le.mpr hnear)

/-- Settles O31: the acceptance, the grant and its refusals, and the order of the evaluation. -/
theorem readyAccepted : Obligations.ReadyAccepted := by
  unfold Obligations.ReadyAccepted
  refine ⟨fun e lane span article batch s l hown hl hnone hlast hbatch hconfig hrun hspan => ?accepted,
    fun s l r lead gap hready hrequest hrun hfhold hhold hrecords hwaiting hbatch hlevel hroom hlead hgap hgaps hlot => ?granted,
    fun s l r hrequest h => State.tryLane_heldBack hrequest h,
    fun e lane span article batch s w v l hown hl hnone hlast hbatch hconfig hrun hspan hw hv => ?exec,
    fun s d hd => hd ▸ rfl, fun s l => State.tryLane_notReady, fun s => ⟨s.arbitration_nodup, fun l => State.mem_arbitration⟩,
    fun s a b ha hb h => State.arbitration_order ha hb h⟩
  case accepted =>
    have hvalid := State.takeReady_valid (s := s.received) (span := span) hl hnone hlast hbatch hconfig
    have hexec := exec_ready hown (hvalid.trans (State.readyFor_accepted (s := s.received) hrun hspan))
    have hlots := s.received.acceptReady_lotsOnly l (requestOf span article batch)
    obtain ⟨htransit, -, houter⟩ := State.TrackOnly.passedOn hlots.lineOnly.track
      ((readyFrame e lane span article batch).withMark markTaken)
    refine ⟨_, hexec, htransit, hlots.line, hlots.sameTracking_passOn _, houter,
      fun hnot => State.acceptReady_notRun (s := s.received) hnot l _, fun _ => s.received.acceptReady_requesting l _⟩
  case granted =>
    have hfull : s.tableFull = false := State.tableFull_eq_false.mpr hroom
    have hpredicted : s.predictedLead l = lead := hlead ▸ rfl
    have hleadGap : s.leadGap r.article = gap := hgap ▸ rfl
    have hqualifies : s.qualifies l r = true := by
      refine State.qualifies_iff.mpr ⟨hrun, hfhold, hhold, State.heldLanes_clear.mpr ⟨hrecords, hwaiting⟩, hbatch, hlevel,
        State.releaseOk_iff.mpr ⟨fun k hk => ?_, State.lotGapOk_of (hlot.imp_right fun h => h.imp_right fun h k x hx => ?_)⟩⟩
      · rw [hpredicted, hleadGap]
        exact State.gapOk_iff.mpr fun x hx hlive => hgaps k x hk hx hlive
      · obtain ⟨hx, hlive⟩ := State.liveTail_eq_some.mp hx
        rw [hpredicted]
        exact h k x hx hlive
    rw [State.tryLane_granted hready hrequest hqualifies]
    have honly := s.grant_feedOnly l r
    obtain ⟨hmem, hkept, hlength, hcount⟩ := State.grant_records (l := l) (r := r) hfull
    obtain ⟨hgranted, hnorequest, htails, hothers⟩ := State.grant_lanes (l := l) (r := r) hfull
    obtain ⟨horder, hlastBatch, hpointer, hoccupancy, hholdAfter⟩ := State.grant_sequencer (l := l) (r := r) hfull hhold
    have hreject : (s.grantRecord l r).reject =
        if s.findArticle r.article = none then .unknownArticle else .none := by
      simp only [State.grantRecord, Option.isNone_iff_eq_none]
    refine ⟨s.grantRecord l r, hmem, fun q hq => State.newNumber_free hfull q hq, hpredicted ▸ State.grant_creates hfull,
      hkept, hlength, hcount, rfl, rfl, rfl, rfl, rfl, rfl, rfl, rfl, rfl, hreject, hpredicted,
      congrArg some hpredicted, rfl, rfl, hgranted, hnorequest, fun k => ?_, hothers, horder, hlastBatch, hpointer, hoccupancy,
      hholdAfter, ?_, State.grant_urgent hfull, honly.line, honly.faults, honly.lots.sameTracking,
      honly.lots.lineOnly.track.sameOuter⟩
    · rw [htails k, ← hpredicted]
      rfl
    · rw [State.grant_batch hfull]
      simp only [beq_iff_eq]
  case exec =>
    have hvalid := State.takeReady_valid (s := s.received) (span := span) hl hnone hlast hbatch hconfig
    have hw' : w = s.received.accepting l (requestOf span article batch) := hw
    have hv' : v = w.choose.batchReady batch := hv
    refine exec_ready hown (hvalid.trans ((State.readyFor_accepted (s := s.received) hrun hspan).trans ?_))
    rw [State.acceptReady_eq, hv', hw']
    rfl

end Sys2Proof.Machine

/-! SUPPORT. What the Checkpoint Matcher's operations on one record leave, and the obligation on trails and slip (R20, R78 to
R83, R90, R107). -/

namespace Sys2Proof.Machine

open Sys2Proof

/-! ### One record changed, and faults recorded -/

/-- What work on records alone can change: the records, the faults and the routine queue. -/
structure State.PiecesOnly (s t : State) : Prop where
  lots : s.LotsOnly t
  feed : t.feed = s.feed
  batch : t.batch = s.batch

theorem State.PiecesOnly.rfl' (s : State) : s.PiecesOnly s := ⟨.rfl' s, rfl, rfl⟩

theorem State.PiecesOnly.trans {s t u : State} (h : s.PiecesOnly t) (k : t.PiecesOnly u) : s.PiecesOnly u :=
  ⟨h.lots.trans k.lots, k.feed.trans h.feed, k.batch.trans h.batch⟩

theorem State.onPiece_piecesOnly (s : State) (n : Half) (f : Piece → Piece) : s.PiecesOnly (s.onPiece n f) :=
  ⟨⟨rfl, rfl, rfl, rfl, rfl, rfl, rfl, rfl, rfl, rfl⟩, rfl, rfl⟩

theorem State.logFault_piecesOnly (s : State) (f : Raised) : s.PiecesOnly (s.logFault f) :=
  ⟨s.logFault_lotsOnly f, (s.logFault_blocks f).2.1, (s.logFault_blocks f).2.2.1⟩

theorem State.onPiece_findPiece (s : State) (n k : Half) {f : Piece → Piece} (hf : ∀ q, (f q).number = q.number) :
    (s.onPiece n f).findPiece k = if k = n then (s.findPiece k).map f else s.findPiece k := by
  have hsame : ((fun r : Piece => r.number == k) ∘ fun r => if r.number == n then f r else r) = fun r => r.number == k := by
    funext r
    simp only [Function.comp]
    split
    · rw [hf]
    · rfl
  have hmap : (s.onPiece n f).findPiece k = (s.findPiece k).map fun r => if r.number == n then f r else r := by
    simp only [State.findPiece, State.onPiece, State.onPieces, List.find?_map, hsame]
  rw [hmap]
  cases hr : s.findPiece k with
  | none => simp
  | some r =>
    have hnumber : r.number = k := State.findPiece_number hr
    by_cases hk : k = n <;> simp [hnumber, hk]

theorem State.logFault_findPiece (s : State) (f : Raised) (k : Half) : (s.logFault f).findPiece k = s.findPiece k :=
  State.findPiece_congr (s.logFault_blocks f).1 k

/-! ### A doubt mark set for a cause that holds (R20, R70, R75) -/

/-- From s to t record n, found as r, has doubt where `b` holds, with fault f where its mark was clear. -/
structure State.DoubtedIf (s t : State) (n : Half) (r : Piece) (b : Bool) (f : Raised) : Prop where
  only : s.PiecesOnly t
  found : t.findPiece n = some { r with doubt := r.doubt || b }
  others : ∀ k, k ≠ n → t.findPiece k = s.findPiece k
  recorded : b = true → r.doubt = false → State.recorded s t f
  quiet : b = false ∨ r.doubt = true → t.faults = s.faults

theorem State.doubtedIf {s : State} {n : Half} {r : Piece} {f : Raised} (hr : s.findPiece n = some r)
    (hf : f.severity ≠ .line) (b : Bool) : s.DoubtedIf (if b = true then s.doubtWith n f else s) n r b f := by
  cases b with
  | false =>
    exact ⟨.rfl' s, by simpa using hr, fun _ _ => rfl, fun h => absurd h (by simp), fun _ => rfl⟩
  | true =>
    cases hd : r.doubt with
    | true =>
      have hsame : s.doubtWith n f = s := by simp only [State.doubtWith, hr, hd, if_true]
      rw [if_pos rfl, hsame]
      refine ⟨.rfl' s, ?_, fun _ _ => rfl, fun _ h => absurd (hd.symm.trans h) (by simp), fun _ => rfl⟩
      rw [hr, hd, Bool.or_true, ← hd]
    | false =>
      have hdoubted : s.doubtWith n f = (s.onPiece n fun q => { q with doubt := true }).logFault f := by
        simp only [State.doubtWith, hr, hd, Bool.false_eq_true, if_false]
        exact State.recordFault_eq_logFault _ _ (.inl hf)
      rw [if_pos rfl, hdoubted]
      refine ⟨(s.onPiece_piecesOnly n _).trans (State.logFault_piecesOnly _ f), ?_, fun k hk => ?_, fun _ _ => ?_,
        fun h => absurd h (by simp [hd])⟩
      · rw [State.logFault_findPiece, s.onPiece_findPiece n n (by exact fun _ => rfl), if_pos rfl, hr]
        simp
      · rw [State.logFault_findPiece, s.onPiece_findPiece n k (by exact fun _ => rfl), if_neg hk]
      · exact State.recorded_after (u := s.onPiece n _) rfl rfl rfl (State.logFault_recorded _ f)

/-- The fault of a stale transition used for a record (R20). -/
def Transition.staleFault (t : Transition) (n : Half) : Raised :=
  { code := .staleTime, severity := .doubt, piece := some n, site := t.site, position := some t.pos }

theorem State.settleStale_doubted {s : State} {n : Half} {r : Piece} (hr : s.findPiece n = some r) (t : Transition) :
    s.DoubtedIf (s.settleStale n t) n r t.stale (t.staleFault n) :=
  State.doubtedIf hr (by simp) t.stale

/-! ### A CLEAR at INLET (R78) -/

/-- A record that a CLEAR transition at INLET is not a trail of (R78). -/
def Piece.passedOver (q : Piece) (t : Transition) : Prop :=
  q.measurement = none ∨ spanHas q.span t.lane = false ∨ q.inletLead = none ∨
    ∃ x : Pos, q.inletLead = some x ∧ (t.pos - x).toInt ≤ 0

/-- The test that finds the record of a trail (R78). -/
def Piece.trailsAt (q : Piece) (t : Transition) : Bool :=
  q.measurement.isSome && spanHas q.span t.lane &&
    match q.inletLead with
    | none => false
    | some lead => decide (0 < posDiff t.pos lead)

theorem State.trailFor_eq (s : State) (t : Transition) : s.trailFor t = s.pieces.records.find? fun q => q.trailsAt t := rfl

theorem Piece.trailsAt_eq_false {q : Piece} {t : Transition} : q.trailsAt t = false ↔ q.passedOver t := by
  unfold Piece.passedOver Piece.trailsAt
  cases q.measurement with
  | none => simp
  | some m =>
    cases q.inletLead with
    | none => simp
    | some x =>
      cases spanHas q.span t.lane with
      | false => simp
      | true =>
        simp only [Option.isSome_some, Bool.true_and, posDiff, reduceCtorEq, false_or, Option.some.injEq, exists_eq_left',
          Bool.true_eq_false]
        exact decide_eq_false_iff_not.trans not_lt

theorem State.trailFor_none {s : State} {t : Transition} (h : ∀ q ∈ s.pieces.records, q.passedOver t) :
    s.trailFor t = none := by
  rw [State.trailFor_eq, List.find?_eq_none]
  exact fun q hq => (Bool.not_eq_true _).mpr (Piece.trailsAt_eq_false.mpr (h q hq))

theorem State.trailFor_first {s : State} {t : Transition} {r : Piece} {pre post : List Piece}
    (hrecords : s.pieces.records = pre ++ r :: post) (hpre : ∀ q ∈ pre, q.passedOver t) (hr : ¬ r.passedOver t) :
    s.trailFor t = some r := by
  have hnone : pre.find? (fun q => q.trailsAt t) = none :=
    List.find?_eq_none.mpr fun q hq => (Bool.not_eq_true _).mpr (Piece.trailsAt_eq_false.mpr (hpre q hq))
  rw [State.trailFor_eq, hrecords, List.find?_append, hnone, Option.none_or]
  exact List.find?_cons_of_pos (by simpa using mt Piece.trailsAt_eq_false.mp hr)

/-- The first record of a number in a table. -/
theorem State.findPiece_first {s : State} {r : Piece} {pre post : List Piece}
    (hrecords : s.pieces.records = pre ++ r :: post) (hpre : ∀ q ∈ pre, q.number ≠ r.number) :
    s.findPiece r.number = some r := by
  rw [State.findPiece, hrecords, List.find?_append, List.find?_eq_none.mpr fun q hq => by simpa using hpre q hq,
    Option.none_or]
  exact List.find?_cons_of_pos (by simp)

theorem State.takeClear_unused {s : State} {t : Transition} (h : t.kind ≠ .inlet ∨ ∀ q ∈ s.pieces.records, q.passedOver t) :
    s.takeClear t = s := by
  cases hk : t.kind with
  | laneExit => simp only [State.takeClear, hk]
  | exit => simp only [State.takeClear, hk]
  | inlet => simp only [State.takeClear, hk, State.trailFor_none (h.resolve_left (by simp [hk]))]

/-! ### A final trail (R80 to R83, R107) -/

/-- The length check's reason in a record (R53, R82). -/
def Piece.checked (q : Piece) (a : Option ArticleData) (len : Int) : Piece :=
  match a with
  | none => q
  | some a => if (a.maximum : Int) < len then q.withReason .long else if len < (a.minimum : Int) then q.withReason .short else q

theorem Piece.withReason_number (q : Piece) (x : RejectReason) : (q.withReason x).number = q.number := by
  unfold Piece.withReason
  split <;> rfl

/-- A length fault (R82). -/
def lengthFault (c : FaultCode) (r : Piece) (trail : Pos) : Raised :=
  { code := c, severity := .piece, piece := some r.number, site := .lane r.lane, position := some trail }

/-- The fault of the length check is recorded where the length is outside the snapshot's range, and none where it is
inside or there is no snapshot (R82). -/
structure State.LengthFaults (s t : State) (r : Piece) (len : Int) (trail : Pos) : Prop where
  long : ∀ a, r.snapshot = some a → (a.maximum : Int) < len → State.recorded s t (lengthFault .lengthLong r trail)
  short : ∀ a, r.snapshot = some a → len ≤ (a.maximum : Int) → len < (a.minimum : Int) →
    State.recorded s t (lengthFault .lengthShort r trail)
  quiet : (∀ a, r.snapshot = some a → len ≤ (a.maximum : Int) ∧ (a.minimum : Int) ≤ len) → t.faults = s.faults

/-- What the length check does, with the record as it finds it. -/
theorem State.lengthCheck_leaves {s : State} {r q : Piece} (hq : s.findPiece r.number = some q) (len : Int) (trail : Pos) :
    s.PiecesOnly (s.lengthCheck r len trail) ∧
      (s.lengthCheck r len trail).findPiece r.number = some (q.checked r.snapshot len) ∧
      s.LengthFaults (s.lengthCheck r len trail) r len trail := by
  have hreason (x : RejectReason) (c : FaultCode) :
      let u := (s.onPiece r.number fun q => q.withReason x).recordFault (lengthFault c r trail)
      s.PiecesOnly u ∧ u.findPiece r.number = some (q.withReason x) ∧ State.recorded s u (lengthFault c r trail) := by
    dsimp only
    rw [State.recordFault_eq_logFault _ _ (.inl (by simp [lengthFault]))]
    refine ⟨(s.onPiece_piecesOnly _ _).trans (State.logFault_piecesOnly _ _), ?_,
      State.recorded_after (u := s.onPiece r.number _) rfl rfl rfl (State.logFault_recorded _ _)⟩
    rw [State.logFault_findPiece, s.onPiece_findPiece _ _ (fun q => q.withReason_number x), if_pos rfl, hq]
    rfl
  cases ha : r.snapshot with
  | none =>
    have hsame : s.lengthCheck r len trail = s := by simp only [State.lengthCheck, ha]
    rw [hsame]
    exact ⟨.rfl' s, hq, fun a h => absurd (ha.symm.trans h) (by simp), fun a h => absurd (ha.symm.trans h) (by simp),
      fun _ => rfl⟩
  | some a =>
    have hsnap (b : ArticleData) (h : r.snapshot = some b) : b = a := Option.some.inj (h.symm.trans ha)
    by_cases hlong : (a.maximum : Int) < len
    · obtain ⟨honly, hfound, hrecorded⟩ := hreason .long .lengthLong
      have hcheck : s.lengthCheck r len trail =
          (s.onPiece r.number fun q => q.withReason .long).recordFault (lengthFault .lengthLong r trail) := by
        simp only [State.lengthCheck, ha, hlong, if_true, lengthFault]
      rw [hcheck]
      refine ⟨honly, by simpa only [Piece.checked, hlong, if_true] using hfound, fun _ _ _ => hrecorded, fun b hb hle => ?_,
        fun h => absurd hlong (not_lt.mpr (h a ha).1)⟩
      exact absurd hlong (not_lt.mpr (hsnap b hb ▸ hle))
    · by_cases hshort : len < (a.minimum : Int)
      · obtain ⟨honly, hfound, hrecorded⟩ := hreason .short .lengthShort
        have hcheck : s.lengthCheck r len trail =
            (s.onPiece r.number fun q => q.withReason .short).recordFault (lengthFault .lengthShort r trail) := by
          simp only [State.lengthCheck, ha, hlong, hshort, if_true, if_false, lengthFault]
        rw [hcheck]
        exact ⟨honly, by simpa only [Piece.checked, hlong, hshort, if_true, if_false] using hfound,
          fun b hb h => absurd (hsnap b hb ▸ h) hlong, fun _ _ _ _ => hrecorded,
          fun h => absurd hshort (not_lt.mpr (h a ha).2)⟩
      · have hsame : s.lengthCheck r len trail = s := by
          simp only [State.lengthCheck, ha, hlong, hshort, if_false]
        rw [hsame]
        exact ⟨.rfl' s, by simpa only [Piece.checked, hlong, hshort, if_false] using hq,
          fun b hb h => absurd (hsnap b hb ▸ h) hlong, fun b hb _ h => absurd (hsnap b hb ▸ h) hshort, fun _ => rfl⟩

/-- The tails that a record's lanes hold after its trail became final (R107). -/
def State.tailAfter (s : State) (r : Piece) (trail : Pos) (k : Lane) : Option Tail :=
  if r.anonymous then
    if k = r.lane ∧ (s.lane k).tail.all (fun x => decide (0 < (trail - x.pos).toInt)) = true then
      some { pos := trail, gap := s.mgmt.flow.trailGap, owner := r.number }
    else (s.lane k).tail
  else (s.lane k).tail.map fun x => if spanHas r.span k = true ∧ x.owner = r.number then { x with pos := trail } else x

theorem State.updateTails_blocks (s : State) (r : Piece) (t : Pos) : (s.updateTails r t).pieces = s.pieces ∧
    (s.updateTails r t).batch = s.batch := by
  unfold State.updateTails
  split
  · exact ⟨rfl, rfl⟩
  · exact foldl_keeps (R := fun a b : State => b.pieces = a.pieces ∧ b.batch = a.batch) (fun _ => ⟨rfl, rfl⟩)
      (f := fun u k => u.onLane k _) (fun h k => ⟨k.1.trans h.1, k.2.trans h.2⟩) (fun _ _ => ⟨rfl, rfl⟩) _ s

theorem State.updateTails_lane (s : State) (r : Piece) (t : Pos) (k : Lane) :
    (s.updateTails r t).lane k = { s.lane k with tail := s.tailAfter r t k } := by
  cases ha : r.anonymous with
  | true =>
    rw [State.updateTails, if_pos ha, State.tailAfter, if_pos ha]
    by_cases hk : k = r.lane
    · subst hk
      rw [State.onLane_lane_self]
      cases htail : (s.lane r.lane).tail with
      | none => simp
      | some x =>
        by_cases hpast : 0 < (t - x.pos).toInt
        · simp [posDiff, hpast, -BitVec.toInt_sub]
        · simp only [posDiff, hpast, if_false, Option.all_some, decide_false, Bool.false_eq_true, and_false]
          rw [← htail]
    · rw [State.onLane_lane_other _ _ hk]
      simp [hk]
  | false =>
    have hmoved (e : LaneEntry) : ∀ f : LaneEntry → LaneEntry,
        (f = fun e => { e with tail := e.tail.map fun q => if q.owner == r.number then { q with pos := t } else q }) →
        f (f e) = f e := by
      rintro f rfl
      simp only [Option.map_map]
      congr 2
      funext q
      simp only [Function.comp]
      split <;> simp_all
    rw [State.updateTails, if_neg (by simp [ha]), State.tailAfter, if_neg (by simp [ha]),
      (State.foldl_onLane _ (fun e => hmoved e _ rfl) _ s).2.2 k]
    simp only [mem_spanLanes]
    by_cases hk : spanHas r.span k = true
    · simp only [hk, if_true, true_and, beq_iff_eq]
    · simp [hk]

/-- What a final trail leaves of the record, the tails, the faults and the rest (R80 to R83, R107). -/
structure State.TrailFinal (s u : State) (r q : Piece) (lead trail : Pos) : Prop where
  found : u.findPiece r.number = some (Piece.checked { q with
    inletTrail := some trail, trailFinal := true, measured := some (posDiff trail lead), measurement := none }
    r.snapshot (posDiff trail lead))
  lanes : ∀ k, u.lane k = { s.lane k with tail := s.tailAfter r trail k }
  faults : s.LengthFaults u r (posDiff trail lead) trail
  lots : s.LotsOnly u
  batch : u.batch = s.batch

theorem State.finalTrail_final {s : State} {r q : Piece} {lead : Pos} (hq : s.findPiece r.number = some q)
    (hlead : r.inletLead = some lead) (trail : Pos) : s.TrailFinal (s.finalTrail r trail) r q lead trail := by
  obtain ⟨u, hu⟩ : ∃ u : State, u = s.onPiece r.number fun q =>
    { q with inletTrail := some trail, trailFinal := true, measured := some (posDiff trail lead), measurement := none } :=
    ⟨_, rfl⟩
  have hfirst : s.PiecesOnly u := hu ▸ s.onPiece_piecesOnly _ _
  have hfaults : u.faults = s.faults := by rw [hu]; rfl
  have hfound : u.findPiece r.number = some { q with
      inletTrail := some trail, trailFinal := true, measured := some (posDiff trail lead), measurement := none } := by
    rw [hu, s.onPiece_findPiece _ _ (by exact fun _ => rfl), if_pos rfl, hq]
    rfl
  obtain ⟨hsecond, hchecked, hlength⟩ := State.lengthCheck_leaves hfound (posDiff trail lead) trail
  have hfinal : s.finalTrail r trail = (u.lengthCheck r (posDiff trail lead) trail).updateTails r trail := by
    rw [State.finalTrail, hlead, Option.getD_some, hu]
  rw [hfinal]
  obtain ⟨w, hw⟩ : ∃ w : State, w = u.lengthCheck r (posDiff trail lead) trail := ⟨_, rfl⟩
  rw [← hw] at hsecond hchecked hlength ⊢
  have hboth := hfirst.trans hsecond
  have htails := w.updateTails_feedOnly r trail
  obtain ⟨hpieces, hbatch⟩ := w.updateTails_blocks r trail
  have hafter {f : Raised} (h : State.recorded u w f) : State.recorded s (w.updateTails r trail) f :=
    State.recorded_faults htails.faults (State.recorded_after hfaults hfirst.lots.travel (by rw [hfirst.lots.line]) h)
  refine ⟨(State.findPiece_congr hpieces _).trans hchecked, fun k => ?_, ⟨fun a ha h => hafter (hlength.long a ha h),
    fun a ha hle h => hafter (hlength.short a ha hle h), fun h => ?_⟩, hboth.lots.trans htails.lots, hbatch.trans hboth.batch⟩
  · have hlane : w.lane k = s.lane k := congrArg (fun f : FeedSequencer => f.lanes.get k) hboth.feed
    rw [State.updateTails_lane, State.tailAfter, State.tailAfter, hlane, hboth.lots.mgmt]
  · exact htails.faults.trans ((hlength.quiet h).trans hfaults)

/-- The same from a state that differs by the records alone. -/
theorem State.TrailFinal.from {s v u : State} {r q : Piece} {lead trail : Pos} (h : v.TrailFinal u r q lead trail)
    (honly : s.PiecesOnly v) (hfaults : v.faults = s.faults) : s.TrailFinal u r q lead trail := by
  have hafter {f : Raised} (h : State.recorded v u f) : State.recorded s u f :=
    State.recorded_after hfaults honly.lots.travel (by rw [honly.lots.line]) h
  refine ⟨h.found, fun k => ?_, ⟨fun a ha hl => hafter (h.faults.long a ha hl),
    fun a ha hle hl => hafter (h.faults.short a ha hle hl), fun hin => (h.faults.quiet hin).trans hfaults⟩,
    honly.lots.trans h.lots, h.batch.trans honly.batch⟩
  have hlane : v.lane k = s.lane k := congrArg (fun f : FeedSequencer => f.lanes.get k) honly.feed
  rw [h.lanes, State.tailAfter, State.tailAfter, hlane, honly.lots.mgmt]

end Sys2Proof.Machine

/-! SUPPORT. The obligation on trails and slip (R20, R53, R78 to R83, R90, R107). -/

namespace Sys2Proof.Machine

open Sys2Proof

/-! ### The tests of a measurement (R80, R81, R88) -/

section

variable {s : State} {n : Half} {r : Piece} {m : Measurement} {lead trail : Pos}

theorem State.inletClear_iff {sp : Span} : s.inletClear sp = true ↔
    ∀ l, spanHas sp l = true → s.eyeBlocked .inlet l = false := by
  simp only [State.inletClear, List.all_eq_true, mem_spanLanes, Bool.not_eq_true']

theorem State.testClearing_taken (hr : s.findPiece n = some r) (hm : r.measurement = some m) (htaken : m.taken = some trail)
    (hclear : s.inletClear r.span = true) : s.testClearing n = s.finalTrail r trail := by
  simp only [State.testClearing, hr, hm, htaken, hclear, if_true]

theorem State.testClearing_open (hr : s.findPiece n = some r) (hm : r.measurement = some m) (htaken : m.taken = none) :
    s.testClearing n = s := by
  simp only [State.testClearing, hr, hm, htaken]

/-- The expected trail of a record (R81). -/
theorem predictedTrail_eq (s : State) (r : Piece) (lead : Pos) :
    posAdd lead (s.lengthBasis r : Nat) = lead + BitVec.ofNat 32 (s.lengthBasis r) := rfl

theorem State.testLimit_predicted (hr : s.findPiece n = some r) (hm : r.measurement = some m) (hlead : r.inletLead = some lead)
    (htaken : m.taken = none) (hclear : s.inletClear r.span = true)
    (htrail : trail = lead + BitVec.ofNat 32 (s.lengthBasis r)) (hreached : 0 ≤ (s.travel.position - trail).toInt) :
    s.testLimit n = (s.onPiece n fun q => { q with doubt := true }).finalTrail r trail := by
  have hreaches : reaches s.travel.position (posAdd lead (s.lengthBasis r : Nat)) = true :=
    decide_eq_true (by rw [predictedTrail_eq, ← htrail]; exact hreached)
  simp only [State.testLimit, hr, hm, hlead, htaken, hclear, hreaches, Option.isNone_none, Bool.and_self, if_true]
  rw [predictedTrail_eq, htrail]

/-- The prediction of the trail is not due: a trail taken, an eye BLOCKED, or the expected trail ahead (R81). -/
def State.notPredicted (s : State) (r : Piece) (m : Measurement) (lead : Pos) : Prop :=
  m.taken ≠ none ∨ (∃ l, spanHas r.span l = true ∧ s.eyeBlocked .inlet l = true) ∨
    (s.travel.position - (lead + BitVec.ofNat 32 (s.lengthBasis r))).toInt < 0

theorem State.testLimit_limit (hr : s.findPiece n = some r) (hm : r.measurement = some m) (hlead : r.inletLead = some lead)
    (hnot : s.notPredicted r m lead) :
    s.testLimit n = if 0 < (s.travel.position - m.limit).toInt then s.finalTrail r m.limit else s := by
  have hno : (m.taken.isNone && s.inletClear r.span &&
      reaches s.travel.position (posAdd lead (s.lengthBasis r : Nat))) = false := by
    rcases hnot with htaken | ⟨l, hl, hblocked⟩ | hahead
    · have hfalse : m.taken.isNone = false := Bool.eq_false_iff.mpr fun h => htaken (Option.isNone_iff_eq_none.mp h)
      simp [hfalse]
    · have hfalse : s.inletClear r.span = false := by
        refine (Bool.eq_false_iff).mpr fun h => ?_
        rw [State.inletClear_iff.mp h l hl] at hblocked
        exact absurd hblocked (by simp)
      simp [hfalse]
    · have hfalse : reaches s.travel.position (posAdd lead (s.lengthBasis r : Nat)) = false :=
        decide_eq_false (by rw [predictedTrail_eq]; exact not_le.mpr hahead)
      simp [hfalse]
  by_cases hpast : 0 < (s.travel.position - m.limit).toInt
  · have hpasses : passes s.travel.position m.limit = true := decide_eq_true hpast
    simp only [State.testLimit, hr, hm, hlead, hno, hpasses, hpast, Bool.false_eq_true, if_true, if_false]
  · have hpasses : passes s.travel.position m.limit = false := decide_eq_false hpast
    simp only [State.testLimit, hr, hm, hlead, hno, hpasses, hpast, Bool.false_eq_true, if_false]

/-- The passage by prediction at a blind INLET (R88). -/
theorem State.testWindow_blindInlet {w : Window} (hr : s.findPiece n = some r) (hw : r.window = some w) (hk : w.kind = .inlet)
    (hblind : s.blind .inlet r.span = true) (hreached : 0 ≤ (s.travel.position - w.expected).toInt) :
    s.testWindow n = (s.onPiece r.number fun q =>
      { q with inletLead := some w.expected, doubt := true, state := .inIroner,
               window := some (s.exitWindow r.lane w.expected), measurement := none }).finalTrail
      { r with inletLead := some w.expected } (w.expected + BitVec.ofNat 32 (s.lengthBasis r)) := by
  have hreaches : reaches s.travel.position w.expected = true := decide_eq_true hreached
  simp only [State.testWindow, hr, hw, hk, hblind, hreaches, if_true]
  rfl

end

/-! ### The final trail's outcome -/

/-- A trail that becomes final, by clearing, by prediction or at the limit, with the record as it was then. -/
theorem State.trailFinal_of {s u : State} {n : Half} {r : Piece} {lead trail : Pos} (hr : s.findPiece n = some r)
    (h : (∃ m : Measurement, r.measurement = some m ∧ r.inletLead = some lead ∧
      ((m.taken = some trail ∧ (∀ l, spanHas r.span l = true → s.eyeBlocked .inlet l = false) ∧ u = s.testClearing n) ∨
        (m.taken = none ∧ (∀ l, spanHas r.span l = true → s.eyeBlocked .inlet l = false) ∧
          trail = lead + BitVec.ofNat 32 (s.lengthBasis r) ∧ 0 ≤ (s.travel.position - trail).toInt ∧ u = s.testLimit n) ∨
        (s.notPredicted r m lead ∧ trail = m.limit ∧ 0 < (s.travel.position - m.limit).toInt ∧ u = s.testLimit n))) ∨
      (∃ w : Window, r.window = some w ∧ w.kind = .inlet ∧ s.blind .inlet r.span = true ∧
        0 ≤ (s.travel.position - w.expected).toInt ∧ lead = w.expected ∧
        trail = lead + BitVec.ofNat 32 (s.lengthBasis r) ∧ u = s.testWindow n)) :
    ∃ q p : Piece, p.number = r.number ∧ p.anonymous = r.anonymous ∧ p.span = r.span ∧ p.lane = r.lane ∧
      p.snapshot = r.snapshot ∧ s.TrailFinal u p q lead trail := by
  obtain rfl : r.number = n := State.findPiece_number hr
  obtain ⟨m, hm, hlead, ⟨htaken, hclear, rfl⟩ | ⟨htaken, hclear, htrail, hreached, rfl⟩ | ⟨hnot, rfl, hpast, rfl⟩⟩ |
    ⟨w, hw, hk, hblind, hreached, rfl, rfl, rfl⟩ := h
  · rw [State.testClearing_taken hr hm htaken (State.inletClear_iff.mpr hclear)]
    exact ⟨r, r, rfl, rfl, rfl, rfl, rfl, State.finalTrail_final hr hlead trail⟩
  · rw [State.testLimit_predicted hr hm hlead htaken (State.inletClear_iff.mpr hclear) htrail hreached]
    have hdoubted : (s.onPiece r.number fun q => { q with doubt := true }).findPiece r.number =
        some { r with doubt := true } := by
      rw [s.onPiece_findPiece _ _ (by exact fun _ => rfl), if_pos rfl, hr]
      rfl
    exact ⟨_, r, rfl, rfl, rfl, rfl, rfl, (State.finalTrail_final hdoubted hlead trail).from (s.onPiece_piecesOnly _ _) rfl⟩
  · rw [State.testLimit_limit hr hm hlead hnot, if_pos hpast]
    exact ⟨r, r, rfl, rfl, rfl, rfl, rfl, State.finalTrail_final hr hlead m.limit⟩
  · rw [State.testWindow_blindInlet hr hw hk hblind hreached]
    obtain ⟨v, hv⟩ : ∃ v : State, v = s.onPiece r.number fun q =>
      { q with inletLead := some w.expected, doubt := true, state := .inIroner,
               window := some (s.exitWindow r.lane w.expected), measurement := none } := ⟨_, rfl⟩
    have hpassed : v.findPiece r.number = some { r with
        inletLead := some w.expected, doubt := true, state := .inIroner,
        window := some (s.exitWindow r.lane w.expected), measurement := none } := by
      rw [hv, s.onPiece_findPiece _ _ (by exact fun _ => rfl), if_pos rfl, hr]
      rfl
    have honly : s.PiecesOnly v := hv ▸ s.onPiece_piecesOnly _ _
    have hfaults : v.faults = s.faults := by rw [hv]; rfl
    rw [← hv]
    have hfinal := State.finalTrail_final (r := { r with inletLead := some w.expected }) (lead := w.expected)
      hpassed rfl (w.expected + BitVec.ofNat 32 (s.lengthBasis r))
    exact ⟨_, { r with inletLead := some w.expected }, rfl, rfl, rfl, rfl, rfl, hfinal.from honly hfaults⟩

/-- What the length check leaves of a record, but for the reason. -/
theorem Piece.checked_kept (q : Piece) (a : Option ArticleData) (len : Int) :
    (q.checked a len).inletTrail = q.inletTrail ∧ (q.checked a len).trailFinal = q.trailFinal ∧
      (q.checked a len).measured = q.measured ∧ (q.checked a len).measurement = q.measurement ∧
      (q.checked a len).doubt = q.doubt ∧ (q.checked a len).inletLead = q.inletLead ∧
      (q.checked a len).state = q.state ∧ (q.checked a len).window = q.window ∧
      (q.checked a len).reject = (if q.reject ≠ .none then q.reject
        else match a with
          | none => .none
          | some a => if (a.maximum : Int) < len then .long else if len < (a.minimum : Int) then .short else .none) := by
  have hreason (x : RejectReason) : (q.withReason x).inletTrail = q.inletTrail ∧ (q.withReason x).trailFinal = q.trailFinal ∧
      (q.withReason x).measured = q.measured ∧ (q.withReason x).measurement = q.measurement ∧
      (q.withReason x).doubt = q.doubt ∧ (q.withReason x).inletLead = q.inletLead ∧ (q.withReason x).state = q.state ∧
      (q.withReason x).window = q.window ∧ (q.withReason x).reject = if q.reject ≠ .none then q.reject else x := by
    unfold Piece.withReason
    by_cases h : q.reject = .none <;> simp [h]
  have hsame : q.reject = if q.reject ≠ .none then q.reject else .none := by
    by_cases h : q.reject = .none <;> simp [h]
  cases a with
  | none => exact ⟨rfl, rfl, rfl, rfl, rfl, rfl, rfl, rfl, hsame⟩
  | some a =>
    by_cases hlong : (a.maximum : Int) < len
    · simpa only [Piece.checked, hlong, if_true] using hreason .long
    · by_cases hshort : len < (a.minimum : Int)
      · simpa only [Piece.checked, hlong, hshort, if_true, if_false] using hreason .short
      · have hchecked : q.checked (some a) len = q := by simp only [Piece.checked, hlong, hshort, if_false]
        rw [hchecked]
        exact ⟨rfl, rfl, rfl, rfl, rfl, rfl, rfl, rfl, by simpa only [hlong, hshort, if_false] using hsame⟩

/-! ### Slip (R90) -/

theorem State.learnSlip_doubted {s : State} {n : Half} {r : Piece} (hr : s.findPiece n = some r) (hd : r.doubt = true) :
    s.learnSlip n = s := by
  simp only [State.learnSlip, hr, hd, if_true]

theorem State.learnSlip_learned {s : State} {n : Half} {r : Piece} {x i : Pos} (hr : s.findPiece n = some r)
    (hd : r.doubt = false) (hx : r.exitLead = some x) (hi : r.inletLead = some i) :
    s.learnSlip n = s.setSlip r.lane (posDiff x (posAdd i (s.mgmt.windows.ironer : Nat))) := by
  simp only [State.learnSlip, hr, hd, hx, hi, Bool.false_eq_true, if_false]

theorem clampSlip_abs (limit : Nat) (d : Int) : |clampSlip limit d| ≤ limit := by
  rw [clampSlip, abs_le]
  omega

/-- Settles O60: the taken trail, the final trail's tails and faults, the measured length, and the slip. -/
theorem slipLearned : Obligations.SlipLearned := by
  unfold Obligations.SlipLearned
  refine ⟨fun s t r pre post m lead hk hrecords hfirst hm hlead hspan hafter hpre => ?taken,
    fun s t h => State.takeClear_unused h, fun s u n r lead trail hr h => ?final,
    fun s n r m lead trail hr hm hlead hclear => ?clear, fun s n r m lead hr hm hlead hnot => ?limit,
    fun s n r x i hr hd hx hi => ?learned, fun s n r hr hd => State.learnSlip_doubted hr hd⟩
  case taken =>
    have hnotPassed : ¬ r.passedOver t := by
      rintro (h | h | h | ⟨x, hx, hle⟩)
      · exact absurd (hm.symm.trans h) (by simp)
      · exact absurd (hspan.symm.trans h) (by simp)
      · exact absurd (hlead.symm.trans h) (by simp)
      · obtain rfl : lead = x := Option.some.inj (hlead.symm.trans hx)
        exact absurd hafter (not_lt.mpr hle)
    have hfound := State.findPiece_first hrecords hfirst
    obtain ⟨u, hu⟩ : ∃ u : State, u = s.onPiece r.number fun q =>
      { q with inletTrail := some t.pos, measurement := q.measurement.map fun m => { m with taken := some t.pos } } := ⟨_, rfl⟩
    have honly : s.PiecesOnly u := hu ▸ s.onPiece_piecesOnly _ _
    have hfaults : u.faults = s.faults := by rw [hu]; rfl
    have htaken : u.findPiece r.number = some { r with
        inletTrail := some t.pos, measurement := some { m with taken := some t.pos } } := by
      rw [hu, s.onPiece_findPiece _ _ (by exact fun _ => rfl), if_pos rfl, hfound, Option.map_some, hm]
      rfl
    have hsettled := State.settleStale_doubted htaken t
    have hboth := honly.trans hsettled.only
    refine ⟨u.settleStale r.number t, ?_, hsettled.found, fun k hne => ?_, fun hstale hd => ?_, fun h => ?_, hboth.feed,
      hboth.lots.line, hboth.batch, hboth.lots.sameTracking, hboth.lots.lineOnly.track.sameOuter⟩
    · simp only [State.takeClear, hk, State.trailFor_first hrecords hpre hnotPassed]
      rw [hu]
    · rw [hsettled.others k hne, hu, s.onPiece_findPiece _ _ (by exact fun _ => rfl), if_neg hne]
    · exact State.recorded_after hfaults honly.lots.travel (by rw [honly.lots.line]) (hsettled.recorded hstale hd)
    · exact (hsettled.quiet h).trans hfaults
  case final =>
    obtain ⟨q, p, hnumber, hanonymous, hspan, hlane, hsnapshot, hfinal⟩ := State.trailFinal_of hr h
    have hn : p.number = n := hnumber.trans (State.findPiece_number hr)
    refine ⟨fun ha k => ?_, fun ha k => ?_, fun a hsnap => ⟨fun hl => ?_, fun hle hl => ?_, fun hle hge => ?_⟩, fun hsnap => ?_,
      hfinal.lots.line, hfinal.batch, hfinal.lots.sameTracking, hfinal.lots.lineOnly.track.sameOuter⟩
    · rw [hfinal.lanes k, State.tailAfter, if_neg (by simp [hanonymous, ha]), hspan, hn]
    · rw [hfinal.lanes k, State.tailAfter, if_pos (hanonymous.trans ha), hlane, hn]
    · rw [← hn, ← hlane]
      exact hfinal.faults.long a (hsnapshot.trans hsnap) hl
    · rw [← hn, ← hlane]
      exact hfinal.faults.short a (hsnapshot.trans hsnap) hle hl
    · refine hfinal.faults.quiet fun b hb => ?_
      obtain rfl : a = b := Option.some.inj (hsnap.symm.trans (hsnapshot.symm.trans hb))
      exact ⟨hle, hge⟩
    · exact hfinal.faults.quiet fun b hb => absurd (hsnap.symm.trans (hsnapshot.symm.trans hb)) (by simp)
  case clear =>
    obtain rfl : r.number = n := State.findPiece_number hr
    have hclear' := State.inletClear_iff.mpr hclear
    refine ⟨fun htaken => ?_, fun htaken => State.testClearing_open hr hm htaken, fun htaken htrail hreached => ?_⟩
    · have hfinal := State.finalTrail_final hr hlead trail
      rw [← State.testClearing_taken hr hm htaken hclear'] at hfinal
      obtain ⟨hinlet, htrailFinal, hmeasured, hmeasurement, hdoubt, -, -, -, hreject⟩ := Piece.checked_kept { r with
        inletTrail := some trail, trailFinal := true, measured := some (posDiff trail lead), measurement := none }
        r.snapshot (posDiff trail lead)
      exact ⟨_, hfinal.found, hinlet, htrailFinal, hmeasured, hmeasurement, hdoubt, hreject⟩
    · have hdoubted : (s.onPiece r.number fun q => { q with doubt := true }).findPiece r.number =
          some { r with doubt := true } := by
        rw [s.onPiece_findPiece _ _ (by exact fun _ => rfl), if_pos rfl, hr]
        rfl
      have hfinal := State.finalTrail_final hdoubted hlead trail
      rw [← State.testLimit_predicted hr hm hlead htaken hclear' htrail hreached] at hfinal
      obtain ⟨hinlet, htrailFinal, hmeasured, hmeasurement, hdoubt, -⟩ := Piece.checked_kept { r with
        doubt := true, inletTrail := some trail, trailFinal := true, measured := some (posDiff trail lead),
        measurement := none } r.snapshot (posDiff trail lead)
      exact ⟨_, hfinal.found, hinlet, htrailFinal, hmeasured, hmeasurement, hdoubt⟩
  case limit =>
    obtain rfl : r.number = n := State.findPiece_number hr
    have htest := State.testLimit_limit hr hm hlead hnot
    refine ⟨fun hpast => ?_, fun hnear => by rw [htest, if_neg (not_lt.mpr hnear)]⟩
    rw [htest, if_pos hpast]
    obtain ⟨hinlet, htrailFinal, hmeasured, hmeasurement, hdoubt, -⟩ := Piece.checked_kept { r with
      inletTrail := some m.limit, trailFinal := true, measured := some (posDiff m.limit lead), measurement := none }
      r.snapshot (posDiff m.limit lead)
    exact ⟨_, (State.finalTrail_final hr hlead m.limit).found, hinlet, htrailFinal, hmeasured, hmeasurement, hdoubt⟩
  case learned =>
    rw [State.learnSlip_learned hr hd hx hi]
    have hown : (s.setSlip r.lane (posDiff x (posAdd i (s.mgmt.windows.ironer : Nat)))).matcher.slip.get r.lane = _ :=
      PerLane.get_set_self _ _ _
    exact ⟨hown, by rw [hown]; exact clampSlip_abs _ _, fun l hl => PerLane.get_set_other _ _ hl⟩

end Sys2Proof.Machine

/-! SUPPORT. Candidates, absorption and orphans of a BLOCK transition (R45, R50, R51, R69, R70, R74 to R77). -/

namespace Sys2Proof.Machine

open Sys2Proof

/-! ### Candidates, and the nearest of them (R70) -/

theorem Piece.windowHolds_iff {r : Piece} {k : Checkpoint} {p : Pos} : r.windowHolds k p = true ↔
    ∃ w : Window, r.window = some w ∧ w.kind = k ∧ 0 ≤ (p - w.openPt).toInt ∧ 0 ≤ (w.closePt - p).toInt := by
  cases hw : r.window with
  | none => simp [Piece.windowHolds, hw]
  | some w =>
    simp only [Piece.windowHolds, hw, within, posDiff, Bool.and_eq_true, beq_iff_eq, Option.some.injEq, exists_eq_left']
    exact and_congr_right fun _ => and_congr decide_eq_true_iff decide_eq_true_iff

theorem State.mem_candidates {s : State} {t : Transition} {r : Piece} : r ∈ s.candidates t ↔
    r ∈ s.pieces.records ∧ spanHas r.span t.lane = true ∧ r.windowHolds t.kind t.pos = true := by
  rw [State.candidates, List.mem_filter, Bool.and_eq_true]

theorem nearest_ne_nil (p : Pos) {l : List Piece} (h : l ≠ []) : ∃ r, nearest p l = some r := by
  cases l with
  | nil => exact absurd rfl h
  | cons r rest =>
    unfold nearest
    split
    · exact ⟨r, rfl⟩
    · split <;> exact ⟨_, rfl⟩

/-- The nearest lies nearer than every one before it, and no further than any behind it. -/
theorem nearest_first (p : Pos) {l : List Piece} {r : Piece} (h : nearest p l = some r) :
    ∃ pre post : List Piece, l = pre ++ r :: post ∧ (∀ q ∈ pre, |r.deviation p| < |q.deviation p|) ∧
      ∀ q ∈ post, |r.deviation p| ≤ |q.deviation p| := by
  induction l generalizing r with
  | nil => exact absurd h (by simp [nearest])
  | cons a rest ih =>
    unfold nearest at h
    split at h
    next hnone =>
      have hempty : rest = [] := by
        by_contra hne
        obtain ⟨q, hq⟩ := nearest_ne_nil p hne
        exact absurd (hnone.symm.trans hq) (by simp)
      obtain rfl := Option.some.inj h
      exact ⟨[], rest, rfl, by simp, by simp [hempty]⟩
    next q hq =>
      obtain ⟨pre, post, hsplit, hpre, hpost⟩ := ih hq
      split at h
      next hle =>
        obtain rfl := Option.some.inj h
        refine ⟨[], rest, rfl, by simp, fun x hx => ?_⟩
        rw [hsplit] at hx
        rcases List.mem_append.mp hx with hx | hx
        · exact hle.trans (hpre x hx).le
        · rcases List.mem_cons.mp hx with rfl | hx
          · exact hle
          · exact hle.trans (hpost x hx)
      next hnot =>
        obtain rfl := Option.some.inj h
        refine ⟨a :: pre, post, by rw [hsplit]; rfl, fun x hx => ?_, hpost⟩
        rcases List.mem_cons.mp hx with rfl | hx
        · exact not_le.mp hnot
        · exact hpre x hx

theorem Piece.deviation_eq (q : Piece) (p : Pos) :
    q.deviation p = match q.window with | none => 0 | some w => (p - w.expected).toInt := rfl

/-! ### Two doubt faults one after the other (R20, R70, R75) -/

/-- From s to t fault f is recorded where `b` holds, else fault g where `c` does, and none where the doubt mark was set
already (`d`) or neither holds. -/
structure State.NotesTwo (s t : State) (d b c : Bool) (f g : Raised) : Prop where
  first : b = true → d = false → State.recorded s t f
  second : b = false → c = true → d = false → State.recorded s t g
  quiet : d = true ∨ (b = false ∧ c = false) → t.faults = s.faults

theorem State.NotesTwo.congr {s t v : State} {d b c : Bool} {f g : Raised} (h : s.NotesTwo v d b c f g)
    (hfaults : t.faults = v.faults) : s.NotesTwo t d b c f g :=
  ⟨fun hb hd => State.recorded_faults hfaults (h.first hb hd),
    fun hb hc hd => State.recorded_faults hfaults (h.second hb hc hd), fun hq => hfaults.trans (h.quiet hq)⟩

/-- A record changed, then two doubt marks for causes that may hold. -/
theorem State.doubtedTwice {s u v w : State} {n : Half} {r : Piece} {b c : Bool} {f g : Raised} (honly : s.PiecesOnly u)
    (hfaults : u.faults = s.faults) (hfirst : u.DoubtedIf v n r b f)
    (hsecond : v.DoubtedIf w n { r with doubt := r.doubt || b } c g) :
    s.PiecesOnly w ∧ w.findPiece n = some { r with doubt := r.doubt || b || c } ∧ s.NotesTwo w r.doubt b c f g := by
  have hboth := honly.trans hfirst.only
  have htravel := honly.lots.travel
  have hline : (u.line.state == .suspect) = (s.line.state == .suspect) := by rw [honly.lots.line]
  have hline' : (v.line.state == .suspect) = (s.line.state == .suspect) := by rw [hboth.lots.line]
  refine ⟨hboth.trans hsecond.only, hsecond.found, fun hb hd => ?_, fun hb hc hd => ?_, fun h => ?_⟩
  · exact State.recorded_faults (hsecond.quiet (.inr (by simp [hb])))
      (State.recorded_after hfaults htravel hline (hfirst.recorded hb hd))
  · exact State.recorded_after ((hfirst.quiet (.inl hb)).trans hfaults) hboth.lots.travel hline'
      (hsecond.recorded hc (by simp [hb, hd]))
  · refine (hsecond.quiet ?_).trans ((hfirst.quiet ?_).trans hfaults)
    · exact h.elim (fun hd => .inr (by simp [hd])) fun hbc => .inl hbc.2
    · exact h.elim .inr fun hbc => .inl hbc.1

/-! ### Absorption (R75) -/

/-- The fault of an owed edge past the skew tolerance (R75). -/
def Transition.skewFault (t : Transition) (n : Half) : Raised :=
  { code := .skew, severity := .doubt, piece := some n, site := t.site, position := some t.pos }

theorem spanErase_eq (sp : Span) (l : Lane) : spanErase sp l = sp &&& ~~~(1#4 <<< (l.number - 1)) := rfl

theorem spanHas_spanErase (sp : Span) (l k : Lane) : spanHas (spanErase sp l) k = (spanHas sp k && !decide (k = l)) := by
  have hone : (spanOf l).getLsbD (k.number - 1) = decide (k = l) := by cases l <;> cases k <;> decide
  have hin : k.number - 1 < 4 := by cases k <;> decide
  simp only [spanHas, spanErase, BitVec.getLsbD_and, BitVec.getLsbD_not, hone, hin, decide_true, Bool.true_and]

/-- A lane that is not in a span leaves it as it is. -/
theorem spanErase_absent {sp : Span} {l : Lane} (h : spanHas sp l = false) : spanErase sp l = sp := by
  refine span_eq_iff.mpr fun k => ?_
  rw [spanHas_spanErase]
  by_cases hk : k = l
  · rw [hk, h, Bool.false_and]
  · simp [hk]

/-- What a record owes is its measurement's at INLET and its absorption's elsewhere (R74, R79). -/
theorem Piece.dropOwed_eq (r : Piece) (k : Checkpoint) (l : Lane) : r.dropOwed k l = { r with
    measurement := if k = .inlet then r.measurement.map fun m => { m with owed := spanErase m.owed l } else r.measurement
    absorption := if k = .inlet then r.absorption else r.absorption.map fun a => { a with owed := spanErase a.owed l } } := by
  cases k <;> rfl

section

variable {s : State} {r : Piece} {t : Transition} {owed : Span} {m0 : Pos}

/-- What is owed and since when, by the checkpoint (R74, R75, R79). -/
def Piece.owes (r : Piece) (k : Checkpoint) (owed : Span) (m0 : Pos) : Prop :=
  (k = .inlet ∧ r.inletLead = some m0 ∧ ∃ m, r.measurement = some m ∧ m.owed = owed) ∨
    (k ≠ .inlet ∧ ∃ a, r.absorption = some a ∧ a.matchPos = m0 ∧ a.owed = owed)

theorem Piece.owes_at {k : Checkpoint} (h : r.owes k owed m0) : r.owedAt k = owed ∧ r.matchPosAt k = some m0 := by
  rcases h with ⟨rfl, hlead, m, hm, rfl⟩ | ⟨hk, a, ha, rfl, rfl⟩
  · exact ⟨by simp [Piece.owedAt, hm], hlead⟩
  · cases k with
    | inlet => exact absurd rfl hk
    | laneExit => exact ⟨by simp [Piece.owedAt, ha], by simp [Piece.matchPosAt, ha]⟩
    | exit => exact ⟨by simp [Piece.owedAt, ha], by simp [Piece.matchPosAt, ha]⟩

theorem Piece.dropOwed_absent {k : Checkpoint} {l : Lane} (h : r.owes k owed m0) (hnot : spanHas owed l = false) :
    r.dropOwed k l = r := by
  rw [Piece.dropOwed_eq]
  rcases h with ⟨rfl, -, m, hm, rfl⟩ | ⟨hk, a, ha, -, rfl⟩
  · simp only [if_true, hm, Option.map_some, spanErase_absent hnot]
    rw [← hm]
  · simp only [hk, if_false, ha, Option.map_some, spanErase_absent hnot]
    rw [← ha]

/-- An edge absorbed: the lane is owed no more, and doubt where it was owed past the skew, or is stale. -/
theorem State.absorb_leaves (hr : s.findPiece r.number = some r) (howes : r.owes t.kind owed m0) {skewed : Bool}
    (hskewed : skewed = (spanHas owed t.lane && decide ((s.mgmt.windows.skew : Int) < |(t.pos - m0).toInt|))) :
    (s.absorb r t).findPiece r.number =
      some { r.dropOwed t.kind t.lane with doubt := r.doubt || skewed || t.stale } ∧
    s.NotesTwo (s.absorb r t) r.doubt skewed t.stale (t.skewFault r.number) (t.staleFault r.number) := by
  obtain ⟨hat, hpos⟩ := Piece.owes_at howes
  cases hlane : spanHas owed t.lane with
  | false =>
    have hskew : skewed = false := by rw [hskewed, hlane]; rfl
    have habsorbed : s.absorb r t = s.settleStale r.number t := by
      rw [State.absorb, hat, if_neg (by simp [hlane])]
    have hfirst := State.doubtedIf (f := t.skewFault r.number) hr (by simp [Transition.skewFault]) skewed
    rw [if_neg (by simp [hskew])] at hfirst
    obtain ⟨-, hfound, hnotes⟩ := State.doubtedTwice (.rfl' s) rfl hfirst (State.settleStale_doubted hfirst.found t)
    rw [habsorbed, Piece.dropOwed_absent howes hlane]
    exact ⟨hfound, hnotes⟩
  | true =>
    obtain ⟨u, hu⟩ : ∃ u : State, u = s.onPiece r.number fun q => q.dropOwed t.kind t.lane := ⟨_, rfl⟩
    have hnumber (q : Piece) : (q.dropOwed t.kind t.lane).number = q.number := by rw [Piece.dropOwed_eq]
    have hdropped : u.findPiece r.number = some (r.dropOwed t.kind t.lane) := by
      rw [hu, s.onPiece_findPiece _ _ hnumber, if_pos rfl, hr]
      rfl
    have hskew : s.skewed r t = skewed := by
      rw [hskewed, hlane, Bool.true_and, State.skewed, hpos]
      rfl
    have habsorbed : s.absorb r t =
        (if skewed = true then u.doubtWith r.number (t.skewFault r.number) else u).settleStale r.number t := by
      rw [State.absorb, hat, if_pos hlane, ← hskew, hu]
      rfl
    have hdoubt : (r.dropOwed t.kind t.lane).doubt = r.doubt := by rw [Piece.dropOwed_eq]
    have hfirst := State.doubtedIf (f := t.skewFault r.number) hdropped (by simp [Transition.skewFault]) skewed
    obtain ⟨-, hfound, hnotes⟩ := State.doubtedTwice (hu ▸ s.onPiece_piecesOnly _ _) (by rw [hu]; rfl) hfirst
      (State.settleStale_doubted hfirst.found t)
    rw [habsorbed, ← hdoubt]
    exact ⟨hfound, hnotes⟩

end

end Sys2Proof.Machine

/-! SUPPORT. Orphans, matches and the hand-over of a BLOCK transition (R43, R45, R50, R51, R66, R67, R71 to R77, R137). -/

namespace Sys2Proof.Machine

open Sys2Proof

/-! ### The hand-over (R137, R139, R140) -/

theorem State.onPiece_numbers (s : State) (n : Half) {f : Piece → Piece} (hf : ∀ q, (f q).number = q.number) :
    (s.onPiece n f).pieces.records.map (fun q => q.number) = s.pieces.records.map fun q => q.number := by
  have hsame : (fun q : Piece => q.number) ∘ (fun r => if r.number == n then f r else r) = fun q => q.number := by
    funext r
    simp only [Function.comp]
    split
    · rw [hf]
    · rfl
  rw [State.onPiece, State.onPieces]
  simp only [List.map_map, hsame]

/-- What the hand-over leaves of the record, the table and the faults. -/
structure State.HandsOver (s t : State) (n : Half) (r q : Piece) : Prop where
  found : t.findPiece n = some q
  kept : q = { r with ticket := q.ticket, ticketSlot := q.ticketSlot, reject := q.reject, deadline := q.deadline }
  ticket : q.ticket = .sent ∨ q.ticket = .pending
  reject : r.reject ≠ .none → q.reject = r.reject
  matcher : t.matcher = s.matcher
  faults : t.faults = s.faults
  numbers : t.pieces.records.map (fun q => q.number) = s.pieces.records.map fun q => q.number
  counter : t.pieces.counter = s.pieces.counter

theorem State.handOver_handsOver {s : State} {n : Half} {r : Piece} (hr : s.findPiece n = some r) :
    ∃ q, s.HandsOver (s.handOver n) n r q := by
  obtain rfl : r.number = n := State.findPiece_number hr
  have hassigned (m : SlotName) : ∃ q, s.HandsOver (s.assignSlot r.lane m r) r.number r q := by
    refine ⟨{ r with ticketSlot := some (r.lane, m), reject := (programChoice r).2, ticket := .sent, deadline := none },
      ?_, rfl, .inl rfl, fun h => ?_, rfl, rfl, ?_, rfl⟩
    · rw [State.assignSlot_findPiece, hr]
      rfl
    · simp [programChoice, h]
    · exact (s.onChannel r.lane _).onPiece_numbers r.number (by exact fun _ => rfl)
  by_cases hpointer : (s.channel r.lane).owner (s.channel r.lane).next = none
  · rw [State.handOver_pointer hr hpointer]
    exact hassigned _
  · by_cases hother : (s.channel r.lane).owner (s.channel r.lane).next.other = none
    · rw [State.handOver_other hr hpointer hother]
      exact hassigned _
    · have hboth : (s.channel r.lane).owner .x ≠ none ∧ (s.channel r.lane).owner .y ≠ none := by
        cases hnext : (s.channel r.lane).next <;> rw [hnext] at hpointer hother
        · exact ⟨hpointer, hother⟩
        · exact ⟨hother, hpointer⟩
      rw [State.handOver_pending hr hboth.1 hboth.2]
      refine ⟨{ r with ticket := .pending, deadline := r.exitLead.map fun p => posAdd p ((s.lane r.lane).cfg.arming : Nat) },
        ?_, rfl, .inr rfl, fun _ => rfl, rfl, rfl, ?_, rfl⟩
      · rw [s.onPiece_findPiece _ _ (by exact fun _ => rfl), if_pos rfl, hr]
        rfl
      · exact s.onPiece_numbers r.number (by exact fun _ => rfl)

/-! ### Orphans (R50, R51, R76, R77) -/

section

variable {s : State} {t : Transition}

theorem State.takeBlock_orphan (hnone : s.candidates t = [])
    (habsorb : ∀ r ∈ s.pieces.records, r.canAbsorb t.kind t.lane = false) : s.takeBlock t = s.orphan t := by
  have hfind : (s.pieces.records.find? fun r => r.canAbsorb t.kind t.lane) = none :=
    List.find?_eq_none.mpr fun r hr => by simp [habsorb r hr]
  simp only [State.takeBlock, hnone, nearest, hfind]

theorem State.newNumber_absent (hroom : s.tableFull = false) : s.findPiece s.newNumber = none :=
  List.find?_eq_none.mpr fun r hr => by simpa using State.newNumber_free hroom r hr

theorem State.addRecord_findPiece {r : Piece} (hroom : s.tableFull = false) (hnumber : r.number = s.newNumber) :
    (s.addRecord r).findPiece r.number = some r := by
  obtain ⟨pre, post, hsplit, hinserted, -⟩ := insertRecord_split r s.pieces.records
  exact State.findPiece_first (s := s.addRecord r) hinserted fun q hq =>
    hnumber ▸ State.newNumber_free hroom q (hsplit ▸ List.mem_append_left _ hq)

theorem State.orphan_laneExit (hk : t.kind = .laneExit) : s.orphan t =
    ((s.countOrphan .laneExit).logFault { code := .orphanLane, severity := .noted, piece := none, site := t.site,
                                          position := some t.pos }, 0) := by
  simp only [State.orphan, hk]
  rw [State.recordFault_eq_logFault _ _ (.inl (by simp))]

/-- The fault of an orphan at INLET or EXIT (R77). -/
def Transition.orphanFault (t : Transition) (c : FaultCode) (n : Half) : Raised :=
  { code := c, severity := .piece, piece := some n, site := t.site, position := some t.pos }

theorem State.orphan_inlet (hk : t.kind = .inlet) (hroom : s.tableFull = false) : s.orphan t =
    (((s.countOrphan .inlet).addRecord (s.inletOrphan t)).logFault (t.orphanFault .orphanInlet s.newNumber),
      s.newNumber) := by
  have hfull : (s.countOrphan .inlet).tableFull = false := hroom
  simp only [State.orphan, hk, hfull, Bool.false_eq_true, if_false]
  rw [State.recordFault_eq_logFault _ _ (.inl (by simp))]
  rfl

theorem State.orphan_exit (hk : t.kind = .exit) (hroom : s.tableFull = false) : s.orphan t =
    ((((s.countOrphan .exit).addRecord (s.exitOrphan t)).logFault
      (t.orphanFault .orphanExit s.newNumber)).handOver s.newNumber, s.newNumber) := by
  have hfull : (s.countOrphan .exit).tableFull = false := hroom
  simp only [State.orphan, hk, hfull, Bool.false_eq_true, if_false]
  rw [State.recordFault_eq_logFault _ _ (.inl (by simp))]
  rfl

theorem State.orphan_full (hk : t.kind ≠ .laneExit) (hfull : s.tableFull = true) : s.orphan t =
    ((s.countOrphan t.kind).tableFullFault t, 0) := by
  have hfull' : (s.countOrphan t.kind).tableFull = true := by cases t.kind <;> exact hfull
  cases hkind : t.kind with
  | laneExit => exact absurd hkind hk
  | inlet => rw [hkind] at hfull'; simp only [State.orphan, hkind, hfull', if_true]
  | exit => rw [hkind] at hfull'; simp only [State.orphan, hkind, hfull', if_true]

/-- The record of an orphan, its fault recorded: found under its number, created, and no other number taken. -/
theorem State.orphaned {k : Checkpoint} {r : Piece} (hroom : s.tableFull = false) (hnumber : r.number = s.newNumber)
    (f : Raised) {u : State} (hu : u = ((s.countOrphan k).addRecord r).logFault f) :
    u.findPiece s.newNumber = some r ∧ u.matcher = (s.countOrphan k).matcher ∧ State.recorded s u f ∧
      (∀ v : State, v.pieces.counter = u.pieces.counter →
        v.pieces.records.map (fun q => q.number) = u.pieces.records.map (fun q => q.number) →
        State.creates s v r.number r.orderKey) := by
  have hcounted : (s.countOrphan k).pieces = s.pieces ∧ (s.countOrphan k).faults = s.faults ∧
      (s.countOrphan k).travel = s.travel ∧ (s.countOrphan k).line = s.line := by
    cases k <;> exact ⟨rfl, rfl, rfl, rfl⟩
  obtain ⟨hpieces, hfaults, htravel, hline⟩ := hcounted
  have hnumber' : r.number = (s.countOrphan k).newNumber := by rw [State.newNumber, hpieces]; exact hnumber
  have hroom' : (s.countOrphan k).tableFull = false := by rw [State.tableFull, hpieces]; exact hroom
  obtain ⟨hupieces, -⟩ := ((s.countOrphan k).addRecord r).logFault_blocks f
  rw [← hu] at hupieces
  refine ⟨?_, ?_, ?_, fun v hcounter hrecords => ?_⟩
  · rw [State.findPiece_congr hupieces, ← hnumber]
    exact State.addRecord_findPiece hroom' hnumber'
  · rw [hu]
    exact (State.logFault_lotsOnly _ f).matcher
  · rw [hu]
    exact State.recorded_after (u := (s.countOrphan k).addRecord r) hfaults htravel (congrArg (fun q : LineControl => q.state == .suspect) hline)
      (State.logFault_recorded _ f)
  · refine State.creates_of hroom hnumber ?_ ?_
    · rw [hcounter, hupieces]
      rfl
    · rw [hrecords, hupieces, State.addRecord, State.onPieces, hpieces]

end

/-! ### Windows (R66, R67) -/

theorem windowAround_eq (k : Checkpoint) (expected : Pos) (tol : Nat) : windowAround k expected tol =
    { kind := k, openPt := expected - BitVec.ofNat 32 tol, expected := expected,
      closePt := expected + BitVec.ofNat 32 tol } := by
  have hopen : posAdd expected (-(tol : Int)) = expected - BitVec.ofNat 32 tol := by
    rw [posAdd, BitVec.ofInt_neg, BitVec.sub_eq_add_neg]
    rfl
  rw [windowAround, hopen]
  rfl

/-! ### Matches (R69 to R73) -/

/-- The fault of a match with more than one candidate (R70). -/
def Transition.ambiguousFault (t : Transition) (n : Half) : Raised :=
  { code := .ambiguous, severity := .doubt, piece := some n, site := t.site, position := some t.pos }

section

variable {s : State} {t : Transition}

theorem State.takeBlock_matched {r : Piece} (h : nearest t.pos (s.candidates t) = some r) :
    s.takeBlock t = (s.matchTo r (decide (1 < (s.candidates t).length)) t, r.number) := by
  simp only [State.takeBlock, h]

/-- The steps that every match makes: the record changed, the doubt marks settled, the record changed again. -/
def State.matching (s : State) (n : Half) (A B : Piece → Piece) (several : Bool) (t : Transition) : State :=
  (((s.onPiece n A).settleAmbiguity n several t).settleStale n t).onPiece n B

/-- What they leave: the record with its doubt mark, and the faults. -/
theorem State.matching_leaves {n : Half} {A B : Piece → Piece} {several : Bool} {r : Piece}
    (hA : ∀ q, (A q).number = q.number ∧ (A q).doubt = q.doubt) (hB : ∀ q, (B q).number = q.number)
    (hr : s.findPiece n = some r) : s.PiecesOnly (s.matching n A B several t) ∧
    (s.matching n A B several t).findPiece n = some (B { A r with doubt := r.doubt || several || t.stale }) ∧
    s.NotesTwo (s.matching n A B several t) r.doubt several t.stale (t.ambiguousFault n) (t.staleFault n) := by
  obtain ⟨u, hu⟩ : ∃ u : State, u = s.onPiece n A := ⟨_, rfl⟩
  have hchanged : u.findPiece n = some (A r) := by
    rw [hu, s.onPiece_findPiece _ _ (fun q => (hA q).1), if_pos rfl, hr]
    rfl
  have hfirst := State.doubtedIf (f := t.ambiguousFault n) hchanged (by simp [Transition.ambiguousFault]) several
  obtain ⟨honly, hfound, hnotes⟩ := State.doubtedTwice (hu ▸ s.onPiece_piecesOnly _ _) (by rw [hu]; rfl) hfirst
    (State.settleStale_doubted hfirst.found t)
  obtain ⟨w, hw⟩ : ∃ w : State, w =
      (if several = true then u.doubtWith n (t.ambiguousFault n) else u).settleStale n t := ⟨_, rfl⟩
  rw [← hw] at honly hfound hnotes
  have hmatching : s.matching n A B several t = w.onPiece n B := by rw [hw, hu]; rfl
  rw [(hA r).2] at hfound hnotes
  rw [hmatching]
  refine ⟨honly.trans (w.onPiece_piecesOnly _ _), ?_, hnotes.congr rfl⟩
  rw [w.onPiece_findPiece _ _ hB, if_pos rfl, hfound]
  rfl

/-- The state of a match at LANE_EXIT, its lane at rest and the evaluation of R99 still to come (R71). -/
def State.leftLane (s : State) (r : Piece) (several : Bool) (t : Transition) : State :=
  (s.matching r.number (fun q => { q with laneExitLead := some t.pos, devLaneExit := some (r.deviation t.pos) })
    (fun q => { q with state := .onFeed, window := some (s.inletWindow r.lane t.pos),
                       absorption := some (s.newAbsorption r .laneExit t.pos (spanErase r.span t.lane)) })
    several t).withoutRequest r.lane

/-- The match at LANE_EXIT (R71, R115). -/
theorem State.matchLaneExit_leaves {r r0 : Piece} {several : Bool} (hr : s.findPiece r.number = some r0) :
    s.matchLaneExit r several t = (s.leftLane r several t).evaluate ∧
    (s.leftLane r several t).feed = (s.withoutRequest r.lane).feed ∧
    (s.leftLane r several t).findPiece r.number = some { r0 with
      state := .onFeed, laneExitLead := some t.pos, devLaneExit := some (r.deviation t.pos)
      window := some (s.inletWindow r.lane t.pos)
      absorption := some (s.newAbsorption r .laneExit t.pos (spanErase r.span t.lane))
      doubt := r0.doubt || several || t.stale } ∧
    (s.leftLane r several t).line = s.line ∧ (s.leftLane r several t).batch = s.batch ∧
    (s.leftLane r several t).matcher = s.matcher ∧
    s.NotesTwo (s.leftLane r several t) r0.doubt several t.stale (t.ambiguousFault r.number) (t.staleFault r.number) := by
  obtain ⟨honly, hfound, hnotes⟩ := State.matching_leaves (t := t) (several := several)
    (A := fun q => { q with laneExitLead := some t.pos, devLaneExit := some (r.deviation t.pos) })
    (B := fun q => { q with state := .onFeed, window := some (s.inletWindow r.lane t.pos),
                            absorption := some (s.newAbsorption r .laneExit t.pos (spanErase r.span t.lane)) })
    (fun _ => ⟨rfl, rfl⟩) (fun _ => rfl) hr
  refine ⟨rfl, ?_, hfound, honly.lots.line, honly.batch, honly.lots.matcher, hnotes.congr rfl⟩
  exact congrArg (fun q : FeedSequencer => { q with
    lanes := q.lanes.set r.lane { q.lanes.get r.lane with run := .idle, request := none }
    order := q.order.filter (· != r.lane) }) honly.feed

/-- The match at INLET (R72). -/
theorem State.matchInlet_leaves {r r0 : Piece} {several : Bool} (hr : s.findPiece r.number = some r0) :
    (s.matchInlet r several t).findPiece r.number = some { r0 with
      state := .inIroner, inletLead := some t.pos, devInlet := some (r.deviation t.pos)
      window := some (s.exitWindow r.lane t.pos)
      measurement := some (s.newMeasurement r t.pos (spanErase r.span t.lane))
      doubt := r0.doubt || several || t.stale } ∧
    (s.matchInlet r several t).matcher = s.matcher ∧
    s.NotesTwo (s.matchInlet r several t) r0.doubt several t.stale (t.ambiguousFault r.number) (t.staleFault r.number) := by
  obtain ⟨honly, hfound, hnotes⟩ := State.matching_leaves (t := t) (several := several)
    (A := fun q => { q with inletLead := some t.pos, devInlet := some (r.deviation t.pos) })
    (B := fun q => { q with state := .inIroner, window := some (s.exitWindow r.lane t.pos),
                            measurement := some (s.newMeasurement r t.pos (spanErase r.span t.lane)) })
    (fun _ => ⟨rfl, rfl⟩) (fun _ => rfl) hr
  exact ⟨hfound, honly.lots.matcher, hnotes⟩

/-- The record of a match at EXIT before it is handed over (R73). -/
def State.exited (s : State) (r r0 : Piece) (several : Bool) (t : Transition) : Piece :=
  { r0 with
    state := .atFolder, exitLead := some t.pos, devExit := some (r.deviation t.pos), window := none
    absorption := some (s.newAbsorption r .exit t.pos (spanErase r.span t.lane))
    doubt := r0.doubt || several || t.stale }

theorem State.learnSlip_kept (s : State) (n : Half) : (s.learnSlip n).pieces = s.pieces ∧ (s.learnSlip n).faults = s.faults := by
  unfold State.learnSlip
  split
  · exact ⟨rfl, rfl⟩
  · split
    · exact ⟨rfl, rfl⟩
    · split <;> exact ⟨rfl, rfl⟩

/-- The match at EXIT: the slip learned, and the record handed over (R73, R90, R137). -/
theorem State.matchExit_leaves {r r0 : Piece} {several : Bool} (hr : s.findPiece r.number = some r0) :
    ∃ (v : State) (q : Piece), v.findPiece r.number = some (s.exited r r0 several t) ∧ v.matcher = s.matcher ∧ v.mgmt = s.mgmt ∧
      (s.matchExit r several t).findPiece r.number = some q ∧
      q = { s.exited r r0 several t with ticket := q.ticket, ticketSlot := q.ticketSlot, reject := q.reject, deadline := q.deadline } ∧
      (q.ticket = .sent ∨ q.ticket = .pending) ∧
      (s.matchExit r several t).matcher = (v.learnSlip r.number).matcher ∧
      s.NotesTwo (s.matchExit r several t) r0.doubt several t.stale (t.ambiguousFault r.number) (t.staleFault r.number) := by
  obtain ⟨honly, hfound, hnotes⟩ := State.matching_leaves (t := t) (several := several)
    (A := fun q => { q with exitLead := some t.pos, devExit := some (r.deviation t.pos) })
    (B := fun q => { q with state := .atFolder, window := none,
                            absorption := some (s.newAbsorption r .exit t.pos (spanErase r.span t.lane)) })
    (fun _ => ⟨rfl, rfl⟩) (fun _ => rfl) hr
  obtain ⟨v, hv⟩ : ∃ v : State, v = s.matching r.number
    (fun q => { q with exitLead := some t.pos, devExit := some (r.deviation t.pos) })
    (fun q => { q with state := .atFolder, window := none,
                       absorption := some (s.newAbsorption r .exit t.pos (spanErase r.span t.lane)) }) several t := ⟨_, rfl⟩
  rw [← hv] at honly hfound hnotes
  have hexit : s.matchExit r several t = (v.learnSlip r.number).handOver r.number := by rw [hv]; rfl
  obtain ⟨hpieces, hfaults⟩ := v.learnSlip_kept r.number
  obtain ⟨q, hq⟩ := State.handOver_handsOver ((State.findPiece_congr hpieces r.number).trans hfound)
  rw [← hexit] at hq
  exact ⟨v, q, hfound, honly.lots.matcher, honly.lots.mgmt, hq.found, hq.kept, hq.ticket, hq.matcher,
    hnotes.congr (hq.faults.trans hfaults)⟩

end

end Sys2Proof.Machine

/-! SUPPORT. The tests of a sample on the Checkpoint Matcher's records (R68, R84 to R88, R116). -/

namespace Sys2Proof.Machine

open Sys2Proof

section

variable {s : State} {n : Half} {r : Piece} {w : Window}

/-! ### A window that closes (R84, R85, R116) -/

/-- The fault of a window closed with no match (R84, R85). -/
def State.missingFault (s : State) (r : Piece) (w : Window) : Raised :=
  { code := missingCode w.kind, severity := .piece, piece := some r.number, site := .lane r.lane,
    position := some s.travel.position }

/-- The position is past the close point and the margin of a record's window (R68). -/
def State.pastClose (s : State) (r : Piece) (w : Window) : Prop :=
  0 < (s.travel.position - (w.closePt + BitVec.ofNat 32 (s.closeMargin w.kind r.span))).toInt

theorem State.testWindow_closes (hr : s.findPiece n = some r) (hw : r.window = some w) (hblind : s.blind w.kind r.span = false)
    (hpast : s.pastClose r w) :
    s.testWindow n = (s.logFault (s.missingFault r w)).removePiece n (missingOutcome w.kind) := by
  have hpasses : passes s.travel.position (posAdd w.closePt (s.closeMargin w.kind r.span : Nat)) = true := decide_eq_true hpast
  simp only [State.testWindow, hr, hw, hblind, hpasses, Bool.false_eq_true, if_true, if_false, State.closeWindow]
  rw [State.recordFault_eq_logFault _ _ (.inl (by simp)), State.findPiece_number hr]
  simp only [State.missingFault, State.findPiece_number hr]

theorem State.testWindow_waits (hr : s.findPiece n = some r) (hw : r.window = some w)
    (hopen : s.blind w.kind r.span = false → ¬ s.pastClose r w)
    (hahead : s.blind w.kind r.span = true → (s.travel.position - w.expected).toInt < 0) : s.testWindow n = s := by
  cases hblind : s.blind w.kind r.span with
  | true =>
    have hreaches : reaches s.travel.position w.expected = false := decide_eq_false (not_le.mpr (hahead hblind))
    simp only [State.testWindow, hr, hw, hblind, hreaches, Bool.false_eq_true, if_true, if_false]
  | false =>
    have hpasses : passes s.travel.position (posAdd w.closePt (s.closeMargin w.kind r.span : Nat)) = false :=
      decide_eq_false (hopen hblind)
    simp only [State.testWindow, hr, hw, hblind, hpasses, Bool.false_eq_true, if_false]

/-- Only at LANE_EXIT is the removal an evaluation event (R99, R116). -/
theorem missingOutcome_evaluated {k : Checkpoint} (h : r.evaluatedBy (missingOutcome k)) : k = .laneExit := by
  obtain ⟨-, -, ho⟩ := h
  cases k with
  | laneExit => rfl
  | inlet => simp [missingOutcome] at ho
  | exit => simp [missingOutcome] at ho

/-- What the closing of a window leaves of the table, the totals, the batch and the faults. -/
structure State.WindowCloses (s t : State) (n : Half) (r : Piece) (k : Checkpoint) (f : Raised) : Prop where
  gone : k ≠ .laneExit ∨ s.line.state ≠ .run → t.findPiece n = none
  held : ∀ q ∈ s.pieces.records, q.number ≠ n → q ∈ t.pieces.records
  fresh : ∀ q ∈ t.pieces.records, (q ∈ s.pieces.records ∧ q.number ≠ n) ∨
    (k = .laneExit ∧ s.line.state = .run ∧ q.state = .granted ∧ q.grantPos = some s.travel.position)
  batch : ∀ (i : Nat) (b : BatchEntry), s.line.state = .suspect ∨ (s.line.state = .run ∧ k ≠ .laneExit) →
    r.anonymous = false → s.placeOf r.batch = some i → s.batchAt i = some b → ¬(b.state = .closing ∧ b.live - 1 = 0) →
    t.batchAt i = some (if k = .laneExit then { b with live := b.live - 1 }
      else { b with live := b.live - 1 }.count r.article .lost)
  lost : t.pieces.lost = s.pieces.lost + (if k = .laneExit then 0 else 1)
  discharged : t.pieces.discharged = s.pieces.discharged
  lane : k = .laneExit → r.state = .granted → r.anonymous = false →
    (t.lane r.lane).run = .idle ∧ (t.lane r.lane).request = none
  withdrawn : k = .laneExit → r.state = .granted → State.grantWithdrawn s t n
  recorded : State.recorded s t f

theorem State.logFault_grantWithdrawn {f : Raised} {t : State} (h : State.grantWithdrawn (s.logFault f) t n) :
    State.grantWithdrawn s t n := by
  unfold State.grantWithdrawn at *
  rwa [(s.logFault_blocks f).2.2.2, (s.logFault_lotsOnly f).line, (s.logFault_lotsOnly f).travel] at h

theorem State.windowCloses (hr : s.findPiece n = some r) (hstill : s.removesStill r) (k : Checkpoint) (f : Raised) :
    s.WindowCloses ((s.logFault f).removePiece n (missingOutcome k)) n r k f := by
  obtain ⟨u, hu⟩ : ∃ u : State, u = s.logFault f := ⟨_, rfl⟩
  have hlots : s.LotsOnly u := hu ▸ s.logFault_lotsOnly f
  have hpieces : u.pieces = s.pieces := hu ▸ (s.logFault_blocks f).1
  have hfound : u.findPiece n = some r := (State.findPiece_congr hpieces n).trans hr
  have hreadies : s.Readies u n := hu ▸ s.logFault_readies f n
  have hrecorded : State.recorded s u f := hu ▸ s.logFault_recorded f
  have hquiet (h : k ≠ .laneExit ∨ s.line.state ≠ .run) : s.line.state ≠ .run ∨ ¬ r.evaluatedBy (missingOutcome k) :=
    h.symm.imp id fun hk hevaluated => hk (missingOutcome_evaluated hevaluated)
  rw [← hu]
  obtain ⟨hlost, hdischarged⟩ := hreadies.totalled (missingOutcome k) hfound
  refine ⟨fun h => State.findPiece_without (hreadies.removed hfound hstill (hquiet h)).1,
    fun q hq hne => State.removePiece_held _ hfound (by rwa [hpieces]) hne, fun q hq => ?_,
    fun i b hruns hanonymous hi hb hlive => ?_, ?_, ?_, fun hk hgranted hanonymous => ?_, fun hk hgranted => ?_, ?_⟩
  · by_cases h : k ≠ .laneExit ∨ s.line.state ≠ .run
    · rw [(hreadies.removed hfound hstill (hquiet h)).1] at hq
      exact .inl ((List.mem_filter.mp hq).imp id fun h => by simpa using h)
    · simp only [ne_eq, not_or, not_not] at h
      have hfresh := State.removePiece_fresh _ hfound hq
      rw [hpieces, hlots.line, hlots.travel] at hfresh
      exact hfresh.imp id fun hnew => ⟨h.1, hnew⟩
  · have hstays : s.line.state ≠ .draining := by
      rcases hruns with h | h
      · simp [h]
      · simp [h.1]
    have hentry := hreadies.batchAt (o := missingOutcome k) hfound hstill
      (hquiet (hruns.symm.imp And.right fun h => by simp [h])) (.inl hstays) hanonymous hi hb hlive
    rw [hentry]
    cases k <;> rfl
  · rw [hlost]
    cases k <;> simp [missingOutcome, PieceTable.countRemoval]
  · rw [hdischarged]
    cases k <;> rfl
  · subst hk
    obtain ⟨hrun, hrequest, -⟩ := State.removePiece_idle hfound hgranted hanonymous (.inr rfl)
    exact ⟨hrun, hrequest⟩
  · subst hk
    exact State.logFault_grantWithdrawn (f := f) (hu ▸ State.removePiece_grantWithdrawn hfound hgranted (.inr rfl))
  · by_cases h : s.line.state ≠ .run ∨ ¬ r.evaluatedBy (missingOutcome k)
    · exact State.recorded_faults (hreadies.removed hfound hstill h).2.1 hrecorded
    · simp only [ne_eq, not_or, not_not] at h
      have hquietly := hreadies.removesStill hstill
      have hrun : u.line.state = .run := by rw [hlots.line]; exact h.1
      exact State.recorded_faults (State.removePiece_evaluated hfound hrun
        (hquietly.resolve_left fun hne => hne hrun) h.2).1 hrecorded

/-! ### A passage by prediction (R87, R88) -/

theorem State.testWindow_predicts (hr : s.findPiece n = some r) (hw : r.window = some w) (hk : w.kind ≠ .inlet)
    (hblind : s.blind w.kind r.span = true) (hreached : 0 ≤ (s.travel.position - w.expected).toInt) :
    s.testWindow n = s.predictPass r w := by
  have hreaches : reaches s.travel.position w.expected = true := decide_eq_true hreached
  cases hkind : w.kind with
  | inlet => exact absurd hkind hk
  | laneExit => rw [hkind] at hblind; simp only [State.testWindow, hr, hw, hkind, hblind, hreaches, if_true]
  | exit => rw [hkind] at hblind; simp only [State.testWindow, hr, hw, hkind, hblind, hreaches, if_true]

/-- A record that passes LANE_EXIT by prediction: its lane is IDLE (R87, R115). -/
theorem State.predictPass_laneExit (hr : s.findPiece n = some r) (hk : w.kind = .laneExit) :
    (s.predictPass r w).findPiece n = some { r with
      laneExitLead := some w.expected, state := .onFeed, window := some (s.inletWindow r.lane w.expected) } ∧
    ((s.predictPass r w).lane r.lane).run = .idle := by
  obtain rfl : r.number = n := State.findPiece_number hr
  obtain ⟨u, hu⟩ : ∃ u : State, u = (s.onPiece r.number fun q =>
    { q with laneExitLead := some w.expected, state := .onFeed,
             window := some (s.inletWindow r.lane w.expected) }).withoutRequest r.lane := ⟨_, rfl⟩
  have hpass : s.predictPass r w = u.evaluate := by
    rw [State.predictPass, hk, hu]
    rfl
  have hfound : u.findPiece r.number = some { r with
      laneExitLead := some w.expected, state := .onFeed, window := some (s.inletWindow r.lane w.expected) } := by
    have h := s.onPiece_findPiece r.number r.number (f := fun q => { q with
      laneExitLead := some w.expected, state := .onFeed, window := some (s.inletWindow r.lane w.expected) }) (fun _ => rfl)
    rw [if_pos rfl, hr] at h
    rw [hu]
    exact h
  rw [hpass]
  exact ⟨u.evaluate_lotMoves.grown.finds _ _ hfound,
    (State.evaluate_rests (hu ▸ State.withoutRequest_rests _ r.lane)).1⟩

/-- A record that passes EXIT by prediction is handed over (R87, R137). -/
theorem State.predictPass_exit (hr : s.findPiece n = some r) (hk : w.kind = .exit) :
    ∃ q, (s.predictPass r w).findPiece n = some q ∧ q.exitLead = some w.expected ∧ q.state = .atFolder ∧ q.window = none ∧
      (q.ticket = .sent ∨ q.ticket = .pending) := by
  obtain rfl : r.number = n := State.findPiece_number hr
  obtain ⟨u, hu⟩ : ∃ u : State, u = s.onPiece r.number fun q =>
    { q with exitLead := some w.expected, state := .atFolder, window := none } := ⟨_, rfl⟩
  have hpass : s.predictPass r w = u.handOver r.number := by
    rw [State.predictPass, hk, hu]
  have hfound : u.findPiece r.number = some { r with exitLead := some w.expected, state := .atFolder, window := none } := by
    rw [hu, s.onPiece_findPiece _ _ (by exact fun _ => rfl), if_pos rfl, hr]
    rfl
  obtain ⟨q, hq⟩ := State.handOver_handsOver hfound
  rw [hpass]
  exact ⟨q, hq.found, by rw [hq.kept], by rw [hq.kept], by rw [hq.kept], hq.ticket⟩

/-- A record that passes INLET by prediction: its trail is final (R81, R88). -/
theorem State.testWindow_passesInlet (hr : s.findPiece n = some r) (hw : r.window = some w) (hk : w.kind = .inlet)
    (hblind : s.blind .inlet r.span = true) (hreached : 0 ≤ (s.travel.position - w.expected).toInt) :
    ∃ q, (s.testWindow n).findPiece n = some q ∧ q.inletLead = some w.expected ∧ q.doubt = true ∧ q.state = .inIroner ∧
      q.measurement = none ∧ q.inletTrail = some (w.expected + BitVec.ofNat 32 (s.lengthBasis r)) ∧ q.trailFinal = true ∧
      q.measured = some (w.expected + BitVec.ofNat 32 (s.lengthBasis r) - w.expected).toInt ∧
      q.window = some (s.exitWindow r.lane w.expected) := by
  obtain rfl : r.number = n := State.findPiece_number hr
  rw [State.testWindow_blindInlet hr hw hk hblind hreached]
  obtain ⟨u, hu⟩ : ∃ u : State, u = s.onPiece r.number fun q =>
    { q with inletLead := some w.expected, doubt := true, state := .inIroner,
             window := some (s.exitWindow r.lane w.expected), measurement := none } := ⟨_, rfl⟩
  have hfound : u.findPiece r.number = some { r with
      inletLead := some w.expected, doubt := true, state := .inIroner,
      window := some (s.exitWindow r.lane w.expected), measurement := none } := by
    rw [hu, s.onPiece_findPiece _ _ (by exact fun _ => rfl), if_pos rfl, hr]
    rfl
  have hfinal := State.finalTrail_final (r := { r with inletLead := some w.expected }) (lead := w.expected) hfound rfl
    (w.expected + BitVec.ofNat 32 (s.lengthBasis r))
  obtain ⟨htrail, hend, hmeasured, hmeasurement, hdoubt, hlead, hstate, hwindow, -⟩ := Piece.checked_kept { r with
    inletLead := some w.expected, doubt := true, state := .inIroner, window := some (s.exitWindow r.lane w.expected)
    inletTrail := some (w.expected + BitVec.ofNat 32 (s.lengthBasis r)), trailFinal := true
    measured := some (posDiff (w.expected + BitVec.ofNat 32 (s.lengthBasis r)) w.expected), measurement := none }
    r.snapshot (posDiff (w.expected + BitVec.ofNat 32 (s.lengthBasis r)) w.expected)
  rw [← hu]
  exact ⟨_, hfinal.found, hlead, hdoubt, hstate, hmeasurement, htrail, hend, hmeasured, hwindow⟩

/-! ### The tests of one record (R68; log 13) -/

theorem State.testAbsorption_eq {a : Absorption} (hr : s.findPiece n = some r) (ha : r.absorption = some a) :
    s.testAbsorption n = if 0 < (s.travel.position - a.endPos).toInt then
      { s with pieces := { s.pieces with
        records := s.pieces.records.map fun q => if q.number = n then { q with absorption := none } else q } }
    else s := by
  by_cases hpast : 0 < (s.travel.position - a.endPos).toInt
  · have hpasses : passes s.travel.position a.endPos = true := decide_eq_true hpast
    simp only [State.testAbsorption, hr, ha, hpasses, hpast, if_true, State.onPiece, State.onPieces, beq_iff_eq]
  · have hpasses : passes s.travel.position a.endPos = false := decide_eq_false hpast
    simp only [State.testAbsorption, hr, ha, hpasses, hpast, Bool.false_eq_true, if_false]

/-- A number that no record has is tested with no effect. -/
theorem State.testRecord_absent {b : Piece} (h : s.findPiece b.number = none) : s.testRecord b = s := by
  have hclearing : s.testClearing b.number = s := by simp only [State.testClearing, h]
  have hlimit : s.testLimit b.number = s := by simp only [State.testLimit, h]
  have habsorption : s.testAbsorption b.number = s := by simp only [State.testAbsorption, h]
  have hwindow : s.testWindow b.number = s := by simp only [State.testWindow, h]
  simp only [State.testRecord, hclearing, hlimit, habsorption, hwindow, ite_self]

theorem State.testRecord_eq {b : Piece} {u v : State} (hr : s.findPiece b.number = some r)
    (hu : u = if b.measurement = none then s.testClearing b.number else (s.testClearing b.number).testLimit b.number)
    (hv : v = if r.absorption.map (fun a => a.kind) = b.absorption.map (fun a => a.kind) then u.testAbsorption b.number
      else u) : s.testRecord b =
      if r.window.map (fun w => w.kind) = b.window.map (fun w => w.kind) then v.testWindow b.number else v := by
  have hmeasuring : (if b.measurement.isSome = true then (s.testClearing b.number).testLimit b.number
      else s.testClearing b.number) = u := by
    rw [hu]
    cases b.measurement <;> simp
  simp only [State.testRecord, hr, Option.bind_some, hmeasuring, beq_iff_eq]
  rw [hv]

end

end Sys2Proof.Machine

/-! SUPPORT. The obligation on the Checkpoint Matcher (R20, R43, R45, R50, R51, R66 to R77, R84 to R90). -/

namespace Sys2Proof.Machine

open Sys2Proof

/-! ### A TRAVEL of delta 0 in SUSPECT, with one record past its window (R5, R68) -/

theorem State.dueEyes_nil {s : State} (h : ∀ x ∈ s.eyes.map, x.dyn.pending = none) : s.dueEyes = [] := by
  have hnone (x : Eye) (hx : x ∈ s.eyes.map) (p : Pos) : x.due p = none := by
    rw [Eye.due, h x hx]
    split <;> rfl
  have hlist : (s.eyes.map.zipIdx.filterMap fun x => (x.1.due s.travel.position).map fun p => (x.2, p.pos)) = [] := by
    rw [List.filterMap_eq_nil_iff]
    rintro ⟨x, i⟩ hx
    have hmem : x ∈ s.eyes.map := by
      have hget := List.mem_zipIdx hx
      exact hget.2.2 ▸ List.getElem_mem _
    rw [hnone x hmem]
    rfl
  rw [State.dueEyes, hlist]
  rfl

theorem State.confirmDue_none {s : State} (h : ∀ x ∈ s.eyes.map, x.dyn.pending = none) : s.confirmDue = s := by
  rw [State.confirmDue, State.dueEyes_nil h]
  rfl

/-- With no record pending no deadline is tested (R143). -/
theorem State.testDeadlines_noRecord {s : State} (h : s.pieces.records = []) (before : List Piece) :
    s.testDeadlines before = s := by
  have hpending (c : Lane) : s.pendingOf c = [] := by rw [State.pendingOf, h]; rfl
  simp [State.testDeadlines, allLanes, hpending]

/-- The tests of a record alone in the table that is past its window, in SUSPECT: it is gone (R68, R84, R85). -/
theorem State.testRecord_closes {s : State} {r : Piece} {w : Window} (hstate : s.line.state = .suspect)
    (hrecords : s.pieces.records = [r]) (hw : r.window = some w) (hm : r.measurement = none)
    (hblind : s.blind w.kind r.span = false) (hpast : s.pastClose r w) :
    (s.testRecord r).pieces.records = [] ∧ (s.testRecord r).line.state = .suspect ∧
      (s.testRecord r).pieces.lost = s.pieces.lost + (if w.kind = .laneExit then 0 else 1) := by
  have hr : s.findPiece r.number = some r := State.findPiece_first (pre := []) (post := []) hrecords (by simp)
  have hclearing : s.testClearing r.number = s := by simp only [State.testClearing, hr, hm]
  obtain ⟨v, hv⟩ : ∃ v : State, v = s.testAbsorption r.number := ⟨_, rfl⟩
  have htest : s.testRecord r = v.testWindow r.number := by
    rw [State.testRecord_eq hr rfl rfl, if_pos rfl, if_pos rfl, if_pos hm, hclearing, hv]
  have habsorbed : s.PiecesOnly v ∧ v.pieces.lost = s.pieces.lost ∧ ∃ a, v.pieces.records = [{ r with absorption := a }] := by
    cases ha : r.absorption with
    | none =>
      have hsame : v = s := by rw [hv]; simp only [State.testAbsorption, hr, ha]
      rw [hsame]
      exact ⟨.rfl' s, rfl, none, by rw [hrecords, ← ha]⟩
    | some a =>
      rw [hv, State.testAbsorption_eq hr ha]
      split
      · exact ⟨⟨⟨rfl, rfl, rfl, rfl, rfl, rfl, rfl, rfl, rfl, rfl⟩, rfl, rfl⟩, rfl, none, by simp [hrecords]⟩
      · exact ⟨.rfl' s, rfl, some a, by rw [hrecords, ← ha]⟩
  obtain ⟨honly, hlost, a, hleft⟩ := habsorbed
  have hr' : v.findPiece r.number = some { r with absorption := a } :=
    State.findPiece_first (r := { r with absorption := a }) (pre := []) (post := []) hleft (by simp)
  have hline : v.line.state = .suspect := by rw [honly.lots.line]; exact hstate
  have hblind' : v.blind w.kind r.span = false := by
    unfold State.blind State.eyeDegraded State.eyeFor at *
    rwa [honly.lots.eyes]
  have hpast' : v.pastClose { r with absorption := a } w := by
    unfold State.pastClose State.closeMargin State.eyeLength State.eyeFor at *
    rwa [honly.lots.eyes, honly.lots.travel]
  rw [htest, State.testWindow_closes (r := { r with absorption := a }) hr' hw hblind' hpast']
  have hcloses := State.windowCloses hr' (.inl (by simp [hline])) w.kind (v.missingFault { r with absorption := a } w)
  refine ⟨?_, ?_, hcloses.lost.trans (by rw [hlost])⟩
  · refine List.eq_nil_iff_forall_not_mem.mpr fun q hq => ?_
    rcases hcloses.fresh q hq with ⟨hold, hne⟩ | ⟨-, hrun, -⟩
    · rw [hleft, List.mem_singleton] at hold
      exact hne (by rw [hold])
    · exact absurd (hline.symm.trans hrun) (by simp)
  · have hfound : (v.logFault (v.missingFault { r with absorption := a } w)).findPiece r.number =
        some { r with absorption := a } := (State.logFault_findPiece _ _ _).trans hr'
    have hlogged : (v.logFault (v.missingFault { r with absorption := a } w)).line.state = .suspect := by
      rw [(v.logFault_lotsOnly _).line]
      exact hline
    rw [State.removePiece_line hfound (by simp [hlogged]) (.inl (by simp [hlogged]))]
    exact hlogged

/-- The sample of such a frame. -/
theorem State.actOnSample_closes {s : State} {r : Piece} {w : Window} (hstate : s.line.state = .suspect)
    (hrecords : s.pieces.records = [r]) (hw : r.window = some w) (hm : r.measurement = none)
    (hpending : ∀ x ∈ s.eyes.map, x.dyn.pending = none) (hblind : s.blind w.kind r.span = false)
    (hpast : s.pastClose r w) :
    s.actOnSample.pieces.records = [] ∧ s.actOnSample.line.state = .suspect ∧
      s.actOnSample.pieces.lost = s.pieces.lost + (if w.kind = .laneExit then 0 else 1) := by
  obtain ⟨hempty, hline, hlost⟩ := State.testRecord_closes hstate hrecords hw hm hblind hpast
  obtain ⟨u, hu⟩ : ∃ u : State, u = s.testRecord r := ⟨_, rfl⟩
  rw [← hu] at hempty hline hlost
  have hevaluated : u.evaluate = u.dropTails := State.evaluate_notRun u (by simp [hline])
  have hsample : s.actOnSample = u.dropTails := by
    rw [s.actOnSample_eq rfl, State.confirmDue_none hpending, if_neg (by simp [hstate]), hrecords,
      show s.testRecords [r] = u from hu.symm, hevaluated]
    exact State.testDeadlines_noRecord (s := u.dropTails) hempty _
  rw [hsample]
  exact ⟨hempty, hline, hlost⟩

/-- The TRAVEL itself. -/
theorem exec_travel_closes {e : Envelope} {stamp : Stamp} {run : Byte} {s : State} {r : Piece} {w : Window}
    (hown : s.admitsOwn (travelFrame e 0 stamp run) = true) (hremainder : s.travel.remainder < 1024)
    (hstate : s.line.state = .suspect) (hrecords : s.pieces.records = [r]) (hw : r.window = some w)
    (hm : r.measurement = none) (hpending : ∀ x ∈ s.eyes.map, x.dyn.pending = none)
    (hblind : s.blind w.kind r.span = false) (hpast : s.pastClose r w) :
    ∃ t : State, exec (.travel e 0 stamp run) s = .next t ∧ t.pieces.records = [] ∧ t.line.state = .suspect ∧
      t.travel.position = s.travel.position ∧
      t.pieces.lost = s.pieces.lost + (if w.kind = .laneExit then 0 else 1) := by
  have hsum : ((0 : Half).toNat * s.mgmt.line.scale + s.travel.remainder) / 1024 = 0 := by
    rw [show (0 : Half).toNat = 0 from rfl, Nat.zero_mul, Nat.zero_add]
    exact Nat.div_eq_of_lt hremainder
  have hexec := exec_travel hown (State.takeTravel_stepped (s := s.received) (src := e.src) (stamp := stamp) (run := run)
    (by decide) (hsum.trans_le (Nat.zero_le _)))
  obtain ⟨p, hp⟩ : ∃ p, p = s.travel.stepped run ((0 : Half).toNat * s.mgmt.line.scale + s.travel.remainder) stamp := ⟨_, rfl⟩
  obtain ⟨hposition, -⟩ := TravelUnit.stepped_fields s.travel run _ stamp hp
  rw [hsum, show BitVec.ofNat 32 0 = 0#32 from rfl, BitVec.add_zero] at hposition
  obtain ⟨u, hu⟩ : ∃ u : State, u = { s.received with travel := p } := ⟨_, rfl⟩
  rw [show s.received.travel.stepped run ((0 : Half).toNat * s.received.mgmt.line.scale + s.received.travel.remainder)
    stamp = p from hp.symm, ← hu] at hexec
  have hclosed := State.actOnSample_closes (s := u) (by rw [hu]; exact hstate) (by rw [hu]; exact hrecords) hw hm
    (by rw [hu]; exact hpending) (by rw [hu]; exact hblind) (by
      rw [hu, State.pastClose, show ({ s.received with travel := p } : State).travel.position = s.travel.position from hposition]
      exact hpast)
  obtain ⟨hempty, hline, hlost⟩ := hclosed
  have htravel : u.actOnSample.travel.position = s.travel.position := by
    rw [u.actOnSample_trackOnly.travel, hu]
    exact hposition
  have hcount : u.pieces.lost = s.pieces.lost := by rw [hu]; rfl
  obtain ⟨v, hv⟩ : ∃ v : State, v = u.actOnSample := ⟨_, rfl⟩
  rw [← hv] at hexec hempty hline hlost htravel
  rw [hcount] at hlost
  exact ⟨_, hexec, hempty, hline, htravel, hlost⟩

end Sys2Proof.Machine

/-! SUPPORT. The obligation on the Checkpoint Matcher, assembled (R20, R43, R45, R50, R51, R66 to R77, R84 to R90). -/

namespace Sys2Proof.Machine

open Sys2Proof

/-! ### The match, by checkpoint (R70 to R73) -/

/-- What the record and the faults show of a match's doubt: the same at each checkpoint (R20, R70). -/
theorem State.NotesTwo.matched {s u : State} {t : Transition} {r : Piece} {doubt : Bool} {few : Nat}
    (h : s.NotesTwo u r.doubt (decide (1 < few)) t.stale (t.ambiguousFault r.number) (t.staleFault r.number))
    (hdoubt : doubt = (r.doubt || decide (1 < few) || t.stale)) :
    (r.doubt = false → 1 < few → State.recorded s u (t.ambiguousFault r.number)) ∧
    (r.doubt = false → few ≤ 1 → t.stale = true → State.recorded s u (t.staleFault r.number)) ∧
    (r.doubt = true ∨ doubt = false → u.faults = s.faults) := by
  refine ⟨fun hd hmany => h.first (decide_eq_true hmany) hd,
    fun hd hfew hstale => h.second (decide_eq_false (not_lt.mpr hfew)) hstale hd, fun hquiet => h.quiet ?_⟩
  refine hquiet.imp id fun hclear => ?_
  rw [hclear] at hdoubt
  have hparts := (Bool.or_eq_false_iff.mp hdoubt.symm)
  exact ⟨(Bool.or_eq_false_iff.mp hparts.1).2, hparts.2⟩

theorem Piece.deviation_window {r : Piece} {w : Window} (hw : r.window = some w) (p : Pos) :
    r.deviation p = (p - w.expected).toInt := by
  simp only [Piece.deviation, hw, posDiff]

theorem doubt_of_cause {d stale : Bool} {few : Nat} (h : stale = true ∨ 1 < few) :
    (d || decide (1 < few) || stale) = true := by
  rcases h with h | h
  · rw [h, Bool.or_true]
  · rw [decide_eq_true h, Bool.or_true, Bool.true_or]

section

variable {s : State} {t : Transition} {r r0 : Piece} {basis : Nat}

/-- The candidates' nearest is a record of the table, so its number is found. -/
theorem State.nearest_found (h : nearest t.pos (s.candidates t) = some r) : ∃ r0, s.findPiece r.number = some r0 := by
  obtain ⟨pre, post, hsplit, -⟩ := nearest_first t.pos h
  have hmem : r ∈ s.candidates t := hsplit ▸ List.mem_append_right _ List.mem_cons_self
  have hsome : (s.findPiece r.number).isSome = true :=
    List.find?_isSome.mpr ⟨r, (State.mem_candidates.mp hmem).1, by simp⟩
  exact Option.isSome_iff_exists.mp hsome

end

/-! ### Orphans -/

/-- An orphan that finds the table full (R51, R76). -/
theorem takeBlock_full {s : State} {t : Transition} (hnone : s.candidates t = [])
    (habsorb : ∀ r ∈ s.pieces.records, r.canAbsorb t.kind t.lane = false) (hk : t.kind ≠ .laneExit)
    (hfull : 128 ≤ s.pieces.records.length) :
    (s.takeBlock t).2 = 0 ∧
    (s.takeBlock t).1.matcher = (s.countOrphan t.kind).matcher ∧
    (s.takeBlock t).1.line.state = .suspect ∧
    (s.line.state ≠ .suspect → (s.takeBlock t).1.line.cause = some .tableFull) ∧
    (s.line.state = .suspect →
      (s.takeBlock t).1.line.cause = s.line.cause ∧ (s.takeBlock t).1.pieces = s.pieces) ∧
    State.recorded s (s.takeBlock t).1 { code := .tableFull, severity := .line, piece := none,
                                         site := t.site, position := some t.pos } := by
  let f : Raised := { code := .tableFull, severity := .line, piece := none, site := t.site, position := some t.pos }
  obtain ⟨u, hu⟩ : ∃ u : State, u = s.countOrphan t.kind := ⟨_, rfl⟩
  have hcounted : u.pieces = s.pieces ∧ u.faults = s.faults ∧ u.travel = s.travel ∧ u.line = s.line := by
    rw [hu]
    cases t.kind <;> exact ⟨rfl, rfl, rfl, rfl⟩
  obtain ⟨hpieces, hfaults, htravel, hline⟩ := hcounted
  have htaken : s.takeBlock t = (u.recordFault f, 0) := by
    rw [State.takeBlock_orphan hnone habsorb, State.orphan_full hk (decide_eq_true hfull), hu]
    rfl
  rw [htaken, ← hu]
  have hrecorded : State.recorded s (u.recordFault f) f :=
    State.recorded_after hfaults htravel (by rw [hline]) (u.recordFault_recorded f)
  refine ⟨rfl, (u.recordFault_lineOnly f).matcher, ?_, fun hnot => ?_, fun hsuspect => ?_, hrecorded⟩
  · by_cases hsuspect : s.line.state = .suspect
    · rw [u.recordFault_eq_logFault f (.inr (hline ▸ hsuspect)), (u.logFault_lotsOnly f).line, hline]
      exact hsuspect
    · rw [(State.recordFault_enters (s := u) (f := f) rfl (hline ▸ hsuspect)).line]
  · rw [(State.recordFault_enters (s := u) (f := f) rfl (hline ▸ hnot)).line]
  · rw [u.recordFault_eq_logFault f (.inr (hline ▸ hsuspect)), (u.logFault_lotsOnly f).line, (u.logFault_blocks f).1, hline]
    exact ⟨rfl, hpieces⟩

/-- Settles O34: candidates and the nearest, the match by checkpoint, absorption, orphans, and the tests of a sample. -/
theorem pieceMatched : Obligations.PieceMatched := by
  unfold Obligations.PieceMatched
  refine ⟨fun s t => ⟨List.filter_sublist, fun r => ?candidates⟩, fun p l dev hdev => ?nearest,
    fun s t r basis hnear hbasis => ?matched, fun s t r owed m0 skewed hnone hfind hr howes hskewed => ?absorbed,
    fun s n r a hr ha => State.testAbsorption_eq hr ha, fun s t hnone habsorb hk => ?orphanLane,
    fun s t hnone habsorb hk hfull => ?orphanFull, fun s t hnone habsorb hk hroom => ?orphanExit,
    fun s t hnone habsorb hk hroom => ?orphanInlet, fun s n r w hr hw hblind hpast hstill => ?closes,
    fun s n r w hr hw hopen hahead => State.testWindow_waits hr hw (fun h => not_lt.mpr (hopen h)) hahead,
    fun s n r w hr hw hblind hreached => ?predicts, fun s => ⟨rfl, fun b rest => rfl⟩,
    fun s b h => State.testRecord_absent h, fun s u v b r hr hu hv => State.testRecord_eq hr hu hv,
    fun e stamp run s r w hown hremainder hstate hrecords hw hm hpending hblind hpast =>
      exec_travel_closes hown hremainder hstate hrecords hw hm hpending hblind hpast⟩
  case candidates => rw [State.mem_candidates, Piece.windowHolds_iff]; rfl
  case nearest =>
    obtain rfl : dev = fun q => q.deviation p := funext fun q => (hdev q).trans (q.deviation_eq p).symm
    exact ⟨nearest_ne_nil p, fun r h => nearest_first p h⟩
  case matched =>
    obtain ⟨r0, hr0⟩ := State.nearest_found hnear
    have hbasis' : s.lengthBasis r = basis := hbasis ▸ rfl
    have htaken := State.takeBlock_matched hnear
    obtain ⟨few, hfew⟩ : ∃ few, few = (s.candidates t).length := ⟨_, rfl⟩
    rw [← hfew] at htaken ⊢
    have hwindow (w : Window) (hw : r.window = some w) := Piece.deviation_window hw t.pos
    cases hk : t.kind with
    | laneExit =>
      obtain ⟨hevaluates, hfeed, hfound, hline, hbatch, hmatcher, hnotes⟩ :=
        State.matchLaneExit_leaves (t := t) (several := decide (1 < few)) hr0
      have hto : (s.takeBlock t).1 = (s.leftLane r (decide (1 < few)) t).evaluate := by
        rw [htaken]
        simp only [State.matchTo, hk]
        exact hevaluates
      obtain ⟨u, hu⟩ : ∃ u : State, u = s.leftLane r (decide (1 < few)) t := ⟨_, rfl⟩
      rw [← hu] at hto hfeed hfound hline hbatch hmatcher hnotes
      have hrests : u.feed.RestsAt r.lane := hfeed ▸ State.withoutRequest_rests s r.lane
      obtain ⟨hidle, hnorequest, -⟩ := State.evaluate_rests hrests
      rw [hto, show (s.takeBlock t).2 = r.number from by rw [htaken]]
      refine ⟨rfl, _, u.evaluate_lotMoves.grown.finds _ _ hfound, doubt_of_cause,
        fun _ => u.evaluate_feedOnly.matcher.trans hmatcher, fun doubt hr hdoubt => ?_,
        fun w hw => ⟨fun _ => congrArg some (hwindow w hw), fun h => absurd h (by simp), fun h => absurd h (by simp)⟩,
        fun _ => ⟨hidle, hnorequest, rfl, rfl, ?_, _, rfl, rfl, rfl, ?_, ?_⟩, fun h => absurd h (by simp),
        fun h => absurd h (by simp)⟩
      · obtain rfl : r0 = r := Option.some.inj (hr0.symm.trans hr)
        obtain ⟨hfirst, hsecond, hquiet⟩ := State.NotesTwo.matched (hnotes.congr u.evaluate_feedOnly.faults) hdoubt
        refine ⟨fun _ => ⟨by rw [hdoubt], u, rfl, hfeed, hfound, hline, hbatch⟩, fun h => absurd h (by simp),
          fun h => absurd h (by simp), hfirst, hsecond, hquiet⟩
      · rw [← hbasis']
        rfl
      · rw [State.inletWindow, windowAround_eq]
      · rw [State.inletWindow, windowAround_eq]
    | inlet =>
      obtain ⟨hfound, hmatcher, hnotes⟩ := State.matchInlet_leaves (t := t) (several := decide (1 < few)) hr0
      have hto : (s.takeBlock t).1 = s.matchInlet r (decide (1 < few)) t := by
        rw [htaken]
        simp only [State.matchTo, hk]
      rw [hto, show (s.takeBlock t).2 = r.number from by rw [htaken]]
      refine ⟨rfl, _, hfound, doubt_of_cause, fun _ => hmatcher, fun doubt hr hdoubt => ?_,
        fun w hw => ⟨fun h => absurd h (by simp), fun _ => congrArg some (hwindow w hw), fun h => absurd h (by simp)⟩,
        fun h => absurd h (by simp), fun _ => ⟨rfl, rfl, rfl, _, rfl, rfl, rfl, ?_, ?_⟩, fun h => absurd h (by simp)⟩
      · obtain rfl : r0 = r := Option.some.inj (hr0.symm.trans hr)
        obtain ⟨hfirst, hsecond, hquiet⟩ := State.NotesTwo.matched hnotes hdoubt
        exact ⟨fun h => absurd h (by simp), fun _ => by rw [hdoubt], fun h => absurd h (by simp), hfirst, hsecond, hquiet⟩
      · rw [State.exitWindow, windowAround_eq]
      · rw [State.exitWindow, windowAround_eq]
    | exit =>
      obtain ⟨v, q, hv, hvmatcher, hvmgmt, hfound, hkept, hticket, hmatcher, hnotes⟩ :=
        State.matchExit_leaves (t := t) (several := decide (1 < few)) hr0
      have hto : (s.takeBlock t).1 = s.matchExit r (decide (1 < few)) t := by
        rw [htaken]
        simp only [State.matchTo, hk]
      rw [hto, show (s.takeBlock t).2 = r.number from by rw [htaken]]
      refine ⟨rfl, q, hfound, fun h => ?_, fun h => absurd rfl h, fun doubt hr hdoubt => ?_,
        fun w hw => ⟨fun h => absurd h (by simp), fun h => absurd h (by simp), fun _ => ?_⟩,
        fun h => absurd h (by simp), fun h => absurd h (by simp), fun _ => ⟨?_, ?_, ?_, ?_, hticket⟩⟩
      · rw [hkept]
        exact doubt_of_cause h
      · obtain rfl : r0 = r := Option.some.inj (hr0.symm.trans hr)
        obtain ⟨hfirst, hsecond, hquiet⟩ := State.NotesTwo.matched hnotes hdoubt
        have hdoubt' : (s.exited r0 r0 (decide (1 < few)) t).doubt = doubt := hdoubt.symm
        refine ⟨fun h => absurd h (by simp), fun h => absurd h (by simp), fun _ => ⟨?_, fun hd => ?_, fun i d hd hi hraw => ?_⟩,
          hfirst, hsecond, hquiet⟩
        · rw [hkept, hdoubt]
          rfl
        · rw [hmatcher, State.learnSlip_doubted hv (hdoubt'.trans hd), hvmatcher]
        · rw [hmatcher, State.learnSlip_learned (x := t.pos) (i := i) hv (hdoubt'.trans hd) rfl hi, hraw]
          show ({ v.matcher with slip := _ } : Matcher) = _
          rw [hvmatcher, hvmgmt]
          rfl
      · rw [hkept]
        exact congrArg some (hwindow w hw)
      · rw [hkept]
        rfl
      · rw [hkept]
        rfl
      · rw [hkept]
        rfl
      · rw [hkept, ← hbasis']
        rfl
  case absorbed =>
    have htaken : s.takeBlock t = (s.absorb r t, r.number) := by
      simp only [State.takeBlock, hnone, nearest, hfind]
    obtain ⟨hfound, hnotes⟩ := State.absorb_leaves hr howes hskewed
    rw [htaken]
    refine ⟨rfl, hfound.trans ?_, hnotes.first, hnotes.second, hnotes.quiet⟩
    rw [Piece.dropOwed_eq]
    rfl
  case orphanLane =>
    have htaken := (State.takeBlock_orphan hnone habsorb).trans (State.orphan_laneExit hk)
    rw [htaken]
    refine ⟨rfl, (State.logFault_blocks _ _).1, (State.logFault_lotsOnly _ _).matcher, ?_⟩
    exact State.recorded_after (u := s.countOrphan .laneExit) rfl rfl rfl (State.logFault_recorded _ _)
  case orphanFull =>
    obtain ⟨hzero, hmatcher, hstate, hcause, hkept, hrecorded⟩ := takeBlock_full hnone habsorb hk hfull
    refine ⟨hzero, hmatcher.trans ?_, hstate, hcause, hkept, hrecorded⟩
    cases hkind : t.kind with
    | laneExit => exact absurd hkind hk
    | inlet => rfl
    | exit => rfl
  case orphanExit =>
    have hroom' : s.tableFull = false := State.tableFull_eq_false.mpr hroom
    obtain ⟨u, hu⟩ : ∃ u : State, u = ((s.countOrphan .exit).addRecord (s.exitOrphan t)).logFault
      (t.orphanFault .orphanExit s.newNumber) := ⟨_, rfl⟩
    have htaken : s.takeBlock t = (u.handOver s.newNumber, s.newNumber) := by
      rw [State.takeBlock_orphan hnone habsorb, State.orphan_exit hk hroom', hu]
    obtain ⟨hfound, hmatcher, hrecorded, hcreates⟩ := State.orphaned (k := .exit) hroom' (r := s.exitOrphan t) rfl _ hu
    obtain ⟨q, hq⟩ := State.handOver_handsOver hfound
    have hnumber : q.number = s.newNumber := by rw [hq.kept]; rfl
    have hcreated := hcreates _ hq.counter hq.numbers
    rw [htaken]
    refine ⟨q, hq.found, State.newNumber_absent hroom', by rw [hq.kept]; rfl, by rw [hq.kept]; rfl, by rw [hq.kept]; rfl,
      by rw [hq.kept]; rfl, by rw [hq.kept]; rfl, by rw [hq.kept]; rfl, by rw [hq.kept]; rfl, by rw [hq.kept]; rfl, ?_,
      hq.reject (by simp [State.exitOrphan]), by rw [hq.kept]; rfl, ?_, by rw [hq.kept]; rfl, hq.ticket,
      hq.matcher.trans hmatcher, ?_⟩
    · rw [hq.kept]
      exact hcreated
    · rw [hq.kept, BitVec.sub_eq_add_neg, ← BitVec.ofInt_neg]
      rfl
    · rw [hnumber]
      exact State.recorded_faults hq.faults hrecorded
  case orphanInlet =>
    have hroom' : s.tableFull = false := State.tableFull_eq_false.mpr hroom
    obtain ⟨u, hu⟩ : ∃ u : State, u = ((s.countOrphan .inlet).addRecord (s.inletOrphan t)).logFault
      (t.orphanFault .orphanInlet s.newNumber) := ⟨_, rfl⟩
    have htaken : s.takeBlock t = (u, s.newNumber) := by
      rw [State.takeBlock_orphan hnone habsorb, State.orphan_inlet hk hroom', hu]
    obtain ⟨hfound, hmatcher, hrecorded, hcreates⟩ := State.orphaned (k := .inlet) hroom' (r := s.inletOrphan t) rfl _ hu
    rw [htaken]
    refine ⟨s.inletOrphan t, hfound, rfl, rfl, rfl, rfl, rfl, rfl, State.newNumber_absent hroom', rfl, rfl, rfl, rfl,
      hcreates u rfl rfl, ?_, rfl, congrArg Matcher.orphanInlet hmatcher, hrecorded⟩
    exact congrArg some (windowAround_eq _ _ _)
  case closes =>
    obtain rfl : r.number = n := State.findPiece_number hr
    rw [State.testWindow_closes hr hw hblind hpast]
    have hcloses := State.windowCloses hr hstill w.kind (s.missingFault r w)
    have hrecorded (c : FaultCode) (hc : c = missingCode w.kind) : State.recorded s
        ((s.logFault (s.missingFault r w)).removePiece r.number (missingOutcome w.kind))
        { code := c, severity := .piece, piece := some r.number, site := .lane r.lane, position := none } :=
      hc ▸ hcloses.recorded
    refine ⟨hcloses.gone, hcloses.held, hcloses.fresh, hcloses.batch, hcloses.lost, hcloses.discharged, hcloses.lane,
      hcloses.withdrawn, hrecorded _ (by cases w.kind <;> rfl)⟩
  case predicts =>
    cases hk : w.kind with
    | laneExit =>
      rw [State.testWindow_predicts hr hw (by simp [hk]) hblind hreached]
      obtain ⟨hfound, hidle⟩ := State.predictPass_laneExit hr hk
      exact ⟨_, hfound, fun _ => ⟨rfl, rfl, rfl, hidle, _, rfl, rfl, rfl⟩, fun h => absurd h (by simp), fun h => absurd h (by simp)⟩
    | inlet =>
      rw [hk] at hblind
      obtain ⟨q, hfound, hlead, hdoubt, hstate, hmeasurement, htrail, hend, hmeasured, hwindow⟩ :=
        State.testWindow_passesInlet hr hw hk hblind hreached
      exact ⟨q, hfound, fun h => absurd h (by simp),
        fun _ => ⟨hlead, hdoubt, hstate, hmeasurement, htrail, hend, hmeasured, _, hwindow, rfl, rfl⟩, fun h => absurd h (by simp)⟩
    | exit =>
      rw [State.testWindow_predicts hr hw (by simp [hk]) hblind hreached]
      obtain ⟨q, hfound, hlead, hstate, hwindow, hticket⟩ := State.predictPass_exit hr hk
      exact ⟨q, hfound, fun h => absurd h (by simp), fun h => absurd h (by simp), fun _ => ⟨hlead, hstate, hwindow, hticket⟩⟩

end Sys2Proof.Machine

/-! SUPPORT. Two records SENT to one folder slot. `State.slotsSound` says that the owner of an OWNED slot is SENT or
DELIVERED to it, not that every record SENT to a slot owns it. A TICKET that comes home not taken for a record that
claims a slot it does not own frees that slot (R142), and the owner's own TICKET, which waits, is left naming a FREE slot. -/

namespace Sys2Proof.Machine

open Sys2Proof

/-- An anonymous record in AT_FOLDER whose ticket is SENT to slot X of channel 1. -/
def claimant (n : Half) : Piece :=
  { Piece.blank n .l1 1 0 with
    anonymous := true, state := .atFolder, doubt := true, reject := .anonymous, ticket := .sent,
    ticketSlot := some (.l1, .x) }

/-- The TICKET of record 2 for slot X of channel 1, as the ring brings it back. -/
def rivalTicket : TicketFields :=
  { channel := 1, slot := 0, piece := 2, article := 0, program := 0, span := 1, length := 0, batch := 0, doubt := 1,
    reason := 0 }

/-- From the part to the folder, with neither the taken nor the busy mark. -/
def rivalHeader : Envelope := { dest := 20, src := 1, marks := 0, check := 0 }

/-- The envelope of that TICKET, its check computed. -/
def rivalEnvelope : Envelope := { rivalHeader with check := crc (ticketFrame rivalHeader rivalTicket).covered }

/-- Records 1 and 2 are both SENT to slot X of channel 1; record 1 owns it and its TICKET waits, the TICKET of record 2
is out on the ring. -/
def rivals : State :=
  { State.reset with
    port := { RingPort.powerOn 1 with
      urgent := [{ dest := 20, msg := .ticket (ticketOf (claimant 1) .l1 .x), suspect := false }]
      ownList := [{ dest := 20, kind := 8, body := (ticketFrame rivalEnvelope rivalTicket).body, age := 0 }] }
    pieces := { PieceTable.powerOn with records := [claimant 1, claimant 2], counter := 3 }
    feed := { FeedSequencer.powerOn with condition := .go }
    folder := { channels := FolderHandoff.powerOn.channels.set .l1 { x := some 1, y := none, next := .y } }
    line := { LineControl.powerOn with state := .run }
    pending := [.ticketReturn rivalEnvelope rivalTicket] }

theorem rivals_sound :
    rivals.trackingSound = true ∧ rivals.urgentSound = true ∧ rivals.ticketsApart = true := by decide

/-- The part when the command has been taken from the queue and the TICKET from the own-frame list. -/
def rivalHome : State := ({ rivals with pending := [] } : State).home (ticketFrame rivalEnvelope rivalTicket)

/-- The part when record 2 has gone as UNDELIVERED. -/
def rivalLost : State := rivalHome.undelivered .l1 .x (claimant 2)

/-- The check is not among the bytes that it covers. -/
theorem envFrame_covered (e : Envelope) (c : Half) (kind : Byte) (body : List Byte) :
    (envFrame { e with check := c } kind body).covered = (envFrame e kind body).covered := rfl

theorem envFrame_intact {e : Envelope} {kind : Byte} {body : List Byte} (hlen : body.length ≤ Config.maxBody)
    (hcheck : e.check = crc (envFrame e kind body).covered) : (envFrame e kind body).intact = true :=
  Bool.and_eq_true_iff.mpr ⟨decide_eq_true hlen, beq_iff_eq.mpr hcheck⟩

theorem rivalTicket_comesHome :
    ({ rivals with pending := [] } : State).comesHome (ticketFrame rivalEnvelope rivalTicket) = true := by
  have hcheck : rivalEnvelope.check = crc (ticketFrame rivalEnvelope rivalTicket).covered := by
    unfold rivalEnvelope ticketFrame
    dsimp only
    exact congrArg crc (envFrame_covered rivalHeader _ 8 _).symm
  have hintact : (ticketFrame rivalEnvelope rivalTicket).intact = true := envFrame_intact (by decide) hcheck
  rw [State.comesHome, hintact]
  rfl

theorem rivals_step : step rivals = .next rivalLost := by
  have hmatch : rivalHome.ticketMatch .l1 .x rivalTicket.piece = some (claimant 2) := by decide
  have hmarks : (isTaken rivalEnvelope.marks && !isBusy rivalEnvelope.marks) = false := by decide
  calc step rivals
      = .next (rivalHome.ticketReturned rivalEnvelope.marks .l1 .x rivalTicket.piece) :=
        exec_ticketReturn rivalTicket_comesHome rfl rfl
    _ = .next rivalLost := by
        simp only [State.ticketReturned, hmatch, hmarks, Bool.false_eq_true, if_false]
        rfl

/-- Slot X is FREE then, and the TICKET of record 1 for it still waits. -/
theorem rivalLost_orphansTicket :
    (rivalLost.channel .l1).owner .x = none ∧ rivalLost.port.urgent = rivals.port.urgent := by decide

/-- Refutes O8: of two records SENT to one slot, the one that does not own it is UNDELIVERED; the slot is freed, and
the owner's waiting TICKET names a slot that its piece no longer owns. -/
theorem not_lanesAndSlotsKept : ¬ Obligations.LanesAndSlotsKept := by
  unfold Obligations.LanesAndSlotsKept
  rintro ⟨-, hkept⟩
  obtain ⟨htracking, hurgent, hapart⟩ := rivals_sound
  obtain ⟨hsound, -⟩ := hkept _ _ htracking hurgent hapart rivals_step
  obtain ⟨hfree, hwaits⟩ := rivalLost_orphansTicket
  simp [State.urgentSound, State.urgentFrameSound, hwaits, rivals, ticketOf, hfree] at hsound

end Sys2Proof.Machine
